-- ==== Sys2Proof/Word.lean ====
section
/-!
DEFINITION. The words of the engine's registers, the bytes of its memories and the wide fields of its
fabric, and the sparse tables every indexed piece of state is held in.
-/

namespace Sys2Proof

/-- A 32-bit register or memory word (R8). -/
abbrev Word := BitVec 32

/-- One byte of a memory, a packet or a record. -/
abbrev Byte := BitVec 8

/-- A 64-bit fabric address, counter or table entry (R15, R32). -/
abbrev DWord := BitVec 64

/-- A sparse table: index and value, indices strictly rising, no entry equal to what an unlisted index
reads as. -/
abbrev Tbl (α : Type) := List (Nat × α)

/-- A site of the grid, numbered `Y * 768 + X` as the flash history numbers it (R19, R420). -/
abbrev SiteId := Fin 294912

end Sys2Proof
end

