-- ==== Sys2Proof/Syntax.lean ====
section
/-!
DEFINITION. The commands the engine takes: one constructor of `Instr` for each row of the opcode table,
with the packets, observations and host data they carry.
-/

namespace Sys2Proof

/-- The three planes of the fabric (R171). -/
inductive Plane where
  | v | s | c
  deriving DecidableEq, Repr

/-- The four links of a router, in the order of their port numbers (R186, R189). -/
inductive Dir where
  | n | e | s | w
  deriving DecidableEq, Repr

/-- A port of a router: a link or the local port (R171, R204). -/
inductive Port where
  | link (d : Dir)
  | loc
  deriving DecidableEq, Repr

/-- A packet of the V or S plane with its 32-byte header (R174). `bytes` is BYTES: the payload's length,
or the length a RD_REQ asks for. `aborted` is the mark of the link framing (R173). -/
structure Packet where
  plane     : Plane
  dest      : DWord
  srcEpid   : BitVec 19
  srcEngine : BitVec 12
  epoch     : Bool
  type      : Byte
  gen       : BitVec 3
  resend    : Bool
  lane      : Bool
  resp      : Byte
  seq       : Byte
  tag       : BitVec 16
  aplane    : Bool
  dx        : BitVec 10
  dy        : BitVec 9
  age       : BitVec 12
  crc       : Word
  bytes     : BitVec 9
  hcrc      : Byte
  payload   : List Byte
  aborted   : Bool
  deriving DecidableEq, Repr

/-- A packet of the C plane (R177). -/
structure CPacket where
  type  : BitVec 4
  gen   : BitVec 3
  epoch : Bool
  lane  : Bool
  vc    : Bool
  dx    : BitVec 10
  dy    : BitVec 9
  arg   : BitVec 16
  sub   : Byte
  chk   : Byte
  deriving DecidableEq, Repr

/-- Where a register access goes: BAR0, or a core's control block by its site (R8, R37, R319). -/
inductive RegTarget where
  | bar0
  | core (k : SiteId)
  deriving DecidableEq, Repr

/-- What a PCIe read of host memory brought: its bytes, or the bytes before its failure and the host-side code of that
(R318, R329, R331). -/
inductive HostRead where
  | data (bytes : List Byte)
  | failed (got : List Byte) (code : Byte)
  deriving DecidableEq, Repr

/-- What a resend timer belongs to: a packet of the retransmit buffer, or a read tag of an access
engine (R200, R201). -/
inductive Waiting where
  | packet (plane : Plane) (seq : Byte)
  | read (a1 : Bool) (tag : BitVec 16)
  deriving DecidableEq, Repr

/-- An access through BAR4 (R322). -/
inductive DebugAccess where
  | read (len : Nat)
  | write (bytes : List Byte)
  deriving DecidableEq, Repr

/-- What a PEER_INFO record carries (R353, R368). -/
structure PeerInfo where
  engine  : BitVec 12
  netEn   : Bool
  lantern : BitVec 6
  enc     : Bool
  serial  : DWord
  deriving DecidableEq, Repr

/-- What training a lantern found: whether any lane saw a signal, the lanes that completed deskew at both
ends, and the peer's PEER_INFO with its ENC bit (R350, R351, R376). -/
structure TrainObs where
  signal  : Bool
  good    : BitVec 16
  peer    : Option PeerInfo
  peerEnc : Bool
  deriving DecidableEq, Repr

/-- The fields of a received link flit that the link layer acts on (R354). -/
structure Flit where
  fseq     : BitVec 12
  ackSeq   : BitVec 12
  ackValid : Bool
  nak      : Bool
  type     : BitVec 2
  credits  : DWord
  deriving DecidableEq, Repr

/-- What the receiver's checks of a flit gave: symbol errors corrected in its codeword or an uncorrectable
codeword, the LCRC, and the tag of an encrypted link (R349, R355, R376). -/
inductive FlitCheck where
  | good
  | corrected
  | uncorrectable
  | badLcrc
  | badTag
  deriving DecidableEq, Repr

/-- The alarm sources of the security controller (R458). -/
inductive AlarmSource where
  | volt | clk | temp | light | shield
  deriving DecidableEq, Repr

/-- The two ports SPDM is served on (R453). -/
inductive SpdmPort where
  | doe | mctp
  deriving DecidableEq, Repr

/-- The PLDM monitoring sensors (R342). -/
inductive PldmSensor where
  | coolantInlet | coolantOutlet | hottestDome | hottestStack | inputVoltage | inputCurrent | inputPower
  deriving DecidableEq, Repr

/-- What the physical world shows during start-up: the inputs, and what each step finds (R436, R437). -/
structure StartupObs where
  /-- SLOT_ID as read at power good (R469). -/
  slotId       : BitVec 3
  /-- The known-answer and entropy tests of the security controller pass (R457). -/
  selfTestOk   : Bool
  /-- The input lies in its operating range and every sensor below its restart temperature (R397). -/
  supplyOk     : Bool
  /-- The reference has been in range for one window within 1 s (R387). -/
  refOk        : Bool
  /-- Areas that fail to trim in step 2 (R436). -/
  trimFailed   : List (Fin 288)
  /-- A dome whose phase alignment fails in step 4 (R437). -/
  alignFailed  : Option (Fin 12)
  /-- Carrier link deskew succeeds between all domes in step 5 (R437). -/
  deskewOk     : Bool
  /-- Stacks that fail PHY training in step 6 (R436). -/
  stackFailed  : List (Fin 32)
  /-- Rows the destructive march of step 7 finds failing: site, bank, row (R422). -/
  marchFailed  : List (SiteId × Fin 4 × Nat)
  /-- Sites the cross-check pass of step 7 charges (R418, R436). -/
  charged      : List SiteId
  deriving DecidableEq, Repr

/-- The commands, one for each row of the opcode table. -/
inductive Instr where
  /-- REGISTER_WRITE (R8). A write to a register field with no row of its own acts on each field by its access code; reserved bits ignore the write. -/
  | registerWrite (t : RegTarget) (off : Nat) (v : Word)
  /-- COUNTER_OVF_CLEAR (R13). Writing 1 to an S32 counter's OVF bit clears the bit and the counter in the same cycle. -/
  | counterOvfClear (t : RegTarget) (off : Nat) (v : Word)
  /-- W64_LOW_READ (R16). Reading the low word of a W64 pair latches the high word for the next high-word read. -/
  | w64LowRead (t : RegTarget) (off : Nat)
  /-- WLOAD (R88). A WLOAD dispatches to the load pipe and fills the shadow weight tile from SRAM or a landing stream. -/
  | wload (k : SiteId)
  /-- WLOAD_COMPLETE (R84). A WLOAD completes, the shadow tile becomes valid, and the WLOAD is counted in DONE when earlier TMMs retire. -/
  | wloadComplete (k : SiteId)
  /-- TMM (R87). A TMM dispatches to the multiply pipe, swaps tiles if asked, and accumulates activation rows against the active tile. -/
  | tmm (k : SiteId)
  /-- TMM_COMPLETE (R87). A TMM's covered rows become final 6 cycles after the pipe's last cycle and the operation retires. -/
  | tmmComplete (k : SiteId)
  /-- AZERO (R87). An AZERO sets its accumulator rows to FLOAT zeros in one multiply-pipe cycle. -/
  | azero (k : SiteId)
  /-- VU_ADD (R91). The vector unit adds SRC1 and SRC2 and converts the result to FMT_OUT. -/
  | vuAdd (k : SiteId)
  /-- VU_SUB (R91). The vector unit subtracts SRC2 from SRC1. -/
  | vuSub (k : SiteId)
  /-- VU_MUL (R91). The vector unit multiplies SRC1 by SRC2. -/
  | vuMul (k : SiteId)
  /-- VU_FMA (R91). The vector unit computes SRC1 × SRC2 + DST with the addend read from DST. -/
  | vuFma (k : SiteId)
  /-- VU_MAX (R91). The vector unit writes the larger of SRC1 and SRC2. -/
  | vuMax (k : SiteId)
  /-- VU_MIN (R91). The vector unit writes the smaller of SRC1 and SRC2. -/
  | vuMin (k : SiteId)
  /-- VU_EXP2 (R93). The vector unit computes 2^SRC1 by its fixed approximation. -/
  | vuExp2 (k : SiteId)
  /-- VU_RCP (R93). The vector unit computes 1/SRC1 by its fixed approximation. -/
  | vuRcp (k : SiteId)
  /-- VU_RSQRT (R93). The vector unit computes 1/√SRC1 by its fixed approximation. -/
  | vuRsqrt (k : SiteId)
  /-- VU_LOG2 (R93). The vector unit computes log2 SRC1 by its fixed approximation. -/
  | vuLog2 (k : SiteId)
  /-- VU_RSUM (R92). The vector unit sums COUNT elements by the pairwise tree and ascending groups into one FP32 value. -/
  | vuRsum (k : SiteId)
  /-- VU_RMAX (R92). The vector unit takes the maximum of COUNT elements by the same tree and group order. -/
  | vuRmax (k : SiteId)
  /-- VU_CVT (R91). The vector unit decodes SRC1 with its scales and converts it to FMT_OUT, forming blocks or tile scales. -/
  | vuCvt (k : SiteId)
  /-- VU_DRAIN (R91). The vector unit converts accumulator rows to FMT_OUT at DST, one row per cycle. -/
  | vuDrain (k : SiteId)
  /-- VU_AMAX (R91). The vector unit merges the largest magnitude of COUNT elements into the SSB and writes nothing. -/
  | vuAmax (k : SiteId)
  /-- VU_OP_COMPLETE (R90). A vector operation completes 5 or 9 cycles after its last input, in issue order, with its writes and SSB merge taking effect. -/
  | vuOpComplete (k : SiteId)
  /-- STREAM (R101). An access engine dispatches a stream and sends reads for slots it holds credits for. -/
  | stream (k : SiteId) (a1 : Bool)
  /-- MC_LEAD (R104). The lead core reads the source and delivers responses as multicast writes to the group, spending group credits. -/
  | mcLead (k : SiteId) (a1 : Bool)
  /-- MC_JOIN (R104). A member lands the group's multicast data in its own window without sending reads. -/
  | mcJoin (k : SiteId) (a1 : Bool)
  /-- STREAM_COMPLETE (R101). A stream completes when its last byte has landed. -/
  | streamComplete (k : SiteId) (a1 : Bool)
  /-- CE_LAND_WRITE (R98). A write to CE_LAND names landing windows and restores full credits, ignored for a busy engine. -/
  | ceLandWrite (k : SiteId) (v : Word)
  /-- CHK_SEED_LOAD (R108). A write to CHK_SEED_HI loads the LFSR from the seed, or 1 if the seed is zero. -/
  | chkSeedLoad (k : SiteId) (v : Word)
  /-- CHK_CLEAR (R108). Writing CHK_CTL.CLEAR sets the MISR to 0. -/
  | chkClear (k : SiteId)
  /-- NOP (R114). The sequencer executes NOP. -/
  | nop (k : SiteId)
  /-- ADD (R114). RD = RA + RB modulo 2^32. -/
  | add (k : SiteId)
  /-- SUB (R114). RD = RA − RB modulo 2^32. -/
  | sub (k : SiteId)
  /-- AND (R114). RD = RA and RB. -/
  | and (k : SiteId)
  /-- OR (R114). RD = RA or RB. -/
  | or (k : SiteId)
  /-- XOR (R114). RD = RA xor RB. -/
  | xor (k : SiteId)
  /-- SHL (R114). RD = RA shifted left by RB and 31. -/
  | shl (k : SiteId)
  /-- SHR (R114). RD = RA shifted right logically by RB and 31. -/
  | shr (k : SiteId)
  /-- SRA (R114). RD = RA shifted right arithmetically by RB and 31. -/
  | sra (k : SiteId)
  /-- MUL (R114). RD = low 32 bits of RA × RB. -/
  | mul (k : SiteId)
  /-- SLT (R114). RD = 1 if RA < RB signed. -/
  | slt (k : SiteId)
  /-- SLTU (R114). RD = 1 if RA < RB unsigned. -/
  | sltu (k : SiteId)
  /-- ADDI (R114). RD = RA + signed IMM14. -/
  | addi (k : SiteId)
  /-- ANDI (R114). RD = RA and zero-extended IMM14. -/
  | andi (k : SiteId)
  /-- ORI (R114). RD = RA or zero-extended IMM14. -/
  | ori (k : SiteId)
  /-- XORI (R114). RD = RA xor zero-extended IMM14. -/
  | xori (k : SiteId)
  /-- SHLI (R114). RD = RA shifted left by IMM14[4:0]. -/
  | shli (k : SiteId)
  /-- SHRI (R114). RD = RA shifted right logically by IMM14[4:0]. -/
  | shri (k : SiteId)
  /-- SRAI (R114). RD = RA shifted right arithmetically by IMM14[4:0]. -/
  | srai (k : SiteId)
  /-- LUI (R114). RD = IMM22 shifted left by 10. -/
  | lui (k : SiteId)
  /-- LD (R111). The sequencer loads a word from its own endpoint offset space, popping a token queue if it names TOKQ_POP. -/
  | ld (k : SiteId)
  /-- ST (R111). The sequencer stores a word to SRAM or a permitted control register of its own core. -/
  | st (k : SiteId)
  /-- SSBC (R57). The sequencer commits an SSB after every earlier operation naming it has merged, updating history and scale. -/
  | ssbc (k : SiteId)
  /-- STEP (R114). NUM_STEP is incremented modulo 2^32. -/
  | step (k : SiteId)
  /-- BEQ (R114). Branch if RA equals RB. -/
  | beq (k : SiteId)
  /-- BNE (R114). Branch if RA differs from RB. -/
  | bne (k : SiteId)
  /-- BLT (R114). Branch if RA < RB signed. -/
  | blt (k : SiteId)
  /-- BGE (R114). Branch if RA ≥ RB signed. -/
  | bge (k : SiteId)
  /-- BLTU (R114). Branch if RA < RB unsigned. -/
  | bltu (k : SiteId)
  /-- BGEU (R114). Branch if RA ≥ RB unsigned. -/
  | bgeu (k : SiteId)
  /-- JAL (R114). RD = PC + 1 and the PC jumps by signed IMM22. -/
  | jal (k : SiteId)
  /-- JR (R114). PC = RA. -/
  | jr (k : SiteId)
  /-- LOOP (R123). Pushes a loop level repeating the next IMM14 instructions RA times. -/
  | loop (k : SiteId)
  /-- LOOPI (R123). Pushes a loop level repeating the next LEN14 instructions COUNT12 times. -/
  | loopi (k : SiteId)
  /-- ISSUE (R75). The sequencer copies a descriptor into an engine queue and returns the ticket. -/
  | issue (k : SiteId)
  /-- WAITC (R122). Waits until the operation with the given ticket on an engine has completed. -/
  | waitc (k : SiteId)
  /-- WAITI (R122). Waits until DONE equals ISSUED for every engine in the mask. -/
  | waiti (k : SiteId)
  /-- WAITW (R116). Waits until a local word meets a condition against RB, rechecking after each write to it. -/
  | waitw (k : SiteId)
  /-- BARRIER (R287). The core sends its arrival at a belfry barrier and waits for the release. -/
  | barrier (k : SiteId)
  /-- FSET (R135). Sets a fast flag. -/
  | fset (k : SiteId)
  /-- FCLR (R135). Clears a fast flag. -/
  | fclr (k : SiteId)
  /-- FWAIT (R135). Waits until a fast flag is set, optionally clearing it on waking. -/
  | fwait (k : SiteId)
  /-- FTST (R135). RD = a fast flag. -/
  | ftst (k : SiteId)
  /-- YIELD (R127). Switches to the next READY context. -/
  | yield (k : SiteId)
  /-- CTX (R127). Switches to a named READY context. -/
  | ctx (k : SiteId)
  /-- HALT (R127). Marks the context HALTED and switches, stopping the sequencer with DONE if none is READY. -/
  | halt (k : SiteId)
  /-- RETE (R131). Returns from an event handler to EPC and clears EV_ACTIVE. -/
  | rete (k : SiteId)
  /-- EVSET (R130). Sets event SW pending in a named context. -/
  | evset (k : SiteId)
  /-- EVCLR (R130). Clears pending events of this context in a mask. -/
  | evclr (k : SiteId)
  /-- TRAP (R133). Raises exception TRAP with a code. -/
  | trap (k : SiteId)
  /-- ILLEGAL_INSTRUCTION (R114). A fetched word with opcode 0 or an unlisted opcode raises ILLEGAL. -/
  | illegalInstruction (k : SiteId)
  /-- STALL_RETIRE (R119). A stalled ISSUE or unmet wait retires in the cycle after queue room appears or its condition becomes true. -/
  | stallRetire (k : SiteId)
  /-- EVENT_ENTRY (R131). At an instruction boundary the running context takes its lowest enabled pending event and enters its handler. -/
  | eventEntry (k : SiteId)
  /-- FLAGS_SET_WRITE (R135). A host write to FLAGS_SET sets the fast flags written 1. -/
  | flagsSetWrite (k : SiteId) (v : Word)
  /-- FLAGS_CLR_WRITE (R135). A host write to FLAGS_CLR clears the fast flags written 1. -/
  | flagsClrWrite (k : SiteId) (v : Word)
  /-- BANK_CTL_WRITE (R165). A BANK_CTL write changes owner, map, retain and power request subject to the bank's state. -/
  | bankCtlWrite (k : SiteId) (b : Fin 4) (v : Word)
  /-- BANK_POWER_ENTRY_DONE (R164). A bank's entry to RET or OFF completes within 1 µs. -/
  | bankPowerEntryDone (k : SiteId) (b : Fin 4)
  /-- BANK_WAKE_DONE (R164). A waking bank reaches ON after 2 µs from RET or 20 µs from OFF with zero-fill. -/
  | bankWakeDone (k : SiteId) (b : Fin 4)
  /-- WIN_WRITE (R154). A write to a circular window register takes effect unless the window is a busy landing window. -/
  | winWrite (k : SiteId) (n : Fin 16) (v : Word)
  /-- SCRUB_ROW (R161). Every 64 × INTERVAL cycles the scrub reads the next row of an ON bank in an idle port cycle. -/
  | scrubRow (k : SiteId) (b : Fin 4)
  /-- SCRUB_WRITEBACK (R161). A corrected codeword is written back in the next idle cycle unless the row was written meanwhile. -/
  | scrubWriteback (k : SiteId) (b : Fin 4)
  /-- MARCH_START (R168). Writing MT_CTL.START checks and starts a destructive or preserving march test of a bank. -/
  | marchStart (k : SiteId) (v : Word)
  /-- MARCH_ABORT (R169). Writing MT_CTL.ABORT ends the running test after the current row. -/
  | marchAbort (k : SiteId)
  /-- MARCH_DONE (R166). A march test finishes and MT_STATUS records pass or fail. -/
  | marchDone (k : SiteId) (bad : List (Nat × Nat))
  /-- ROUTER_PACKET_ARRIVE (R188). A packet at a router is ejected or forwarded by exception entries or the default order, or answered HOLE or dropped. -/
  | routerPacketArrive (n : Nat)
  /-- LINK_UE (R173). An uncorrectable routed flit drops its packet, marks the link down on all planes and sets PENDING. -/
  | linkUe (n : Nat)
  /-- RD_REQ (R176). A destination receives a read request and answers RD_RESP or a refusal. -/
  | rdReq (k : SiteId) (p : Packet)
  /-- WR (R176). A destination receives a write, checks it and applies it with ACK or NAK. -/
  | wr (k : SiteId) (p : Packet)
  /-- LAND (R275). A receiving core checks a channel landing and writes the ring data or status word. -/
  | land (k : SiteId) (p : Packet)
  /-- COMBINER_CONTRIBUTION (R282). A combiner's core stages, refuses or discards a contribution piece. -/
  | combinerContribution (k : SiteId) (p : Packet)
  /-- MC_WR (R205). A multicast write travels to the root and down the tree, ejecting at members. -/
  | mcWr (k : SiteId) (p : Packet) (port : Port)
  /-- RD_RESP (R201). A read response arrives, lands its bytes and completes the tag. -/
  | rdResp (k : SiteId) (p : Packet)
  /-- ACK (R198). An acknowledgement releases packets from the retransmit buffer. -/
  | ack (k : SiteId) (p : Packet)
  /-- NAK (R200). A refusal causes the source to resend or complete the packet by its response code. -/
  | nak (k : SiteId) (p : Packet)
  /-- TOKEN (R225). A TOKEN packet is appended to its token queue, dropped, discarded as stale, or held while the queue is full. -/
  | token (k : SiteId) (c : CPacket)
  /-- BAR_ARRIVE (R287). A router records a barrier arrival and sends it up or releases when all ports have arrived. -/
  | barArrive (k : SiteId) (c : CPacket) (port : Port)
  /-- BAR_RELEASE (R287). A barrier release is forwarded down the tree and ends matching waits. -/
  | barRelease (k : SiteId) (c : CPacket)
  /-- HALT_BROADCAST (R236). A HALT reaches a core, stopping its sequencer and engines and dropping read responses. -/
  | haltBroadcast (k : SiteId) (c : CPacket)
  /-- MC_RELEASE (R206). A release token merges at a tree router and returns group credits to the lead. -/
  | mcRelease (k : SiteId) (c : CPacket) (port : Port)
  /-- EPOCH_FENCE (R194). A source stops injecting and sends FENCE_DONE once its old-epoch packets are settled. -/
  | epochFence (k : SiteId) (c : CPacket)
  /-- FLIP (R194). A source begins injecting in the new version and resends held packets first. -/
  | flip (k : SiteId) (c : CPacket)
  /-- FENCE_DONE (R194). FENCE_DONE merges up the tree; at the root the version is switched and FLIP sent. -/
  | fenceDone (k : SiteId) (c : CPacket) (port : Port)
  /-- RESEND_TIMEOUT (R200). A packet's resend timer expires and it is resent with its later flow, or completes TIMEOUT after three attempts. -/
  | resendTimeout (k : SiteId) (w : Waiting)
  /-- BUSY_GAP_EXPIRY (R200). BUSY_GAP cycles after a BUSY or RESET refusal the packet is resent. -/
  | busyGapExpiry (k : SiteId) (w : Waiting)
  /-- ACK_FLUSH (R198). 32 cycles after the first gathered acknowledgement the destination sends the ACK. -/
  | ackFlush (k : SiteId) (i : Nat)
  /-- FAB_COPY (R193). FAB_STAGE_CTL.COPY starts copying the active version into the inactive one. -/
  | fabCopy
  /-- FAB_CHECK (R193). FAB_STAGE_CTL.CHECK starts every router checksumming its inactive version. -/
  | fabCheck
  /-- FAB_COPY_DONE (R193). The copy completes after 8,192 cycles. -/
  | fabCopyDone
  /-- FAB_CHECK_DONE (R193). The check completes and FAB_STAGE_STATUS shows match or mismatch. -/
  | fabCheckDone (bad : List SiteId)
  /-- EPOCH_FLIP (R194). The host requests a flip, optionally running CHECK first, which fences sources and switches versions. -/
  | epochFlip (r : Fin 256) (j : Nat)
  /-- SETTLE_END (R194). 2^LOG2 cycles after a flip SETTLING clears. -/
  | settleEnd
  /-- LINK_RETRAIN_DONE (R173). The cupola's in-band retraining of a down link succeeds or fails. -/
  | linkRetrainDone (k : SiteId) (d : Dir) (ok : Bool)
  /-- CUPOLA_RESTAGE (R197). Within 50 ms of a lost area or link the cupola stages detour tables and flips. -/
  | cupolaRestage (check : Bool)
  /-- STALL_DETECT (R210). A core's no-progress count reaches its limit and the region halts with cause STALL. -/
  | stallDetect (k : SiteId)
  /-- LOAD_IMAGE (R221). The engine checks a program image and configures its regions, staging routes and flipping. -/
  | loadImage (r : Fin 256) (j : Nat) (h : HostRead)
  /-- REGION_START (R230). The cupola seals and arms a LOADED region to launch at a future engine cycle. -/
  | regionStart (r : Fin 256) (j : Nat)
  /-- RGN_LAUNCH_ARM (R230). A write of RGN_LAUNCH_HI arms a core's launch, setting LATE if the cycle has passed. -/
  | rgnLaunchArm (k : SiteId) (v : Word)
  /-- REGION_LAUNCH (R230). When RGN_GCC equals the armed value the core begins at START_CTX. -/
  | regionLaunch (k : SiteId)
  /-- RGN_DRAIN_AT_ARM (R237). A write of RGN_DRAIN_AT_HI arms the drain-flag cycle. -/
  | rgnDrainAtArm (k : SiteId) (v : Word)
  /-- DRAIN_FLAG_CYCLE (R237). At the armed drain cycle DRAIN_FLAG is set in every core. -/
  | drainFlagCycle (k : SiteId)
  /-- REGION_STOP (R236). HALT is sent to the region and it becomes STOPPED. -/
  | regionStop (r : Fin 256) (j : Nat)
  /-- REGION_DRAIN (R237). Region inputs are closed and the drain flag set so the region runs empty. -/
  | regionDrain (r : Fin 256) (j : Nat)
  /-- REGION_SCAN_OUT (R238). A routed region is halted with engines run empty and its core records written out. -/
  | regionScanOut (r : Fin 256) (j : Nat)
  /-- SCAN_QUIESCE_TIMEOUT (R238). A core not quiet within 2^20 cycles has its engines stopped and its record marked not quiesced. -/
  | scanQuiesceTimeout (k : SiteId)
  /-- REGION_SCAN_IN (R239). Scanned records are written back into a LOADED region of the same build. -/
  | regionScanIn (r : Fin 256) (j : Nat)
  /-- SWITCH_WORD_ADVANCE (R227). After REPEAT + 1 cycles the switch store moves to its next entry, looping after END. -/
  | switchWordAdvance (k : SiteId)
  /-- RECONF_DRAIN_WAIT_END (R240). A drain-first reconfiguration's wait for empty queues and the settle period ends and loading proceeds. -/
  | reconfDrainWaitEnd (rgn : BitVec 16)
  /-- GEN_BLOCK_EXPIRY (R242). 100 ms after a region left RUNNING other than by DONE its generation value is unblocked. -/
  | genBlockExpiry (g : Fin 8)
  /-- SEND (R273). The send engine lands a message record, with a pad if needed, and its status word on a channel. -/
  | send (k : SiteId)
  /-- SEND_CREDIT_RESUME (R273). A SEND waiting for credits resumes once enough ring space is credited. -/
  | sendCreditResume (k : SiteId)
  /-- SIGNAL (R279). The send engine writes a 32-bit absolute value to a semaphore. -/
  | signal (k : SiteId)
  /-- PUT (R291). The send engine writes bytes to a fabric address or a multicast group. -/
  | put (k : SiteId)
  /-- RELEASE (R277). A receiver adds slots to RD_TOTAL and sends the credit write to its peer. -/
  | release (k : SiteId)
  /-- CONTRIB (R281). The send engine sends a contribution to a combiner as 64-byte pieces. -/
  | contrib (k : SiteId)
  /-- CH_OPEN (R270). A channel descriptor is written from a template and opened. -/
  | chOpen (k : SiteId)
  /-- CH_CLOSE (R278). A channel is closed. -/
  | chClose (k : SiteId)
  /-- CMB_ARM (R280). A combiner descriptor is written from a template and a round starts. -/
  | cmbArm (k : SiteId)
  /-- CMB_FAIL (R284). A contributor mask is ORed into the combiner's FAILED. -/
  | cmbFail (k : SiteId)
  /-- CMB_ROUND_TIMEOUT (R284). A COLLECTING round times out, raising CMB_TIMEOUT and auto-failing missing contributors. -/
  | cmbRoundTimeout (k : SiteId) (m : Fin 8)
  /-- CMB_FAILED_WRITE (R280). A fabric write to an armed combiner's FAILED sets the bits written. -/
  | cmbFailedWrite (k : SiteId) (m : Fin 8) (hi : Bool) (v : Word)
  /-- QUEUE_PEEK (R293). The cupola reads a core's synchronisation state without changes and writes the peek record. -/
  | queuePeek (r : Fin 256) (j : Nat)
  /-- TOKQ_POP_READ (R224). A read of TOKQ_POP pops the token queue head. -/
  | tokqPopRead (k : SiteId) (n : Fin 16)
  /-- MSD_REQUEST (R300). An MSD serves a read or write of stack memory with encode, decode or merge. -/
  | msdRequest (m : Fin 16) (p : Packet)
  /-- STACK_TEMP_READ (R304). Every 1 ms the MSD reads each stack's temperature and sets its refresh interval. -/
  | stackTempRead (m : Fin 16) (t0 t1 : Int)
  /-- STACK_REFRESH (R304). A per-bank refresh is issued at the interval set for the temperature. -/
  | stackRefresh (s : Fin 32) (bank : Fin 1024)
  /-- STACK_SCRUB_STEP (R307). The MSD scrubs the next codeword in an unclaimed stack cycle and writes back corrections. -/
  | stackScrubStep (s : Fin 32)
  /-- STACK_FAIL (R306). A stack stops answering and becomes FAILED, recorded in the flash history. -/
  | stackFail (s : Fin 32)
  /-- STACK_REPAIR (R309). TEST_REQUEST STACK_REPAIR takes a stack offline and repairs its candidate rows. -/
  | stackRepair (r : Fin 256) (j : Nat)
  /-- PPR_ROW_DONE (R309). A hard post-package repair and write-back of one row finishes. -/
  | pprRowDone (s : Fin 32)
  /-- STATE_DIGEST (R311). Per-stack digest engines start hashing a stripe-aligned stack range. -/
  | stateDigest (r : Fin 256) (j : Nat)
  /-- DIGEST_DONE (R314). The digests finish and the 1,088-byte record is written. -/
  | digestDone
  /-- DOORBELL_CMD (R326). A doorbell write sets a command ring's tail. -/
  | doorbellCmd (r : Fin 256) (v : Word)
  /-- DOORBELL_CPL (R326). A doorbell write sets a completion ring's head and frees entries. -/
  | doorbellCpl (q : Fin 64) (v : Word)
  /-- DESCRIPTOR_FETCH (R327). The engine fetches the next descriptor of a ring in round-robin order. -/
  | descriptorFetch (r : Fin 256) (h : HostRead)
  /-- DESCRIPTOR_START (R327). A waiting descriptor starts once its fence clears and the ring has fewer than 64 outstanding. -/
  | descriptorStart (r : Fin 256)
  /-- RECORD_POST (R325). A completion record is written when the ring has room and its MSI-X vector raised. -/
  | recordPost (q : Fin 64)
  /-- EVENT_POST (R337). A pending event record is posted to the event ring when room appears. -/
  | eventPost
  /-- HOST_NOP (R332). The NOP descriptor completes OK at once. -/
  | hostNop (r : Fin 256) (j : Nat)
  /-- DMA_H2D (R332). Host memory is copied to fabric addresses. -/
  | dmaH2d (r : Fin 256) (j : Nat) (h : HostRead)
  /-- DMA_D2H (R332). Fabric addresses are copied to host memory. -/
  | dmaD2h (r : Fin 256) (j : Nat)
  /-- OPEN_WINDOW (R333). A host window is opened in the host endpoint's offset space. -/
  | openWindow (r : Fin 256) (j : Nat)
  /-- CLOSE_WINDOW (R333). A host window is closed after accepted requests are answered. -/
  | closeWindow (r : Fin 256) (j : Nat)
  /-- HOST_WINDOW_REQUEST (R333). A fabric request to the host endpoint is checked against windows and becomes a PCIe access. -/
  | hostWindowRequest (p : Packet)
  /-- PCIE_READ_COMPLETION (R318). A PCIe read completes or fails and its data is returned. -/
  | pcieReadCompletion (n : Nat) (h : HostRead)
  /-- MCAST_GROUP_SET (R207). The cupola builds a multicast tree and writes it into both versions. -/
  | mcastGroupSet (r : Fin 256) (j : Nat) (h : HostRead)
  /-- TABLE_WRITE (R332). Entries are written into the inactive version of a fabric table after ordered checks. -/
  | tableWrite (r : Fin 256) (j : Nat) (h : HostRead)
  /-- FLOORPLAN_READ (R427). The floor plan record is written to a host buffer. -/
  | floorplanRead (r : Fin 256) (j : Nat)
  /-- FLOORPLAN_COMMIT (R429). REMAP, REINSTATE and FENCE entries are checked, applied and flipped, advancing REL_FP_GEN. -/
  | floorplanCommit (r : Fin 256) (j : Nat) (h : HostRead)
  /-- CROSS_CHECK (R414). A host cross-check test borrows an area and runs passes at a corner. -/
  | crossCheck (r : Fin 256) (j : Nat)
  /-- MARCH_PRESERVING (R417). A host request runs a preserving march test of one bank. -/
  | marchPreserving (r : Fin 256) (j : Nat)
  /-- MARCH_DESTRUCTIVE (R417). A host request runs a destructive march test of one bank. -/
  | marchDestructive (r : Fin 256) (j : Nat)
  /-- LINK_RECAL (R378). A lantern's lane equalisation is recalibrated using idle flit slots. -/
  | linkRecal (r : Fin 256) (j : Nat)
  /-- RESET_COMPUTE (R442). Every region is halted and every core reset, leaving regions EMPTY. -/
  | resetCompute (r : Fin 256) (j : Nat)
  /-- RESET_REGION (R442). One region is halted and its cores' compute state reset. -/
  | resetRegion (r : Fin 256) (j : Nat)
  /-- RESET_LINK (R375). One lantern quiesces and retrains. -/
  | resetLink (r : Fin 256) (j : Nat)
  /-- RESET_WARM (R443). Descriptors complete, lanterns quiesce, the engine parks and start-up runs from step 2. -/
  | resetWarm (r : Fin 256) (j : Nat)
  /-- PERST_ASSERT (R443). Assertion of PERST# causes a WARM reset. -/
  | perstAssert
  /-- PERST_DEASSERT (R339). Deassertion of PERST# lets the PCIe port train. -/
  | perstDeassert
  /-- FW_STAGE (R447). A firmware image is checked and written to the inactive slot of a target. -/
  | fwStage (r : Fin 256) (j : Nat) (h : HostRead)
  /-- FW_ACTIVATE_CUPOLA (R448). The cupola switches to its staged slot without stopping compute. -/
  | fwActivateCupola (r : Fin 256) (j : Nat)
  /-- FW_ACTIVATE_SECURITY (R449). The security controller switches to its staged slot, pausing SPDM and the mailbox. -/
  | fwActivateSecurity (r : Fin 256) (j : Nat)
  /-- FW_HANDOVER_READY (R448). The new firmware reports ready in time, FW_READY is raised and the minimum SVN rises. -/
  | fwHandoverReady
  /-- FW_HANDOVER_TIMEOUT (R448). The new firmware is not ready in time and the previous slot is restarted. -/
  | fwHandoverTimeout
  /-- GET_NONCE (R452). The mailbox returns a new nonce and invalidates the previous one. -/
  | getNonce (r : Fin 256) (j : Nat) (h : HostRead)
  /-- SET_OWNER (R452). The owner public key is installed. -/
  | setOwner (r : Fin 256) (j : Nat) (h : HostRead)
  /-- ADD_IMAGE_KEY (R452). A signed owner command adds an image KEY_ID to the trust list. -/
  | addImageKey (r : Fin 256) (j : Nat) (h : HostRead)
  /-- REMOVE_IMAGE_KEY (R452). A signed owner command removes an image key entry. -/
  | removeImageKey (r : Fin 256) (j : Nat) (h : HostRead)
  /-- SET_BOOT_POLICY (R452). A signed owner command sets the boot alarm policy and debug lock. -/
  | setBootPolicy (r : Fin 256) (j : Nat) (h : HostRead)
  /-- RELEASE_OWNER (R452). A signed owner command erases the owner key, image keys and boot policy. -/
  | releaseOwner (r : Fin 256) (j : Nat) (h : HostRead)
  /-- MAKER_UNLOCK (R462). A maker-signed token opens a maker test mode, erasing owner and traffic keys. -/
  | makerUnlock (r : Fin 256) (j : Nat) (h : HostRead)
  /-- ENERGY_SNAPSHOT (R404). ENERGY_UJ and the timestamp are sampled in one cycle. -/
  | energySnapshot (r : Fin 256) (j : Nat)
  /-- ENG_HIF_VER_WRITE (R323). The driver's version range is written and ENG_HIF_AGREED is computed. -/
  | engHifVerWrite (v : Word)
  /-- DEBUG_WINDOW_ACCESS (R322). A BAR4 access becomes a fabric access at ENG_DBG_BASE plus offset, or fails. -/
  | debugWindowAccess (off : Nat) (a : DebugAccess)
  /-- GATED_ACCESS (R320). An access to a gated BAR0 block completes Completer Abort or is dropped and recorded. -/
  | gatedAccess (off : Nat) (wr : Bool)
  /-- CMD_CFG_WRITE (R345). A command ring configuration write enables or disables fetching. -/
  | cmdCfgWrite (r : Fin 256) (v : Word)
  /-- CPL_CFG_WRITE (R345). Setting a completion ring's EN sets TAIL to 0 and PHASE to 1. -/
  | cplCfgWrite (q : Fin 64) (v : Word)
  /-- PCIE_LINK_DOWN (R341). A PCIe link-down resets the function state, rings, gates and windows. -/
  | pcieLinkDown
  /-- LANTERN_TRAIN_DONE (R350). A lantern finishes training to UP at a width or is left DOWN. -/
  | lanternTrainDone (l : Fin 48) (o : TrainObs)
  /-- LANTERN_AUTO_RETRAIN (R352). Every 10 s a DOWN lantern with AUTO and a peer signal retrains. -/
  | lanternAutoRetrain (l : Fin 48)
  /-- FLIT_RECEIVE (R355). A link flit is received and checked, dropped with NAK on failure, or accepted in order. -/
  | flitReceive (l : Fin 48) (f : Flit) (ok : FlitCheck)
  /-- FLIT_REPLAY (R355). On a NAK the sender replays flits from ACK_SEQ + 1. -/
  | flitReplay (l : Fin 48) (ackSeq : BitVec 12)
  /-- JENDEX_INGRESS (R362). An ingress lantern admits and injects a local packet, forwards a transit packet, or drops at HOPS 15. -/
  | jendexIngress (l : Fin 48) (hops : BitVec 4) (p : Packet)
  /-- TIME_SYNC_TIMER (R370). Every 1 ms an engine with an UP tree lantern sends TIME_REQ. -/
  | timeSyncTimer
  /-- TIME_REQ (R370). The upstream engine answers TIME_RSP with t2 and t3 − t2. -/
  | timeReq (l : Fin 48) (t1 : DWord) (t3 : DWord)
  /-- TIME_RSP (R370). The requester computes the offset and steps or trims its timestamp. -/
  | timeRsp (l : Fin 48) (t1 t2 : DWord) (d : Word) (t4 : DWord)
  /-- TIME_RSP_TIMEOUT (R370). 20 ms without TIME_RSP clears LOCKED. -/
  | timeRspTimeout
  /-- FREQ_AGREE_TIMER (R372). Every 100 µs the engine sends FREQ_LIMIT up and the root sends FREQ_SET down. -/
  | freqAgreeTimer
  /-- FREQ_LIMIT (R372). A received limit is merged, and the root lowers at once on an URGENT limit. -/
  | freqLimit (l : Fin 48) (job : BitVec 16) (mhz sq : BitVec 16) (urgent : Bool)
  /-- FREQ_SET (R372). A frequency and effective time are received and forwarded to children. -/
  | freqSet (l : Fin 48) (job : BitVec 16) (mhz sq : BitVec 16) (at_ : DWord)
  /-- FREQ_SET_APPLY (R372). At the effective time the engine applies the agreed frequency. -/
  | freqSetApply
  /-- FREQ_SET_TIMEOUT (R373). After 1 ms without FREQ_SET the engine holds and does not raise. -/
  | freqSetTimeout
  /-- SBAR_ARRIVE (R374). A system barrier arrival from a child lantern is marked and passed up or released. -/
  | sbarArrive (l : Fin 48) (b : BitVec 14) (sense : Bool)
  /-- SBAR_RELEASE (R374). A system barrier release is sent down and the local tree released. -/
  | sbarRelease (l : Fin 48) (b : BitVec 14) (sense : Bool)
  /-- LINK_QUIESCE (R375). A peer's quiesce notice starts restaging around the lantern. -/
  | linkQuiesce (l : Fin 48) (engineReset : Bool)
  /-- PEER_INFO (R353). The peer's identity is recorded, leaving the lantern DOWN on a duplicate ID. -/
  | peerInfo (l : Fin 48) (i : PeerInfo)
  /-- LANTERN_QUIESCE_END (R375). 1 ms after quiescing the lantern stops and the link goes down. -/
  | lanternQuiesceEnd (l : Fin 48)
  /-- LANTERN_RESTAGE (R361). Within 10 ms of a lantern change the cupola rewrites set weights and flips. -/
  | lanternRestage (l : Fin 48)
  /-- LNT_FWD_GO (R359). The selected forwarding entry is written into the inactive version, or refused. -/
  | lntFwdGo (v : Word)
  /-- LNT_SYS_ID_WRITE (R358). The engine ID and network enable are written. -/
  | lntSysIdWrite (v : Word)
  /-- LNT_RWIN_WRITE (R367). A remote window word is written; clearing EN stops admission the next cycle. -/
  | lntRwinWrite (n : Fin 64) (w : Fin 8) (v : Word)
  /-- KEY_RENEW (R376). Every 2^40 flits an encrypted link renews its keys in-band. -/
  | keyRenew (l : Fin 48)
  /-- REF_WINDOW_END (R386). At the end of a 1 ms window the monitor measures the reference offset and judges range. -/
  | refWindowEnd (ppm : Int)
  /-- REF_STOPPED (R386). No reference edge for 2 µs is detected as a stopped reference. -/
  | refStopped
  /-- DOME_PARK_DONE (R388). Parking completes, clocks stop and the flash history record is closed. -/
  | domeParkDone
  /-- FREQ_RAMP_STEP (R384). The clock root moves F by one 25 MHz step per microsecond. -/
  | freqRampStep
  /-- DROOP_TRIP (R400). A droop detector trips and the next 64 cycles are stretched. -/
  | droopTrip (a : Fin 288)
  /-- DOME_IDLE_ENTRY (R391). After DELAY_MS of quiet a dome stops its compute clock and enters IDLE. -/
  | domeIdleEntry (d : Fin 12)
  /-- DOME_WAKE (R392). An inbound request or command wakes an IDLE dome. -/
  | domeWake (d : Fin 12)
  /-- DOME_WAKE_DONE (R392). The dome PLL locks, RGN_GCC reloads and the dome returns to RUN. -/
  | domeWakeDone (d : Fin 12)
  /-- CLK_HOLD_WRITE (R392). Writing 1 to a CLK_HOLD bit keeps a dome in RUN and wakes it. -/
  | clkHoldWrite (v : Word)
  /-- AREA_TRIP (R395). A spire area trips on overcurrent, its sites go off and its cores are fenced. -/
  | areaTrip (a : Fin 288)
  /-- AREA_RETRY (R395). 100 ms after a trip the spire makes one soft-start retry. -/
  | areaRetry (a : Fin 288)
  /-- AREA_RETRY_DONE (R395). A retry without trip initialises the area and the cupola restages routes through it. -/
  | areaRetryDone (a : Fin 288)
  /-- INPUT_VOLTAGE_EXCURSION (R394). An input voltage threshold held 100 µs acts, up to SUPPLY_FATAL. -/
  | inputVoltageExcursion (mv us : Nat)
  /-- INPUT_OVERCURRENT (R397). Input above 600 A for 1 ms raises SUPPLY_FATAL OVERCURRENT. -/
  | inputOvercurrent
  /-- AUX_FAULT (R397). An auxiliary converter out of regulation for 100 µs raises SUPPLY_FATAL. -/
  | auxFault
  /-- SPIRE_BUS_LOSS (R397). Loss of control of a spire for 1 ms raises SUPPLY_FATAL. -/
  | spireBusLoss (a : Fin 288)
  /-- SPIRE_SHUTDOWN (R397). 1 ms after SUPPLY_FATAL or THERMAL_TRIP every spire and auxiliary converter turns off. -/
  | spireShutdown
  /-- POWER_CAP_TICK (R398). The power-cap limit is lowered or raised against control power. -/
  | powerCapTick (measuredW : Nat)
  /-- CURRENT_LIMIT_TICK (R398). The input-current limit lowers with stretch on a 550 A average or raises below 540 A. -/
  | currentLimitTick (milliamps : Nat)
  /-- ACTIVITY_ESTIMATE (R401). Every 100 µs the controller compares its activity estimate with measured power. -/
  | activityEstimate (estimateW measuredW : Nat)
  /-- SENSOR_READ (R403). Every 100 µs temperatures are read and throttle, emergency or trip actions applied. -/
  | sensorRead (t : List Int)
  /-- ENERGY_UPDATE (R404). Every 10 µs ENERGY_UJ is updated with measured energy. -/
  | energyUpdate (uj : Nat)
  /-- PWR_CAP_WRITE (R399). A write to PWR_CAP_W is clamped and takes effect within 10 ms. -/
  | pwrCapWrite (v : Word)
  /-- CHASSIS_CAP_SET (R399). The sideband sets CHASSIS_CAP_W, clamped. -/
  | chassisCapSet (w : Nat)
  /-- SCHEDULED_PASS (R415). Every PERIOD_MIN minutes the cupola borrows the stalest idle area for a kernel 0x06 pass. -/
  | scheduledPass
  /-- XCHECK_PASS_DONE (R412). After 2^20 cycles paired signatures are compared and disagreements resolved. -/
  | xcheckPassDone (sigs : List (SiteId × DWord))
  /-- SOFTWARE_ARBITRATION_DONE (R413). The cupola's software reference settles a disagreement and charges sites. -/
  | softwareArbitrationDone
  /-- UE_PRESERVING_TEST (R417). After an in-service uncorrectable error the cupola tests the bank once it is unmapped. -/
  | uePreservingTest (k : SiteId)
  /-- RISK_TICK (R430). Once a second the risk level is computed and RISK_LEVEL raised at threshold. -/
  | riskTick
  /-- REL_HIST_SEL_WRITE (R435). Selecting a history record copies it into REL_HIST_DATA within 10 µs. -/
  | relHistSelWrite (v : Word)
  /-- POWER_GOOD (R436). At power good the engine runs the start-up sequence to READY. -/
  | powerGood (o : StartupObs)
  /-- STARTUP_REF_WAIT_END (R387). Start-up waiting at step 3 continues once the reference has been in range one window. -/
  | startupRefWaitEnd (o : StartupObs)
  /-- STARTUP_SUPPLY_WAIT_END (R397). Start-up waiting before step 2 continues once supply and temperatures allow. -/
  | startupSupplyWaitEnd (o : StartupObs)
  /-- SEC_ALARM_TRIGGER (R459). A tamper sensor alarms and its policy is applied within 10 µs. -/
  | secAlarmTrigger (src : AlarmSource)
  /-- SEC_ALARM_REARM (R459). An alarm source re-arms after its condition is absent 1 ms. -/
  | secAlarmRearm (src : AlarmSource)
  /-- SEC_ALARM_POLICY_WRITE (R460). A policy write takes effect only for fields it makes stricter. -/
  | secAlarmPolicyWrite (v : Word)
  /-- DBG_LOCK_SET (R461). Setting DBG_LOCK closes and locks the debug window. -/
  | dbgLockSet
  /-- ENTROPY_HEALTH_FAIL (R457). A failed continuous health test sets FIPS_ERR and stops cryptographic services. -/
  | entropyHealthFail
  /-- SPDM_GET_VERSION (R453). SPDM GET_VERSION reports version 1.3. -/
  | spdmGetVersion (c : SpdmPort)
  /-- SPDM_GET_CAPABILITIES (R453). SPDM GET_CAPABILITIES is answered. -/
  | spdmGetCapabilities (c : SpdmPort)
  /-- SPDM_NEGOTIATE_ALGORITHMS (R453). SPDM algorithms are negotiated. -/
  | spdmNegotiateAlgorithms (c : SpdmPort)
  /-- SPDM_GET_DIGESTS (R453). SPDM certificate digests are returned. -/
  | spdmGetDigests (c : SpdmPort)
  /-- SPDM_GET_CERTIFICATE (R453). The slot 0 certificate chain is returned. -/
  | spdmGetCertificate (c : SpdmPort)
  /-- SPDM_CHALLENGE (R453). An SPDM challenge is signed by the identity key. -/
  | spdmChallenge (c : SpdmPort)
  /-- GET_MEASUREMENTS (R454). The measurement blocks are returned. -/
  | getMeasurements (c : SpdmPort)
  /-- SPDM_KEY_EXCHANGE (R453). An ML-KEM-768 session key exchange is performed. -/
  | spdmKeyExchange (c : SpdmPort)
  /-- SPDM_FINISH (R453). An SPDM session handshake is finished. -/
  | spdmFinish (c : SpdmPort) (sess : Fin 4)
  /-- SPDM_HEARTBEAT (R453). An SPDM session heartbeat is answered. -/
  | spdmHeartbeat (c : SpdmPort) (sess : Fin 4)
  /-- SPDM_KEY_UPDATE (R453). SPDM session keys are updated. -/
  | spdmKeyUpdate (c : SpdmPort) (sess : Fin 4)
  /-- SPDM_END_SESSION (R453). An SPDM session ends. -/
  | spdmEndSession (c : SpdmPort) (sess : Fin 4)
  /-- IDE_KM_KEY_PROG (R455). IDE_KM programs AES-256-GCM keys for the link IDE stream. -/
  | ideKmKeyProg (sess : Fin 4) (key : BitVec 256)
  /-- K_SET_GO (R455). The new IDE key set takes effect. -/
  | kSetGo (sess : Fin 4)
  /-- PLDM_SENSOR_READ (R342). A PLDM monitoring sensor reading is returned to the chassis. -/
  | pldmSensorRead (s : PldmSensor)
  /-- PLDM_FRU_READ (R342). PLDM FRU data is returned. -/
  | pldmFruRead
  /-- INPUT_SWITCH_CLOSE (R467). With SEAT closed and input in range 100 ms, the switch closes, precharges and gives power good. -/
  | inputSwitchClose
  /-- SEAT_OPEN (R477). SEAT opening is treated as a stopped reference and CLK_LOSS is raised. -/
  | seatOpen
  /-- INPUT_SWITCH_OPEN (R477). 2 ms after SEAT opens the input switch opens. -/
  | inputSwitchOpen
  /-- LANTERN_SIGNAL_LOSS (R352). An UP lantern loses its peer's signal or lock, leaves UP and raises LINK_DOWN. -/
  | lanternSignalLoss (l : Fin 48)
  /-- REFRESH_MANAGEMENT_REQUEST (R296). A stack raises a refresh management request and the MSD honours it at once. -/
  | refreshManagementRequest (s : Fin 32) (bank : Fin 1024)
  /-- BYPASS_CHAIN_WORD (R209). A word arrives at a tapping site on a bypass chain, is decoded and feeds a combiner chain or A1's landing window. -/
  | bypassChainWord (k : SiteId) (d : Dir) (w : BitVec 576)
  /-- SCHEDULED_FLIT (R227). In each cycle a claimed link carries a headerless flit that is injected from or ejected into the scheduled windows and checked per hop. -/
  | scheduledFlit (k : SiteId) (sPlane : Bool) (d : Option Dir) (w : BitVec 576)
  /-- DROOP_LIMIT_TICK (R398). After 10 ms without a stretch the droop source limit rises by 25 MHz. -/
  | droopLimitTick
  /-- FW_STAGE_DONE (R447). The flash write of a staged firmware image finishes, the slot becomes STAGED and FW_STAGE completes. -/
  | fwStageDone
  /-- LINK_RECAL_DONE (R378). A lantern recalibration finishes and completes OK, or TIMEOUT after 1 s. -/
  | linkRecalDone (l : Fin 48) (ok : Bool)
  /-- PCIE_RETRAIN (R316). The PCIe link retrains, possibly below x16 or 128 GT/s, setting PCIE_DEGRADED and raising LINK_DEGRADED. -/
  | pcieRetrain (lanes rate8 : Nat)
  /-- IDE_INTEGRITY_FAILURE (R455). A received TLP fails IDE integrity, the stream becomes insecure and AER records the error. -/
  | ideIntegrityFailure
  /-- FUNCTION_LEVEL_RESET (R440). A PCIe Hot Reset or Function Level Reset resets the function's PCIe state as a link loss does. -/
  | functionLevelReset
  deriving DecidableEq, Repr

end Sys2Proof
end

