-- ==== Sys2Proof/Decode.lean ====
section
/-!
DEFINITION. The decoder of the opcode table. No row of the table has bits: a command is an event or an access, not a
word, so no word spells a command.
-/

namespace Sys2Proof

/-- The command a word of the table's bits spells: none, since no row gives bits. -/
def decodeTableWord (_nbits _w : Nat) : Option Instr := none

end Sys2Proof
end

