-- ==== Sys2Proof/Machine/Bits.lean ====
section
/-!
DEFINITION. Bit fields, little-endian byte strings, the sparse tables, byte memories in their canonical
form, and the two CRCs the fabric and the records use.
-/

namespace Sys2Proof

/-- What a sparse table holds at an index; `d` is what an unlisted index reads as. -/
def Tbl.get {α : Type} (d : α) : Tbl α → Nat → α
  | [], _ => d
  | (i, v) :: r, k => if i = k then v else Tbl.get d r k

/-- A sparse table with a value put in at an index, before the first index above it. -/
def Tbl.insert {α : Type} : Tbl α → Nat → α → Tbl α
  | [], k, v => [(k, v)]
  | (i, w) :: r, k, v =>
    if k < i then (k, v) :: (i, w) :: r else if k = i then (k, v) :: r else (i, w) :: Tbl.insert r k v

/-- A sparse table with an index set; setting what an unlisted index reads as removes the entry. -/
def Tbl.set {α : Type} [DecidableEq α] (d : α) (t : Tbl α) (k : Nat) (v : α) : Tbl α :=
  if v = d then t.filter fun x => decide (x.1 ≠ k) else Tbl.insert t k v

/-- The indices of a table rise strictly from `lo` and no entry equals the value of an unlisted index. -/
def Tbl.wfFrom {α : Type} [DecidableEq α] (d : α) : Nat → Tbl α → Bool
  | _, [] => true
  | lo, (i, v) :: r => decide (lo ≤ i) && decide (v ≠ d) && Tbl.wfFrom d (i + 1) r

/-- The canonical form of a sparse table. -/
def Tbl.wf {α : Type} [DecidableEq α] (d : α) (t : Tbl α) : Bool := Tbl.wfFrom d 0 t

namespace Machine

/-- The byte an address of a memory holds; an unlisted one holds 0 (R157, R163). -/
def memRead (m : List Host.Cell) (a : Nat) : Byte := Tbl.get 0 m a

/-- A memory with one byte written, in canonical form. -/
def memWrite (m : List Host.Cell) (a : Nat) (b : Byte) : List Host.Cell := Tbl.set 0 m a b

/-- The canonical form of a memory: addresses strictly rising, no listed zero byte. -/
def Memory.wf (m : List Host.Cell) : Bool := Tbl.wf 0 m

/-- Bytes of host memory written from an address on; a byte the engine has not written is none (log entry 6). -/
def hostWrites (m : Tbl (Option Byte)) (a : Nat) : List Byte → Tbl (Option Byte)
  | [] => m
  | b :: bs => hostWrites (Tbl.set none m a (some b)) (a + 1) bs

/-- The bytes from an address on. -/
def memReads (m : List Host.Cell) (a : Nat) : Nat → List Byte
  | 0 => []
  | n + 1 => memRead m a :: memReads m (a + 1) n

/-- A memory with bytes written from an address on. -/
def memWrites (m : List Host.Cell) (a : Nat) : List Byte → List Host.Cell
  | [] => m
  | b :: bs => memWrites (memWrite m a b) (a + 1) bs

/-- The number a little-endian byte string spells. -/
def leNat : List Byte → Nat
  | [] => 0
  | b :: bs => b.toNat + 256 * leNat bs

/-- `n` little-endian bytes of a number. -/
def leBytes : Nat → Nat → List Byte
  | 0, _ => []
  | n + 1, v => BitVec.ofNat 8 v :: leBytes n (v / 256)

/-- The field of `w` bits at bit `lo` of a number. -/
def fld (v lo w : Nat) : Nat := (v >>> lo) % 2 ^ w

/-- The field of a 32-bit register. -/
def wfld (v : Word) (lo w : Nat) : Nat := fld v.toNat lo w

/-- One bit of a register. -/
def wbit (v : Word) (i : Nat) : Bool := v.getLsbD i

/-- A register with the field of `w` bits at `lo` set. -/
def setFld (v : Word) (lo w x : Nat) : Word :=
  let mask : Word := BitVec.ofNat 32 ((2 ^ w - 1) <<< lo)
  (v &&& ~~~mask) ||| (BitVec.ofNat 32 (x <<< lo) &&& mask)

/-- A register with one bit set or cleared. -/
def setBit (v : Word) (i : Nat) (b : Bool) : Word := setFld v i 1 b.toNat

/-- The bytes of a string from `lo`, `n` of them. -/
def slice (b : List Byte) (lo n : Nat) : List Byte := (b.drop lo).take n

/-- The little-endian field of `n` bytes at `lo` of a byte string. -/
def leAt (b : List Byte) (lo n : Nat) : Nat := leNat (slice b lo n)

/-- A value read as two's complement of `w` bits. -/
def sgn (w v : Nat) : Int := if v < 2 ^ (w - 1) then v else (v : Int) - 2 ^ w

/-- The low `w` bits of an integer. -/
def unsgn (w : Nat) (i : Int) : Nat := (i % (2 ^ w : Int)).toNat

/-- An integer kept between two bounds. -/
def clampI (lo hi x : Int) : Int := max lo (min hi x)

/-- A byte string padded with zeros or cut to `n` bytes. -/
def padTo (n : Nat) (b : List Byte) : List Byte := b.take n ++ List.replicate (n - b.length) 0

/-- One bit of a CRC-32 step, reflected as IEEE 802.3 transmits it (R174). -/
def crc32Bit (c : Nat) : Nat := if c % 2 = 1 then (c >>> 1) ^^^ 0xEDB88320 else c >>> 1

/-- One byte of CRC-32. -/
def crc32Byte (c : Nat) (b : Byte) : Nat :=
  crc32Bit (crc32Bit (crc32Bit (crc32Bit (crc32Bit (crc32Bit (crc32Bit (crc32Bit (c ^^^ b.toNat))))))))

/-- CRC-32 of IEEE 802.3 (R174). -/
def crc32 (b : List Byte) : Word := BitVec.ofNat 32 (b.foldl crc32Byte 0xFFFFFFFF ^^^ 0xFFFFFFFF)

/-- One bit of a CRC-8 step, polynomial x^8 + x^2 + x + 1, most significant bit first (R174). -/
def crc8Bit (c : Nat) : Nat := if c < 128 then c <<< 1 else ((c <<< 1) ^^^ 0x107)

/-- One byte of CRC-8. -/
def crc8Byte (c : Nat) (b : Byte) : Nat :=
  crc8Bit (crc8Bit (crc8Bit (crc8Bit (crc8Bit (crc8Bit (crc8Bit (crc8Bit (c ^^^ b.toNat))))))))

/-- CRC-8 with initial value 0 (R174, R177). -/
def crc8 (b : List Byte) : Byte := BitVec.ofNat 8 (b.foldl crc8Byte 0)

end Machine
end Sys2Proof
end

