-- ==== Sys2Proof/Config.lean ====
section
/-!
DEFINITION. What the manual leaves open: values no rule fixes, as constants without a body, so that no
proof can lean on one of them.
-/

namespace Sys2Proof

/-- The SHA3-256 digest of FIPS 202, which the manual names and does not restate (R218, R312, R420). -/
opaque Config.sha3 : List Byte → BitVec 256

/-- ML-DSA-44 verification of FIPS 204: public key, message, signature (R218, R439, R445, R452, R462). -/
opaque Config.mldsaVerify : List Byte → List Byte → List Byte → Bool

/-- The KEY_ID of the maker key, fused in the part (R450). -/
opaque Config.makerKeyId : BitVec 256

/-- What an EXP2, RCP, RSQRT or LOG2 opcode answers for an input the manual bounds and does not fix:
opcode and input bits (R69, R93). -/
opaque Config.approx : Nat → Word → Word

/-- A fresh byte string of a random source (R452, R457): which draw, which byte of it. -/
opaque Config.freeByte : Nat → Nat → Byte

/-- A value the manual leaves undefined, by draw (R10). -/
opaque Config.freeWord : Nat → Word

/-- The signed or keyed answer an SPDM request gets: its code, the draw it is made with (R453). -/
opaque Config.spdmAnswer : Nat → Nat → List Byte

/-- The kernel signature the cupola's bit-exact software computes: kernel kind, seed (R413). -/
opaque Config.kernelSignature : Nat → DWord → DWord

/-- The certificate chain of SPDM slot 0, fixed at manufacture (R453). -/
opaque Config.certChain : List Byte

/-- The SHA3-256 digest of the security ROM, measurement block 1 (R454). -/
opaque Config.romDigest : BitVec 256

/-- The shortest per-bank refresh interval JEDEC HBM4 requires at a temperature, in ns (R304). -/
opaque Config.refreshInterval : Int → Nat

/-- The row of its bank that bits [35:18] of a local stack address select (R298). -/
opaque Config.stackRow : Nat → Nat

/-- Whether a bank of a stack has a repair resource left: stack, row candidate, rows repaired (R309). -/
opaque Config.repairResource : Nat → Nat → Nat → Bool

/-- The rate trim in ppm that an exchange of a measured offset in ns asks for, before its bound (R370). -/
opaque Config.timeTrim : Int → Int

/-- The offset in ppm beyond which the reference monitor acts, between 280 and 320 (R386). -/
opaque Config.refThreshold : Nat

/-- The capability record the maker has written to flash: body and signature block (R439). -/
opaque Config.capRecord : List Byte

/-- The serial number, and the variant set at assembly (R39). -/
opaque Config.serial : DWord
opaque Config.variant : Byte

end Sys2Proof
end

