-- ==== Sys2Proof/Machine/State.lean ====
section
/-!
DEFINITION. Everything the manual gives the engine to hold, as plain data: cores and routers by site, the
fabric's tables, the host interface, stacks, lanterns, clocks, power, reliability, security and start-up.
Registers that are no view of other state are held by their offset in `regs`.
-/

namespace Sys2Proof.Machine

/-- A memory under the symbol code: data bytes, and the check bits of each 16-byte codeword (R155). -/
structure EccMem where
  data : List Host.Cell
  chk  : Tbl (BitVec 16)
  deriving DecidableEq, Repr

/-- One level of a context's loop stack (R123, R136). -/
structure LoopLevel where
  start  : BitVec 12
  fin    : BitVec 12
  remain : Word
  deriving DecidableEq, Repr

/-- A configuration context (R110, R126, R130, R136). `bar` and `sense` name the barrier BWAIT awaits. -/
structure Ctx where
  pc       : BitVec 12
  st       : BitVec 2
  gen      : BitVec 3
  evActive : Bool
  bwait    : Bool
  ldepth   : BitVec 3
  loops    : Tbl LoopLevel
  pend     : BitVec 4
  en       : BitVec 4
  vec      : BitVec 12
  epc      : BitVec 12
  regs     : Tbl Word
  bar      : BitVec 14
  sense    : Bool
  deriving DecidableEq, Repr

/-- What a stalled or waiting sequencer waits for (R119, R132, R136). -/
inductive Wait where
  | none
  | queueFull (engine : Nat)
  | ticket (engine : Nat) (t : BitVec 16)
  | idle (mask : BitVec 5)
  | word (off : Nat) (cond : BitVec 2) (v : Word)
  | flag (f : Nat) (clear : Bool)
  | barrier (b : BitVec 14) (sense : Bool) (sent : Bool)
  | commit (off : Nat)
  deriving DecidableEq, Repr

/-- The core sequencer (R109, R118, R127, R135, R136). `flagsOld` and `flagsSeen` delay a flag by the two cycles
of R135; `avail` holds the cycles until a result is available, by 16 × context + register. -/
structure Seqr where
  ctxs      : Tbl Ctx
  cur       : BitVec 3
  run       : Bool
  done      : Bool
  fault     : Bool
  wait      : Wait
  flags     : BitVec 16
  flagsOld  : BitVec 16
  flagsSeen : BitVec 16
  avail     : Tbl Nat
  istore    : EccMem
  deriving DecidableEq, Repr

/-- An operation an engine holds: the descriptor copied at issue, where it stood, the issuing context, the
order of issue, the seed and step sampled at issue, and what a dispatched operation still owes (R63, R76,
R77, R144, R267). -/
structure Op where
  desc     : BitVec 256
  off      : Nat
  ctx      : BitVec 3
  seq      : Nat
  seed     : DWord
  step     : Word
  banks    : BitVec 4
  writes   : List (Nat × List Byte)
  ssb      : Option (Nat × Word × Bool)
  fold     : List Byte
  finished : Bool
  left     : List Packet
  unacked  : Nat
  waiting  : Bool
  deriving DecidableEq, Repr

/-- One of the five engines: its queue, the operations dispatched and not retired, its ticket counts
(R75, R77, R121). -/
structure Engine where
  queue  : List Op
  run    : List Op
  issued : BitVec 16
  done   : BitVec 16
  deriving DecidableEq, Repr

/-- A weight tile with its scales, column by column (R83, R257). -/
structure Tile where
  fmt    : Byte
  sparse : Bool
  kb     : Nat
  cols   : List (List Byte)
  scales : List (List Byte)
  deriving DecidableEq, Repr

/-- A row of the accumulator: its kind, an INT row's combined exponent, its sixteen entries (R85). -/
structure AccRow where
  int : Bool
  exp : Int
  v   : Tbl Word
  deriving DecidableEq, Repr

/-- A read an access engine awaits: the request as last sent, its place in the core's order of injection, the
slots it lands in, or the run and span of the first header it reads, its attempts, and whether it is held for a
flip or waits for a gap (R99, R200, R201, R252). -/
structure Outstanding where
  pkt      : Packet
  ord      : Nat
  slots    : List Nat
  header   : Option Nat
  attempts : Nat
  held     : Bool
  gap      : Bool
  deriving DecidableEq, Repr

/-- A stream in progress: the run in pattern order and the slot of it to ask for next, the slot after its last,
the next header to ask for of a SPARSE stream as run and first span, the headers at hand by run and span, the
FETCH bitmap of a PRED stream (R101, R252, R262). -/
structure StreamSt where
  op       : Op
  run      : Nat
  pos      : Nat
  endSlot  : Nat
  hdrRun   : Nat
  hdrSpan  : Nat
  hdrs     : Tbl DWord
  fetch    : Option (List Byte)
  deriving DecidableEq, Repr

/-- A joined stream: its group, its first slot, the first not freed, the slot after its last (R104). -/
structure Join where
  group : Nat
  base  : Nat
  freed : Nat
  stop  : Nat
  deriving DecidableEq, Repr

/-- An access engine: slots asked for, readable, landed out of order, bytes consumed; outstanding reads; the
stream in progress; as a group's lead the slots sent and freed; the joined streams whose slots are not all
freed, and the slots freed of each group (R98-R104, R206). -/
structure AccEng where
  sent    : Nat
  ready   : Nat
  landed  : List Nat
  taken   : Nat
  outs    : List Outstanding
  cur     : Option StreamSt
  mcSent  : Tbl Nat
  mcFreed : Tbl Nat
  joins   : List Join
  freed   : Tbl Nat
  deriving DecidableEq, Repr

/-- The checker: LFSR, MISR, and writes that wait for an operation in progress (R108). -/
structure Checker where
  lfsr  : DWord
  misr  : DWord
  late  : List (Nat × Word)
  deriving DecidableEq, Repr

/-- What a bank holds beside its contents: the power state it enters, whether it wakes from OFF, the scrub's
next row and the corrections it holds (R161, R164). -/
structure BankSt where
  entering  : Option (BitVec 2)
  fromOff   : Bool
  scrubRow  : Nat
  scrubHold : Option (Nat × List (Nat × List Byte))
  deriving DecidableEq, Repr

/-- A march test in progress: its bank, its kind, and the descriptor a host test answers (R166-R168, R417). -/
structure March where
  bank       : Nat
  preserving : Bool
  req        : Option (Nat × Nat)
  deriving DecidableEq, Repr

/-- A token queue: where its head stands and how many tokens wait (R224). -/
structure TokQ where
  rd  : Nat
  cnt : Nat
  deriving DecidableEq, Repr

/-- A combiner's round: contributors folded, their count, the pieces landed of each, whether it is writing
its result; whether it has timed out (R281-R284). -/
structure CmbRound where
  folded : DWord
  n      : Nat
  pieces : Tbl (BitVec 256)
  timed  : Bool
  deriving DecidableEq, Repr

/-- A packet of the retransmit buffer: its place in the order of injection, the operation it serves, its
attempts, whether it is held for a flip or waits for a gap (R196, R198, R200). -/
structure Rtx where
  pkt      : Packet
  ord      : Nat
  op       : Nat
  attempts : Nat
  held     : Bool
  gap      : Bool
  deriving DecidableEq, Repr

/-- Acknowledgements gathered for one source, plane and VC (R198). -/
structure AckGather where
  engine : BitVec 12
  epid   : BitVec 19
  plane  : Plane
  base   : Byte
  mask   : BitVec 16
  deriving DecidableEq, Repr

/-- A hold entry of a destination (R199). -/
structure HoldEnt where
  engine : BitVec 12
  epid   : BitVec 19
  plane  : Plane
  vc     : Bool
  seq    : Byte
  deriving DecidableEq, Repr

/-- The source and destination interface of a site (R194-R201, R210, R212). -/
structure NetIf where
  rtx      : List Rtx
  seqno    : Tbl Byte
  heldDest : List (Nat × Plane)
  acks     : List AckGather
  holds    : List HoldEnt
  epoch    : Bool
  fenced   : Bool
  stopped  : Bool
  fdSent   : Bool
  stall    : Nat
  nextTag  : BitVec 16
  ord      : Nat
  deriving DecidableEq, Repr

/-- A core and everything of its site but the routers. `regs` holds the control-block registers that are no
view of another field, by endpoint offset; `w64` the W64 counters and `latch` their latched high words, by
the offset of the low word (R16). -/
structure Core where
  seqr     : Seqr
  regs     : Tbl Word
  w64      : Tbl DWord
  latch    : Tbl Word
  eng      : Tbl Engine
  opSeq    : Nat
  acc      : Tbl AccRow
  active   : Option Tile
  shadow   : Option Tile
  loading  : Option Tile
  accEng   : Tbl AccEng
  checker  : Checker
  sram     : EccMem
  banks    : Tbl BankSt
  spare    : Tbl Nat
  march    : Option March
  tokq     : Tbl TokQ
  switch   : Tbl DWord
  swPos    : Nat
  schPos   : Tbl Nat
  launch   : Bool
  drainArm : Bool
  chan     : Tbl Word
  cmb      : Tbl Word
  cmbRound : Tbl CmbRound
  sense    : Tbl Bool
  net      : NetIf
  inReset  : Bool
  quiesce  : Bool
  deriving DecidableEq, Repr

/-- The routers of a site: exception and multicast entries of both versions, links marked down, barrier
arrivals by group and sense, kept release positions by group and port, the position last sent up by group, the
fence of the site's core with its reason, FENCE_DONE received by port (R189, R194, R204, R206, R286, R408). -/
structure Router where
  exc      : Tbl DWord
  mc       : Tbl Word
  down     : BitVec 4
  bypDown  : BitVec 4
  arr      : Tbl (BitVec 5)
  rel      : Tbl (BitVec 16)
  relSent  : Tbl (BitVec 16)
  fence    : Option Byte
  fdone    : BitVec 5
  deriving DecidableEq, Repr

/-- What travels in the fabric: a packet, the router it is about to reach, the port it comes in by, whether that
router has ejected it to its local or attachment port, the down link a C packet waits for there, and the lantern
crossings a Jendex packet has made (R180, R188, R196, R357). -/
structure Flight where
  site    : SiteId
  from_   : Port
  ejected : Bool
  hold    : Option Dir
  hops    : BitVec 4
  body    : Packet ⊕ CPacket
  deriving DecidableEq, Repr

/-- What a flip is made for: an EPOCH_FLIP, a LOAD_IMAGE with the regions it configures and its image's signed message
and KEY_ID, a FLOORPLAN_COMMIT, or a change of the cupola's own (R194, R197, R222, R361, R429, R454). -/
inductive FlipFor where
  | host
  | load (ids : List Nat) (mark : BitVec 256 × BitVec 256)
  | plan
  | cupola
  deriving DecidableEq, Repr

/-- An epoch flip asked for or in progress: the descriptor it answers, what it is for, and whether it runs its
own CHECK first (R194). -/
structure Flip where
  req   : Option (Nat × Nat)
  why   : FlipFor
  check : Bool
  deriving DecidableEq, Repr

/-- The fabric's engine-wide tables and flip state (R185-R187, R191-R194, R359). Keys carry the version; `holes` and
`avoid` are the areas and links that the cupola's detour entries of a version lead around (R190, R197). `staging` is
1 while a COPY and 2 while a CHECK runs. Links by their ends are named by the N or W one. -/
structure Fab where
  loaded   : Bool
  coreSec  : Tbl Word
  endp     : Tbl (BitVec 128)
  group    : Tbl Word
  fwdEng   : Tbl (BitVec 5)
  fwdSet   : Tbl (BitVec 48)
  fwdWt    : Tbl Nat
  holes    : Tbl (BitVec 288)
  avoid    : Tbl (List (SiteId × Dir))
  staging  : Nat
  flip     : Option Flip
  waiting  : List Flip
  flights  : List Flight
  lost     : List (SiteId × Dir)
  retrained : List (SiteId × Dir)
  rebuilt  : List Nat
  treeRoot : SiteId
  deriving DecidableEq, Repr

/-- A recorded region fault (R243). -/
structure RgnFault where
  cause  : Byte
  epid   : BitVec 19
  detail : Byte
  gcc    : DWord
  deriving DecidableEq, Repr

/-- A region (R213-R222, R230, R236-R243). State codes are those of R215; `late` are the cores a scan
has given up on; `groups` and `routes` are the multicast
groups and exception entries its load built (R222, R442). -/
structure Region where
  conf      : Bool
  st        : Nat
  sched     : Bool
  sealBit   : Bool
  slipFault : Bool
  sealed    : Bool
  planes    : BitVec 2
  haltGroup : BitVec 14
  drainFlag : BitVec 4
  gen       : BitVec 3
  xlo       : Nat
  xhi       : Nat
  ylo       : Nat
  yhi       : Nat
  ranges    : List (Nat × Nat)
  placement : BitVec 256
  build     : DWord
  fault     : Option RgnFault
  startReq  : Option (Nat × Nat)
  drainReq  : Option (Nat × Nat)
  stopReq   : Option (Nat × Nat)
  scanReq   : Option (Nat × Nat × DWord)
  marginLog : Nat
  late      : List SiteId
  reload    : Option (Nat × Nat × List Byte)
  groups    : List Nat
  routes    : List (SiteId × Nat × DWord)
  deriving DecidableEq, Repr

/-- All regions, the generation counter and its blocked values, the load record: core, destination, digest
(R213, R222, R242). -/
structure Rgns where
  tbl     : Tbl Region
  gen     : BitVec 3
  blocked : BitVec 8
  loads   : List (Nat × Nat × BitVec 256)
  deriving DecidableEq, Repr

/-- A fetched descriptor: its 64 bytes, HEAD after its fetch, its order number in its ring (R327, R329). -/
structure Desc where
  w    : BitVec 512
  head : BitVec 16
  uid  : Nat
  busy : Bool
  deriving DecidableEq, Repr

/-- A command ring beside its configuration registers (R324, R327). -/
structure CmdRing where
  head    : Nat
  tail    : Nat
  err     : Bool
  fetched : List Desc
  started : List Desc
  uid     : Nat
  deriving DecidableEq, Repr

/-- A completion ring beside its configuration registers (R325, R327). -/
structure CplRing where
  tail    : Nat
  phase   : Bool
  head    : Nat
  waiting : List (BitVec 256)
  deriving DecidableEq, Repr

/-- The pending event record of a class, with the timestamp of its first event (R335, R337). -/
structure EvPend where
  overrun : Nat
  time    : DWord
  data    : BitVec 128
  deriving DecidableEq, Repr

/-- A host window (R333). -/
structure Window where
  open_  : Bool
  rd     : Bool
  wr     : Bool
  anySrc : Bool
  rgn    : BitVec 16
  offset : Nat
  len    : Nat
  haddr  : DWord
  busy   : Nat
  closing : Option (Nat × Nat)
  deriving DecidableEq, Repr

/-- The PCIe link and link IDE stream (R316, R341, R455). -/
structure PcieSt where
  up      : Bool
  lanes   : Nat
  rate8   : Nat
  secure  : Bool
  keyNext : Bool
  aerIde  : Bool
  deriving DecidableEq, Repr

/-- The host interface: rings, pending events, windows and their reads in flight, MSI-X, the bytes of host memory the
engine has written (R324-R338, R346). -/
structure HostIf where
  cmd    : Tbl CmdRing
  cpl    : Tbl CplRing
  events : Tbl (Option EvPend)
  evSeq  : Word
  next   : Nat
  wins   : Tbl Window
  reads  : List (Nat × Packet)
  msix   : Tbl Word
  pba    : Tbl Bool
  sent   : List (DWord × Word)
  mem    : Tbl (Option Byte)
  pcie   : PcieSt
  abort  : Bool
  last   : List Byte
  deriving DecidableEq, Repr

/-- A stack repair in progress: its descriptor and the candidates still to do (R309). -/
structure Repair where
  req  : Nat × Nat
  todo : List Nat
  deriving DecidableEq, Repr

/-- An HBM4 stack (R300-R310, R315). State codes are those of STK_STATUS.STATE. -/
structure Stack where
  st       : Nat
  mem      : EccMem
  cands    : List Nat
  candOvf  : Bool
  scrub    : Nat
  lastPass : List Nat
  thisPass : List Nat
  temp     : Int
  interval : Nat
  refresh  : Tbl DWord
  repair   : Option Repair
  digest   : Bool
  deriving DecidableEq, Repr

/-- A STATE_DIGEST in progress (R311-R314). -/
structure Digest where
  req  : Nat × Nat
  base : Nat
  len  : Nat
  host : DWord
  deriving DecidableEq, Repr

/-- The stacks and the digest in progress. -/
structure Stks where
  tbl    : Tbl Stack
  digest : Option Digest
  deriving DecidableEq, Repr

/-- What a lantern has to send: a Jendex packet with its HOPS, or a control record (R357, R368). -/
inductive LinkOut where
  | packet (hops : BitVec 4) (p : Packet)
  | timeReq (t1 : DWord)
  | timeRsp (t2 : DWord) (d : Word)
  | freqLimit (job mhz sq : BitVec 16) (urgent : Bool)
  | freqSet (job mhz sq : BitVec 16) (at_ : DWord)
  | sbarArrive (b : BitVec 14) (sense : Bool)
  | sbarRelease (b : BitVec 14) (sense : Bool)
  | quiesce (engineReset : Bool)
  | peerInfo (i : PeerInfo)
  | nak (ackSeq : BitVec 12)
  deriving DecidableEq, Repr

/-- A lantern (R350-R356, R375-R379). State, cause and group codes are those of LNT_STATUS. `naks` and `tags` are
the times of the last NAKs and tag failures; `used` counts the units sent and not returned of V VC0, V VC1, S VC0 and
S VC1; `out` waits to be sent, `wire` has been sent. -/
structure Lantern where
  st      : Nat
  width   : Nat
  group   : Nat
  cause   : Nat
  encOn   : Bool
  tagFail : Bool
  peer    : Option PeerInfo
  good    : BitVec 16
  txSeq   : BitVec 12
  rxNext  : BitVec 12
  await   : Bool
  replay  : List (BitVec 12)
  naks    : List DWord
  tags    : List DWord
  used    : Tbl Nat
  keyGen  : Nat
  keyed   : Bool
  out     : List LinkOut
  wire    : List LinkOut
  req     : Option (Nat × Nat)
  recal   : Option (Nat × Nat)
  deriving DecidableEq, Repr

/-- The lanterns and the system tree: time exchange, frequency agreement, barrier marks; the requests each remote
window has admitted that are not yet answered (R367, R369-R374). -/
structure Lnts where
  tbl      : Tbl Lantern
  first    : Bool
  okRun    : Nat
  badRun   : Nat
  asked    : Option DWord
  trim     : Int
  limits   : Tbl Nat
  lastSet  : Option Nat
  nextSet  : List (Nat × DWord)
  freqSq   : BitVec 16
  frozen   : Bool
  marks    : Tbl (BitVec 49)
  admitted : List (Nat × Packet)
  deriving DecidableEq, Repr

/-- Clocks (R229, R382-R392, R398): cycle count, timestamp with its fraction, F and where it moves to, the source
limits by their row in R398, dome states by R391's codes, parking under way or done, stretched cycles to come, the
times of the last stretches, whether one has come since the last droop tick, and how many ticks in a row each limit's
condition has held. -/
structure Clk where
  gcc       : DWord
  ts        : DWord
  frac      : Nat
  f         : Nat
  target    : Nat
  limit     : Tbl Nat
  dome      : Tbl Nat
  parking   : Bool
  stopped   : Bool
  stretch   : Nat
  stretches : List DWord
  stretched : Bool
  runs      : Tbl Nat
  deriving DecidableEq, Repr

/-- A spire area: powered, waiting for its retry, in the soft start of its retry, borrowed for a test (R395, R410).
Its RETRIED and LATCHED states are those of its flash record (R423). -/
structure Area where
  on       : Bool
  awaiting : Bool
  starting : Bool
  borrowed : Bool
  deriving DecidableEq, Repr

/-- Power and heat (R394-R404): areas, times of the last trips, the last sensor readings, control power and what it
is formed from, an episode of disagreement with its start, ticks and largest percentage. -/
structure Pwr where
  area      : Tbl Area
  trips     : List (DWord × Nat)
  sensors   : List Int
  atTrip    : List Nat
  power     : Nat
  control   : Nat
  estimate  : Nat
  differ    : Nat
  agree     : Nat
  useMax    : Bool
  episode   : Option (Nat × Nat × Nat)
  chassis   : Nat
  fatal     : Bool
  millivolt : Nat
  milliamp  : Nat
  deriving DecidableEq, Repr

/-- A site record of the flash history (R421). Days are `none` where the field reads 0xFFFF. -/
structure SiteRec where
  st      : Nat
  reason  : Nat
  retests : Nat
  rfails  : Nat
  m       : Nat
  vstep   : Nat
  trans   : Nat
  tday0   : Option Nat
  tday1   : Option Nat
  tday2   : Option Nat
  sday    : Option Nat
  rowrec  : Nat
  xfails  : Nat
  deriving DecidableEq, Repr

/-- An area record of the flash history (R423). -/
structure AreaRec where
  st       : Nat
  trips    : Nat
  lastTrip : Nat
  stretch  : Nat
  lastTest : Nat
  corner   : Nat
  deriving DecidableEq, Repr

/-- A log record of the flash history (R425). -/
structure LogRec where
  type : Byte
  sq   : Nat
  sec  : Nat
  data : BitVec 128
  deriving DecidableEq, Repr

/-- A cross-check in progress (R410-R416): its descriptor or none for a scheduled pass, its area, corner,
kernel, passes left, its tallies, the draw its pass's seeds are, and the disagreements that wait for the cupola's
software: the pair's number and draw with the signatures that differ. -/
structure Xchk where
  req     : Option (Nat × Nat)
  area    : Nat
  m       : Nat
  vstep   : Nat
  kernel  : Nat
  passes  : Nat
  charged : List Nat
  thirds  : Nat
  arbs    : Nat
  draw    : Nat
  arb     : List (Nat × Nat × List (SiteId × DWord))
  deriving DecidableEq, Repr

/-- Self-test, flash history and risk level (R407-R431). `recent` holds, for each of the last 60 s, the
corrected decodes, stretches and link departures counted in it; `stackTot` the CE and UE totals of the stack records by
2k and 2k + 1; `minutes` and `seconds` the powered time. -/
structure Rel where
  site    : Tbl SiteRec
  row     : Tbl (List (Nat × Nat))
  rowSite : Tbl Nat
  area    : Tbl AreaRec
  stackFail : Tbl Bool
  stackCand : Tbl (List Nat)
  stackRep : Tbl Nat
  stackTot : Tbl Nat
  lantern : Tbl (BitVec 128)
  log     : List LogRec
  logSq   : Nat
  plan    : Tbl Word
  xchk    : List Xchk
  recent  : List (Nat × Nat × Nat)
  now     : Nat × Nat × Nat
  armed   : Bool
  minutes : Nat
  seconds : Nat
  commit  : Option (List (Nat × Nat))
  deriving DecidableEq, Repr

/-- A firmware slot (R445-R447): what its image says, whether it is bad, whether it is staged. -/
structure FwSlot where
  version : Word
  svn     : BitVec 16
  digest  : BitVec 256
  bad     : Bool
  staged  : Bool
  deriving DecidableEq, Repr

/-- Firmware: slots by `2 * target + slot`, the running slot of each target, the minimum SVNs, staging and
handover in progress (R445-R449). -/
structure Fw where
  slot     : Tbl FwSlot
  run      : Tbl Nat
  minSvn   : Tbl Nat
  staging  : Option (Nat × Nat × Nat × FwSlot)
  handover : Option (Nat × Nat × Nat)
  deriving DecidableEq, Repr

/-- An SPDM session (R453). -/
structure Session where
  keyed    : Bool
  finished : Bool
  keyGen   : Nat
  deriving DecidableEq, Repr

/-- The security controller (R450-R462). `answer` is the last answer given on SPDM or the sideband. -/
structure Sec where
  owner     : List Byte
  imgKey    : Tbl (Option (BitVec 256))
  ident     : Bool
  nonce     : Option (List Byte)
  sess      : Tbl Session
  bootPol   : Word
  lockBoot  : Bool
  makerMode : Bool
  makerSeen : Bool
  armed     : BitVec 5
  ideKey    : Option (BitVec 256)
  ideNext   : Option (BitVec 256)
  images    : BitVec 256
  answer    : List Byte
  deriving DecidableEq, Repr

/-- Start-up, slot and reset state (R436-R444, R467-R478): whether a copy of the flash history is good, what start-up
waits for, the WARM reset under way, a COMPUTE or REGION reset's descriptor, the target no slot of which verifies, the
PCIe core, the pins and the input switch. -/
structure Boot where
  histOk     : Bool
  powerGood  : Bool
  waitSupply : Bool
  waitRef    : Bool
  warm       : Bool
  resetting  : Option (Nat × Nat)
  recover    : Option Nat
  perst      : Bool
  seat       : Bool
  inputSw    : Bool
  coreUp     : Bool
  portUp     : Bool
  slotId     : BitVec 3
  deriving DecidableEq, Repr

/-- The engine. `pending` is the queue of commands, first in, first out; `fresh` numbers the free values
(both the model's own). BAR0 registers that are no view are in `regs`, by BAR0 offset. -/
structure State where
  pending : List Instr
  fresh   : Nat
  cores   : Tbl Core
  routers : Tbl Router
  fab     : Fab
  rgns    : Rgns
  host    : HostIf
  regs    : Tbl Word
  w64     : Tbl DWord
  latch   : Tbl Word
  stks    : Stks
  lnts    : Lnts
  clk     : Clk
  pwr     : Pwr
  rel     : Rel
  fw      : Fw
  sec     : Sec
  boot    : Boot
  deriving DecidableEq, Repr

/-- Why the engine stops. No rule of the manual stops it on a command: the type has no constructor. -/
inductive Fault
  deriving DecidableEq, Repr

/-- Why a command has no meaning here. -/
inductive Refusal where
  /-- Raised by an arm of `exec` whose command has no meaning yet; safe. -/
  | notModelled (mnemonic : String)
  deriving DecidableEq, Repr

/-- A memory of zero codewords (R157, R163). -/
def EccMem.zero : EccMem := { data := [], chk := [] }

/-- A loop level after reset (R136). -/
def LoopLevel.reset : LoopLevel := { start := 0, fin := 0, remain := 0 }

/-- A context after reset: OFF, everything 0 (R136). -/
def Ctx.reset : Ctx :=
  { pc := 0, st := 0, gen := 0, evActive := false, bwait := false, ldepth := 0, loops := [], pend := 0,
    en := 0, vec := 0, epc := 0, regs := [], bar := 0, sense := false }

/-- An engine after reset: empty queue, tickets 0 (R107, R121). -/
def Engine.reset : Engine := { queue := [], run := [], issued := 0, done := 0 }

/-- An accumulator row after reset: FLOAT zero (R85). -/
def AccRow.zero : AccRow := { int := false, exp := 0, v := [] }

/-- An access engine after reset: stream position 0, every credit held (R98). -/
def AccEng.reset : AccEng :=
  { sent := 0, ready := 0, landed := [], taken := 0, outs := [], cur := none, mcSent := []
    mcFreed := [], joins := [], freed := [] }

/-- A bank after reset: ON; the scrub begins at row 0 (DESIGN CHOICE, log entry 3). -/
def BankSt.reset : BankSt := { entering := none, fromOff := false, scrubRow := 0, scrubHold := none }

/-- An empty token queue (R247). -/
def TokQ.reset : TokQ := { rd := 0, cnt := 0 }

/-- A combiner round with nothing folded (R283). -/
def CmbRound.reset : CmbRound := { folded := 0, n := 0, pieces := [], timed := false }

/-- A site's interface after reset (R212). -/
def NetIf.reset : NetIf :=
  { rtx := [], seqno := [], heldDest := [], acks := [], holds := [], epoch := false, fenced := false,
    stopped := false, fdSent := false, stall := 0, nextTag := 0, ord := 0 }

/-- A core after reset. The instruction store and the switch store, whose reset contents the manual leaves
open, read 0 (DESIGN CHOICE, log entry 3). -/
def Core.reset : Core :=
  { seqr := { ctxs := [], cur := 0, run := false, done := false, fault := false, wait := .none, flags := 0,
              flagsOld := 0, flagsSeen := 0, avail := [], istore := EccMem.zero }
    regs := [], w64 := [], latch := [], eng := [], opSeq := 0, acc := [], active := none, shadow := none
    loading := none, accEng := [], checker := { lfsr := 1, misr := 0, late := [] }, sram := EccMem.zero
    banks := [], spare := [], march := none, tokq := [], switch := [], swPos := 0, schPos := []
    launch := false, drainArm := false, chan := [], cmb := [], cmbRound := [], sense := []
    net := NetIf.reset, inReset := false, quiesce := false }

/-- The routers of a site after reset: tables clear (R211). -/
def Router.reset : Router :=
  { exc := [], mc := [], down := 0, bypDown := 0, arr := [], rel := [], relSent := [], fence := none
    fdone := 0 }

/-- No region (R213). -/
def Region.reset : Region :=
  { conf := false, st := 0, sched := false, sealBit := false, slipFault := false, sealed := false, planes := 0
    haltGroup := 0, drainFlag := 0, gen := 0, xlo := 0, xhi := 0, ylo := 0, yhi := 0, ranges := []
    placement := 0, build := 0, fault := none, startReq := none, drainReq := none, stopReq := none
    scanReq := none
    marginLog := 22, late := [], reload := none, groups := [], routes := [] }

/-- A command ring after reset: empty and idle (R345). -/
def CmdRing.reset : CmdRing := { head := 0, tail := 0, err := false, fetched := [], started := [], uid := 0 }

/-- A completion ring after reset: TAIL 0, PHASE 1 (R345). -/
def CplRing.reset : CplRing := { tail := 0, phase := true, head := 0, waiting := [] }

/-- A closed window (R333). -/
def Window.reset : Window :=
  { open_ := false, rd := false, wr := false, anySrc := false, rgn := 0, offset := 0, len := 0, haddr := 0
    busy := 0, closing := none }

/-- A stack before start-up reaches it. STATE is undefined until then and reads ABSENT here
(DESIGN CHOICE, log entry 3). -/
def Stack.reset : Stack :=
  { st := 0, mem := EccMem.zero, cands := [], candOvf := false, scrub := 0, lastPass := [], thisPass := []
    temp := 0, interval := 0, refresh := [], repair := none, digest := false }

/-- A lantern before the capability record is read: STATE ABSENT (DESIGN CHOICE, log entry 3). -/
def Lantern.reset : Lantern :=
  { st := 0, width := 0, group := 0, cause := 0, encOn := false, tagFail := false
    peer := none, good := 0, txSeq := 0, rxNext := 0, await := false, replay := [], naks := [], tags := []
    used := [], keyGen := 0, keyed := false, out := [], wire := [], req := none, recal := none }

/-- A spire area before start-up step 2: off (R436). -/
def Area.reset : Area :=
  { on := false, awaiting := false, starting := false, borrowed := false }

/-- A site record never written: GOOD with no history (R420). -/
def SiteRec.fresh : SiteRec :=
  { st := 0, reason := 0, retests := 0, rfails := 0, m := 0, vstep := 0, trans := 0, tday0 := none
    tday1 := none, tday2 := none, sday := none, rowrec := 0, xfails := 0 }

/-- An area record never written (R420). -/
def AreaRec.fresh : AreaRec :=
  { st := 0, trips := 0, lastTrip := 0, stretch := 0, lastTest := 0, corner := 0 }

/-- A firmware slot with no image recorded (DESIGN CHOICE, log entry 3). -/
def FwSlot.reset : FwSlot := { version := 0, svn := 0, digest := 0, bad := false, staged := false }

/-- A session slot not in use (R453). -/
def Session.reset : Session := { keyed := false, finished := false, keyGen := 0 }

/-- The engine right after reset, before power good: every register at its reset value, SRAM and stacks with
nothing listed, flash never written. The command POWER_GOOD then runs start-up (R436). Values the manual
gives no reset for are those of log entry 3. -/
def State.reset : State :=
  { pending := []
    fresh := 0
    cores := []
    routers := []
    fab := { loaded := false, coreSec := [], endp := [], group := [], fwdEng := [], fwdSet := [], fwdWt := []
             holes := [], avoid := [], staging := 0, flip := none, waiting := [], flights := [], lost := []
             retrained := [], rebuilt := [], treeRoot := 0 }
    rgns := { tbl := [], gen := 0, blocked := 0, loads := [] }
    host := { cmd := [], cpl := [], events := [], evSeq := 0, next := 0, wins := [], reads := [], msix := []
              pba := [], sent := [], mem := []
              pcie := { up := false, lanes := 0, rate8 := 0, secure := false, keyNext := false
                        aerIde := false }
              abort := false, last := [] }
    regs := []
    w64 := []
    latch := []
    stks := { tbl := [], digest := none }
    lnts := { tbl := [], first := true, okRun := 0, badRun := 0, asked := none, trim := 0, limits := []
              lastSet := none, nextSet := [], freqSq := 0, frozen := false, marks := [], admitted := [] }
    clk := { gcc := 0, ts := 0, frac := 0, f := 400, target := 1300, limit := [], dome := [], parking := false
             stopped := false, stretch := 0, stretches := [], stretched := false, runs := [] }
    pwr := { area := [], trips := [], sensors := [], atTrip := [], power := 0, control := 0, estimate := 0
             differ := 0, agree := 0, useMax := false, episode := none, chassis := 28000, fatal := false
             millivolt := 0, milliamp := 0 }
    rel := { site := [], row := [], rowSite := [], area := [], stackFail := [], stackCand := []
             stackRep := [], lantern := [], log := [], logSq := 0, plan := [], xchk := [], recent := [], now := (0, 0, 0)
             armed := true, minutes := 0, seconds := 0, stackTot := [], commit := none }
    fw := { slot := [], run := [], minSvn := [], staging := none, handover := none }
    sec := { owner := [], imgKey := [], ident := true, nonce := none, sess := []
             bootPol := 0, lockBoot := false, makerMode := false, makerSeen := false
             armed := 31, ideKey := none, ideNext := none, images := 0, answer := [] }
    boot := { histOk := true, powerGood := false, waitSupply := false, waitRef := false, warm := false
              resetting := none, recover := none, perst := true, seat := false, inputSw := false, coreUp := false
              portUp := false, slotId := 0 } }

end Sys2Proof.Machine
end

