-- ==== Sys2Proof/Machine/Ecc.lean ====
section
/-!
DEFINITION. The symbol code of the SRAM, the instruction store and the stacks, and memories under it
(R155-R158).
-/

namespace Sys2Proof.Machine

/-- A carry-less product of degree up to 6 reduced by x^4 + x + 1 (R155). -/
def gfReduce (p : Nat) : Nat :=
  let p := if p.testBit 6 then p ^^^ 0x4C else p
  let p := if p.testBit 5 then p ^^^ 0x26 else p
  if p.testBit 4 then p ^^^ 0x13 else p

/-- The product of two elements of GF(16) (R155). -/
def gfMul (a b : Nat) : Nat :=
  gfReduce ((if b.testBit 0 then a else 0) ^^^ (if b.testBit 1 then a <<< 1 else 0)
    ^^^ (if b.testBit 2 then a <<< 2 else 0) ^^^ (if b.testBit 3 then a <<< 3 else 0))

/-- The inverse in GF(16): the fourteenth power. -/
def gfInv (a : Nat) : Nat :=
  let a2 := gfMul a a
  let a4 := gfMul a2 a2
  let a8 := gfMul a4 a4
  gfMul a2 (gfMul a4 a8)

/-- f(x, y) = x² + xy + α³y²; α³ has the code 8 (R156). -/
def quadric (x y : Nat) : Nat := gfMul x x ^^^ gfMul x y ^^^ gfMul 8 (gfMul y y)

/-- The point of data position `p` (R156). -/
def point (p : Nat) : Nat × Nat :=
  if p ≤ 13 then (p + 2, 0) else if p ≤ 28 then (p - 13, 1) else (p - 29, 2)

/-- D_1, D_2 and D_3 and D_0 of a codeword's data (R157). -/
def dataSums (d : Nat) : Nat × Nat × Nat × Nat :=
  (List.range 32).foldl (fun (a : Nat × Nat × Nat × Nat) j =>
    let s := fld d (4 * j) 4
    if s = 0 then a
    else
      let (x, y) := point j
      (a.1 ^^^ s, a.2.1 ^^^ gfMul x s, a.2.2.1 ^^^ gfMul y s, a.2.2.2 ^^^ gfMul (quadric x y) s)) (0, 0, 0, 0)

/-- The check bits [143:128] of a codeword: c_32 lowest (R155, R157). -/
def eccEncode (d : Nat) : BitVec 16 :=
  let (d0, d1, d2, d3) := dataSums d
  let c32 := d0 ^^^ d1 ^^^ d2
  let c35 := d3 ^^^ d1 ^^^ gfMul 8 d2
  BitVec.ofNat 16 (c32 + (d1 <<< 4) + (d2 <<< 8) + (c35 <<< 12))

/-- What the decoder finds in a codeword (R158). -/
inductive Decoded where
  | clean
  | corrected (d : Nat) (chk : BitVec 16)
  | bad
  deriving DecidableEq, Repr

/-- The position with point (x, y), if the codeword has one (R156). -/
def position (x y : Nat) : Option Nat :=
  if y = 0 then (if x = 0 then some 32 else if x = 1 then some 33 else some (x - 2))
  else if y = 1 then (if x = 0 then some 34 else some (x + 13))
  else if y = 2 ∧ x ≤ 2 then some (x + 29)
  else none

/-- Decoding of a received codeword (R158). -/
def eccDecode (d : Nat) (chk : BitVec 16) : Decoded :=
  let (d0, d1, d2, d3) := dataSums d
  let c := chk.toNat
  let c32 := fld c 0 4
  let c33 := fld c 4 4
  let c34 := fld c 8 4
  let c35 := fld c 12 4
  let s0 := d0 ^^^ c32 ^^^ c33 ^^^ c34
  let s1 := d1 ^^^ c33
  let s2 := d2 ^^^ c34
  let s3 := d3 ^^^ c33 ^^^ gfMul 8 c34 ^^^ c35
  if s0 = 0 ∧ s1 = 0 ∧ s2 = 0 ∧ s3 = 0 then .clean
  else if s0 = 0 then
    if s1 = 0 ∧ s2 = 0 then .corrected d (chk ^^^ BitVec.ofNat 16 (s3 <<< 12)) else .bad
  else
    let x := gfMul s1 (gfInv s0)
    let y := gfMul s2 (gfInv s0)
    if gfMul s3 (gfInv s0) ≠ quadric x y then .bad
    else match position x y with
      | none => .bad
      | some p =>
        if p < 32 then .corrected (d ^^^ (s0 <<< (4 * p))) chk
        else .corrected d (chk ^^^ BitVec.ofNat 16 (s0 <<< (4 * (p - 32))))

/-- The data bits of codeword `i` of a memory. -/
def EccMem.cw (m : EccMem) (i : Nat) : Nat := leNat (memReads m.data (16 * i) 16)

/-- Codeword `i` as stored, decoded. -/
def EccMem.decode (m : EccMem) (i : Nat) : Decoded := eccDecode (m.cw i) (Tbl.get 0 m.chk i)

/-- A memory with codeword `i` written raw. -/
def EccMem.putRaw (m : EccMem) (i d : Nat) (chk : BitVec 16) : EccMem :=
  { data := memWrites m.data (16 * i) (leBytes 16 d), chk := Tbl.set 0 m.chk i chk }

/-- A memory with the data of codeword `i` written and encoded. -/
def EccMem.put (m : EccMem) (i d : Nat) : EccMem := m.putRaw i d (eccEncode d)

/-- What a read finds: the bytes, how many codewords were corrected, the first uncorrectable one and how many
there were. -/
structure EccRead where
  bytes : List Byte
  ce    : Nat
  ue    : Nat
  cw    : Nat
  deriving DecidableEq, Repr

/-- `n` codewords from `i` on, decoded, with their data as the decoder gives it. -/
def EccMem.decodeRun (m : EccMem) (i : Nat) : Nat → EccRead
  | 0 => { bytes := [], ce := 0, ue := 0, cw := 0 }
  | n + 1 =>
    let r := m.decodeRun (i + 1) n
    match m.decode i with
    | .clean => { r with bytes := memReads m.data (16 * i) 16 ++ r.bytes }
    | .corrected d _ => { r with bytes := leBytes 16 d ++ r.bytes, ce := r.ce + 1 }
    | .bad => { bytes := memReads m.data (16 * i) 16 ++ r.bytes, ce := r.ce, ue := r.ue + 1, cw := i }

/-- How many codewords the bytes `a` to `a + n - 1` touch. -/
def cwSpan (a n : Nat) : Nat := if n = 0 then 0 else (a + n - 1) / 16 + 1 - a / 16

/-- A read of `n` bytes at `a` through the decoder (R159). -/
def EccMem.read (m : EccMem) (a n : Nat) : EccRead :=
  let r := m.decodeRun (a / 16) (cwSpan a n)
  { r with bytes := slice r.bytes (a % 16) n }

/-- Bytes spread over codewords from `i` on, each written and encoded. -/
def EccMem.putRun (m : EccMem) (i : Nat) : Nat → List Byte → EccMem
  | 0, _ => m
  | n + 1, b => (m.put i (leNat (b.take 16))).putRun (i + 1) n (b.drop 16)

/-- What a write does: the memory, and what its merges of partly written codewords found. A write whose merge
finds an uncorrectable codeword is dropped whole (R142, R160). -/
structure EccWrite where
  mem : EccMem
  ce  : Nat
  ue  : Nat
  cw  : Nat
  deriving DecidableEq, Repr

/-- A write of bytes at `a`, merged into its codewords (R142). -/
def EccMem.write (m : EccMem) (a : Nat) (b : List Byte) : EccWrite :=
  if b = [] then { mem := m, ce := 0, ue := 0, cw := 0 }
  else
    let i := a / 16
    let n := cwSpan a b.length
    let last := i + n - 1
    let headPart := decide (a % 16 ≠ 0)
    let tailPart := decide ((a + b.length) % 16 ≠ 0)
    let h := if headPart then m.read (16 * i) 16 else { bytes := [], ce := 0, ue := 0, cw := 0 }
    let t := if tailPart && (decide (last ≠ i) || !headPart) then m.read (16 * last) 16
      else { bytes := [], ce := 0, ue := 0, cw := 0 }
    let tailBytes := if last = i ∧ headPart then h.bytes else t.bytes
    if h.ue + t.ue > 0 then
      { mem := m, ce := h.ce + t.ce, ue := h.ue + t.ue, cw := if h.ue > 0 then h.cw else t.cw }
    else
      let whole := h.bytes.take (a % 16) ++ b ++
        (if tailPart then tailBytes.drop ((a + b.length) % 16) else [])
      { mem := m.putRun i n whole, ce := h.ce + t.ce, ue := 0, cw := 0 }

/-- A memory with `n` codewords from `i` on filled with zero codewords (R163). -/
def EccMem.zeroRun (m : EccMem) (i n : Nat) : EccMem :=
  { data := m.data.filter fun c => decide (c.1 < 16 * i) || decide (16 * (i + n) ≤ c.1)
    chk := m.chk.filter fun c => decide (c.1 < i) || decide (i + n ≤ c.1) }

end Sys2Proof.Machine
end

