-- ==== Sys2Proof/Machine/Grid.lean ====
section
/-!
DEFINITION. The grid of sites, the numbering of cores, areas, dies and stacks, the tables of the fabric and
what a fabric address resolves to (R18-R38, R185-R187, R297, R360).
-/

namespace Sys2Proof.Machine

/-- The site at (X, Y) (R19). -/
def mkSite (x y : Nat) : SiteId := Fin.ofNat 294912 (y * 768 + x)

/-- A site's X (R19). -/
def siteX (k : SiteId) : Nat := k.val % 768

/-- A site's Y (R19). -/
def siteY (k : SiteId) : Nat := k.val / 768

/-- A site's dome (R19). -/
def siteDome (k : SiteId) : Nat := siteY k / 128 * 4 + siteX k / 192

/-- A site's row in its dome (R19). -/
def siteRow (k : SiteId) : Nat := siteY k % 128

/-- A site's column in its dome (R19). -/
def siteCol (k : SiteId) : Nat := siteX k % 192

/-- The spire area that feeds a site (R25). -/
def siteArea (k : SiteId) : Nat := siteDome k * 24 + siteRow k / 32 * 6 + siteCol k / 32

/-- Whether a site is the spare of its segment (R21). -/
def isSpare (k : SiteId) : Bool := siteCol k % 48 == 47

/-- The site a dome, row and site column name (R19). -/
def domeSite (dome row col : Nat) : SiteId := mkSite (dome % 4 * 192 + col) (dome / 4 * 128 + row)

/-- The number of logical cores (R22). -/
def coreCount : Nat := 288768

/-- The neighbour of a site in a direction; none beyond the grid's edge (R17, R171). -/
def neighbour (k : SiteId) : Dir → Option SiteId
  | .n => if siteY k = 0 then none else some (mkSite (siteX k) (siteY k - 1))
  | .e => if siteX k = 767 then none else some (mkSite (siteX k + 1) (siteY k))
  | .s => if siteY k = 383 then none else some (mkSite (siteX k) (siteY k + 1))
  | .w => if siteX k = 0 then none else some (mkSite (siteX k - 1) (siteY k))

/-- A direction's number: 0 N, 1 E, 2 S, 3 W (R186, R189). -/
def Dir.num : Dir → Nat
  | .n => 0
  | .e => 1
  | .s => 2
  | .w => 3

/-- The direction of a number. -/
def Dir.ofNum (n : Nat) : Dir := match n % 4 with
  | 0 => .n
  | 1 => .e
  | 2 => .s
  | _ => .w

/-- The opposite direction. -/
def Dir.back : Dir → Dir
  | .n => .s
  | .e => .w
  | .s => .n
  | .w => .e

/-- A version's number: 0 A, 1 B (R191). -/
def verNum (v : Bool) : Nat := v.toNat

/-- A core-section entry of the default mapping (R23, R185). -/
def defaultCore (b : Nat) : Word :=
  let dome := b / 512
  let x := dome % 4 * 192 + b % 4 * 48
  let y := dome / 4 * 128 + b % 512 / 4
  BitVec.ofNat 32 (x + (y <<< 10) + (63 <<< 19) + 2 ^ 31)

/-- An endpoint-section entry with all its attachments usable (R186). -/
def endpointEntry (x y along port count : Nat) : BitVec 128 :=
  BitVec.ofNat 128 (x + (y <<< 10) + (along <<< 19) + (port <<< 20) + (count <<< 23) + 2 ^ 31
    + ((2 ^ count - 1) <<< 64))

/-- The default placement of an endpoint: MSDs by R27, lanterns by R31, host and cupola by R30 (R186). -/
def defaultEndpoint (i : Nat) : BitVec 128 :=
  if i < 4 then endpointEntry (64 + 192 * i) 0 0 0 64
  else if i < 8 then endpointEntry 767 (16 + 96 * (i - 4)) 1 1 64
  else if i < 12 then endpointEntry (640 - 192 * (i - 8)) 383 0 2 64
  else if i < 16 then endpointEntry 0 (304 - 96 * (i - 12)) 1 3 64
  else if i < 64 then
    let l := i - 16
    let k := domeSite (l / 4) (if l % 4 < 2 then 31 else 96) (if l % 2 = 0 then 56 else 128)
    endpointEntry (siteX k) (siteY k) 0 4 8
  else if i < 66 then endpointEntry 368 383 0 2 32
  else 0

/-- A core-section entry of a version (R185). -/
def Fab.core (f : Fab) (v : Bool) (b : Nat) : Word :=
  Tbl.get (if f.loaded then defaultCore b else 0) f.coreSec (verNum v * 6144 + b)

/-- The tables with a core-section entry written. -/
def Fab.setCore (f : Fab) (v : Bool) (b : Nat) (w : Word) : Fab :=
  { f with coreSec := Tbl.set (if f.loaded then defaultCore b else 0) f.coreSec (verNum v * 6144 + b) w }

/-- An endpoint-section entry of a version (R186). -/
def Fab.endpoint (f : Fab) (v : Bool) (i : Nat) : BitVec 128 :=
  Tbl.get (if f.loaded then defaultEndpoint i else 0) f.endp (verNum v * 66 + i)

/-- The tables with an endpoint-section entry written. -/
def Fab.setEndpoint (f : Fab) (v : Bool) (i : Nat) (w : BitVec 128) : Fab :=
  { f with endp := Tbl.set (if f.loaded then defaultEndpoint i else 0) f.endp (verNum v * 66 + i) w }

/-- A group-section entry of a version (R187). -/
def Fab.groupRoot (f : Fab) (v : Bool) (g : Nat) : Word := Tbl.get 0 f.group (verNum v * 16384 + g)

/-- The site a core-section entry gives position `i` of its block (R185). -/
def entrySite (e : Word) (i : Nat) : SiteId :=
  mkSite (wfld e 0 10 + (if i = wfld e 19 6 then 47 else i)) (wfld e 10 9)

/-- The site a core EPID resolves to in a version; none where its entry is invalid (R185). -/
def Fab.coreSite (f : Fab) (v : Bool) (epid : Nat) : Option SiteId :=
  let e := f.core v (epid / 47)
  if epid < coreCount && wbit e 31 then some (entrySite e (epid % 47)) else none

/-- The block of EPIDs of the segment a site lies in (R21, R22). -/
def siteBlock (k : SiteId) : Nat := siteDome k * 512 + siteRow k * 4 + siteCol k / 48

/-- The EPID that resolves to a site in a version, if one does (R12, R185). -/
def Fab.epidAt (f : Fab) (v : Bool) (k : SiteId) : Option Nat :=
  let b := siteBlock k
  (List.range 47).findSome? fun i => if f.coreSite v (47 * b + i) = some k then some (47 * b + i) else none

/-- The usable attachment of an endpoint entry that a selector picks: the site (R186). -/
def attachment (e : BitVec 128) (sel : Nat) : Option SiteId :=
  let v := e.toNat
  let count := fld v 23 7
  if fld v 31 1 = 0 || count = 0 then none
  else
    ((List.range count).map fun j => (sel + j) % count).findSome? fun k =>
      if v.testBit (64 + k) then
        some (if fld v 19 1 = 0 then mkSite (fld v 0 10 + k) (fld v 10 9) else mkSite (fld v 0 10) (fld v 10 9 + k))
      else none

/-- The offset in BAR0 of the ENG, FAB, STK, LNT and other blocks (R321). -/
def engBase : Nat := 0
def gateBase : Nat := 0x10000
def hringBase : Nat := 0x20000
def msixBase : Nat := 0x30000
def clkBase : Nat := 0x100000
def pwrBase : Nat := 0x110000
def fabBase : Nat := 0x200000
def stkBase : Nat := 0x300000
def lntBase : Nat := 0x400000
def sysBase : Nat := 0x430000
def relBase : Nat := 0x500000
def secBase : Nat := 0x600000
def svcBase : Nat := 0x700000

/-- The reset value of a BAR0 register that is no view of other state (R39, R211, R315, R343-R346, R379,
R380, R405, R406, R435, R463, R464). -/
def barReset (off : Nat) : Word :=
  if stkBase ≤ off ∧ off < lntBase then
    (match off % 0x1000 with
     | 0x000 => 0x00010000
     | 0x008 => 0x80000018
     | _ => 0)
  else if lntBase ≤ off ∧ off < sysBase then
    (match off % 0x1000 with
     | 0x000 => 0x00010000
     | 0x004 => 0x00000001
     | _ => 0)
  else if 0x24000 ≤ off ∧ off < 0x24800 ∧ off % 0x20 = 8 then BitVec.ofNat 32 (off % 0x1000 / 0x20)
  else match off with
    | 0x000000 => 0x00010000
    | 0x000004 => 0x56540000
    | 0x000008 => 0x00000020
    | 0x010000 => 0x00010000
    | 0x020000 => 0x00010000
    | 0x030000 => 0x00010000
    | 0x100000 => 0x00010000
    | 0x100004 => 0x00000002
    | 0x10001C => 0x8000000A
    | 0x110000 => 0x00010000
    | 0x200000 => 0x00010000
    | 0x200008 => 0x00010013
    | 0x20000C => 0x00000014
    | 0x430000 => 0x00010000
    | 0x430008 => 0x00100015
    | 0x500000 => 0x00010000
    | 0x500004 => 0x803F003C
    | 0x50000C => 0x800010C0
    | 0x600000 => 0x00010000
    | 0x600008 => 0x00000140
    | 0x700000 => 0x00010000
    | _ => 0

/-- A BAR0 register that is no view of other state. -/
def State.bar (s : State) (off : Nat) : Word := Tbl.get (barReset off) s.regs off

/-- The state with a BAR0 register set. -/
def State.setBar (s : State) (off : Nat) (v : Word) : State :=
  { s with regs := Tbl.set (barReset off) s.regs off v }

/-- The active version of the fabric's tables, FAB_EPOCH.CUR (R191). -/
def State.curVer (s : State) : Bool := wbit (s.bar (fabBase + 4)) 0

/-- The engine's own ID, LNT_SYS_ID.ID (R33, R358). -/
def State.ownId (s : State) : Nat := wfld (s.bar (sysBase + 4)) 0 12

/-- LNT_SYS_ID.NET_EN (R358). -/
def State.netEn (s : State) : Bool := wbit (s.bar (sysBase + 4)) 31

/-- Whether stack `i` is populated: ENG_CAP_STACKS (R29, R39). -/
def State.populated (s : State) (i : Nat) : Bool := wbit (s.bar 0x44) i

/-- The number of populated stacks (R297). -/
def State.stackN (s : State) : Nat := (List.range 32).countP fun i => s.populated i

/-- The first stack address beyond the populated memory (R38). -/
def State.stackLimit (s : State) : Nat := s.stackN * (48 * 2 ^ 30)

/-- The stack and local address of a stack address (R297). -/
def stackOf (n a : Nat) : Nat × Nat :=
  let b := if n = 32 then 5 else 4
  let i := fld a 8 b ^^^ fld a (8 + b) b ^^^ fld a (8 + 2 * b) b
  (if n = 32 then i else 2 * i, (fld a (8 + b) (43 - b) <<< 8) + a % 256)

/-- The stack address of a local address of a stack: the inverse of the interleave (R297). -/
def stackAddr (n stk loc : Nat) : Nat :=
  let b := if n = 32 then 5 else 4
  let i := if n = 32 then stk else stk / 2
  let hi := loc >>> 8
  let unit := i ^^^ hi % 2 ^ b ^^^ fld hi b b
  (((hi <<< b) + unit) <<< 8) + loc % 256

/-- Where a request goes: a site, or a response code it completes with at once (R178, R185-R187). -/
inductive Target where
  | site (k : SiteId)
  | refuse (code : Byte)
  deriving DecidableEq, Repr

/-- The codes of R178. -/
def rOK : Byte := 0x00
def rBUSY : Byte := 0x01
def rFENCED : Byte := 0x02
def rNOEND : Byte := 0x03
def rBADOFF : Byte := 0x04
def rUNCORR : Byte := 0x05
def rCLOSED : Byte := 0x06
def rRESET : Byte := 0x07
def rHOLE : Byte := 0x08
def rCRC : Byte := 0x09
def rHELD : Byte := 0x0A
def rUNREACH : Byte := 0x0B
def rDENIED : Byte := 0x0C
def rTIMEOUT : Byte := 0x0D

/-- The fields of a fabric address (R32). -/
def faEngine (d : DWord) : Nat := fld d.toNat 52 12
def faM (d : DWord) : Bool := d.getLsbD 51
def faStack (d : DWord) : Nat := d.toNat % 2 ^ 51
def faEpid (d : DWord) : Nat := fld d.toNat 32 19
def faOff (d : DWord) : Nat := d.toNat % 2 ^ 32

/-- The fabric address of an offset of an endpoint of this engine. -/
def State.faOf (s : State) (epid off : Nat) : DWord :=
  BitVec.ofNat 64 ((s.ownId <<< 52) + (epid <<< 32) + off % 2 ^ 32)

/-- The weight of a member lantern of a set in a version (R359). -/
def Fab.weight (f : Fab) (v : Bool) (set l : Nat) : Nat := Tbl.get 0 f.fwdWt ((verNum v * 16 + set) * 48 + l)

/-- The lantern whose slots hold `k`, slots dealt in ascending lantern order (R360). -/
def pickLantern (f : Fab) (v : Bool) (set : Nat) : Nat → List Nat → Option Nat
  | _, [] => none
  | k, l :: ls => if k < f.weight v set l then some l else pickLantern f v set (k - f.weight v set l) ls

/-- The lantern the forwarding table chooses for an address of another engine; none: UNREACHABLE (R360). -/
def State.fwdLantern (s : State) (v : Bool) (dest : DWord) (src : Nat) : Option Nat :=
  let e := Tbl.get 0 s.fab.fwdEng (verNum v * 4096 + faEngine dest)
  let set := e.toNat % 16
  let mask := Tbl.get 0 s.fab.fwdSet (verNum v * 16 + set)
  let ls := (List.range 48).filter fun l => mask.getLsbD l
  let w := (ls.map fun l => s.fab.weight v set l).sum
  if !e.getLsbD 4 || w = 0 then none
  else pickLantern s.fab v set ((src + (if faM dest then fld dest.toNat 8 13 else faEpid dest)) % w) ls

/-- An endpoint resolved through the endpoint section (R186). -/
def State.endTarget (s : State) (v : Bool) (i sel : Nat) : Target :=
  match attachment (s.fab.endpoint v i) sel with
  | some k => .site k
  | none => .refuse rNOEND

/-- The resolution of a destination in a version for a source EPID (R33, R35, R38, R185-R187, R360). -/
def State.resolve (s : State) (v : Bool) (dest : DWord) (src : Nat) : Target :=
  if faEngine dest ≠ s.ownId then
    if !s.netEn then .refuse rNOEND
    else match s.fwdLantern v dest src with
      | some l => s.endTarget v (16 + l) (src % 8)
      | none => .refuse rUNREACH
  else if faM dest then
    if faStack dest < s.stackLimit then
      s.endTarget v ((stackOf s.stackN (faStack dest)).1 / 2) (fld (faStack dest) 8 6)
    else .refuse rBADOFF
  else
    let e := faEpid dest
    if e < coreCount then
      match s.fab.coreSite v e with
      | some k => .site k
      | none => .refuse rNOEND
    else if 0x70000 ≤ e ∧ e < 0x70010 then s.endTarget v (e % 0x10) (fld (faOff dest) 8 6)
    else if 0x71000 ≤ e ∧ e < 0x71030 then s.endTarget v (16 + (e % 0x1000)) (src % 8)
    else if 0x78000 ≤ e ∧ e < 0x7C000 then
      let g := s.fab.groupRoot v (e % 0x4000)
      if wbit g 31 then .site (mkSite (wfld g 0 10) (wfld g 10 9)) else .refuse rNOEND
    else if e = 0x7F000 then s.endTarget v 64 (src % 32)
    else if e = 0x7FF00 then s.endTarget v 65 (src % 32)
    else .refuse rNOEND

/-- What stands at a resolved destination: a core, an MSD, a lantern, a group's root, the host, the cupola. -/
inductive Endpoint where
  | core | msd (m : Nat) | lantern (l : Nat) | group (g : Nat) | host | cupola | none
  deriving DecidableEq, Repr

/-- The kind of endpoint a destination names on this engine (R34, R187, R360). -/
def State.endpointOf (s : State) (v : Bool) (dest : DWord) (src : Nat) : Endpoint :=
  if faEngine dest ≠ s.ownId then
    match s.fwdLantern v dest src with
    | some l => .lantern l
    | none => .none
  else if faM dest then .msd ((stackOf s.stackN (faStack dest)).1 / 2)
  else
    let e := faEpid dest
    if e < coreCount then .core
    else if 0x70000 ≤ e ∧ e < 0x70010 then .msd (e % 0x10)
    else if 0x71000 ≤ e ∧ e < 0x71030 then .lantern (e % 0x1000)
    else if 0x78000 ≤ e ∧ e < 0x7C000 then .group (e % 0x4000)
    else if e = 0x7F000 then .host
    else if e = 0x7FF00 then .cupola
    else .none

end Sys2Proof.Machine
end

