-- ==== Sys2Proof/Machine/Post.lean ====
section
/-!
DEFINITION. How records reach host memory: completion rings, their room and phase, MSI-X, the pending event records and
their posting (R318, R325, R335-R338, R344-R346).
-/

namespace Sys2Proof.Machine

/-- A completion ring by its number (R325). -/
def State.cpl (s : State) (q : Nat) : CplRing := Tbl.get CplRing.reset s.host.cpl q

/-- The state with a completion ring set. -/
def State.setCpl (s : State) (q : Nat) (x : CplRing) : State :=
  { s with host := { s.host with cpl := Tbl.set CplRing.reset s.host.cpl q x } }

/-- Bytes written to host memory (R318; log entry 6). -/
def State.hostWrite (s : State) (a : Nat) (b : List Byte) : State :=
  { s with host := { s.host with mem := hostWrites s.host.mem a b } }

/-- A byte of host memory as the engine has written it; none where it has not (log entry 6). -/
def State.hostByte (s : State) (a : Nat) : Option Byte := Tbl.get none s.host.mem a

/-- The bit of a maskable class in HRING_EVT_MASK is set (R337). -/
def State.eventMasked (s : State) (cls : Nat) : Bool := 0x10 ≤ cls && wbit (s.bar 0x20008) (cls - 0x10)

/-- Whether an event reaches the event ring at all: enabled, its ring enabled, the PCIe link up (R337). -/
def State.eventsOpen (s : State) : Bool :=
  let e := s.bar 0x20004
  wbit e 31 && wbit (s.bar (0x24008 + 0x20 * wfld e 0 6)) 31 && s.host.pcie.up

/-- The pending record of a class with one event more: the first DATA and its time are kept and OVERRUN rises (R335,
R337; DEDUCED, log entry 15). -/
def mergeEvent (time : DWord) (data : BitVec 128) : Option EvPend → Option EvPend
  | none => some { overrun := 0, time := time, data := data }
  | some e => some { e with overrun := min 65535 (e.overrun + 1) }

/-- CMD_CFG and CPL_CFG of a ring (R345). -/
def cmdCfg (r : Nat) : Nat := 0x21008 + 0x20 * r
def cplCfg (q : Nat) : Nat := 0x24008 + 0x20 * q

/-- EN and the number of entries a configuration word gives. -/
def cfgEn (w : Word) : Bool := wbit w 31
def cfgSize (w : Word) : Nat := 2 ^ wfld w 16 5

/-- A ring's base address. -/
def State.ringBase (s : State) (cfg : Nat) : Nat := (s.bar (cfg - 8)).toNat + ((s.bar (cfg - 4)).toNat <<< 32)

/-- A word of the MSI-X table; the vector control of an entry nobody has written is masked (R346). -/
def HostIf.msixW (h : HostIf) (i : Nat) : Word := Tbl.get (if i % 4 = 3 then 1 else 0) h.msix i

/-- An MSI-X vector raised: its message is sent, or pends while it is masked (R338). -/
def State.raiseVec (s : State) (v : Nat) : State :=
  let h := s.host
  if wbit (h.msixW (4 * v + 3)) 0 then { s with host := { h with pba := Tbl.set false h.pba v true } }
  else { s with host := { h with sent := h.sent ++ [(h.msixW (4 * v + 1) ++ h.msixW (4 * v), h.msixW (4 * v + 2))] } }

/-- Whether a completion ring is enabled and has room (R325). -/
def State.cplRoom (s : State) (q : Nat) : Bool :=
  let c := s.bar (cplCfg q)
  let x := s.cpl q
  cfgEn c && s.host.pcie.up && (x.tail + 1) % cfgSize c != x.head

/-- A record written at a ring's tail with its phase (R325). -/
def State.putRecord (s : State) (q : Nat) (rec_ : BitVec 256) : State :=
  let c := s.bar (cplCfg q)
  let x := s.cpl q
  let b := leBytes 32 (rec_.toNat + (x.phase.toNat <<< 8))
  let tail := (x.tail + 1) % cfgSize c
  (s.hostWrite (s.ringBase (cplCfg q) + 32 * x.tail) b).setCpl q
    { x with tail := tail, phase := if tail = 0 then !x.phase else x.phase }

/-- The class whose pending record is posted first: non-maskable classes, then the others, in code order (R337). -/
def State.nextEvent (s : State) : Option (Nat × EvPend) :=
  (List.range 32).findSome? fun c => (Tbl.get none s.host.events c).map fun e => (c, e)

/-- An event record without its PHASE (R335). -/
def eventRecord (cls : Nat) (e : EvPend) (sq : Word) : BitVec 256 :=
  BitVec.ofNat 256 (cls + 2 ^ 9 + (e.overrun <<< 16) + (sq.toNat <<< 32) + (e.time.toNat <<< 64) + (e.data.toNat <<< 128))

/-- EVENT_POST (R335-R338). -/
def eventPost (s : State) : State :=
  let q := wfld (s.bar 0x20004) 0 6
  match s.nextEvent with
  | none => s
  | some (c, e) =>
    if !s.eventsOpen || !(s.cplRoom q) then s
    else
      let sq := s.host.evSeq + 1
      let s := { s with host := { s.host with events := Tbl.set none s.host.events c none, evSeq := sq } }
      (s.putRecord q (eventRecord c e sq)).raiseVec (2016 + c)

/-- While a class has a pending record and there is room, event records are posted in their order, so that an event is
merged only into a record that waits for room (R337). -/
def State.postThrough (s : State) (cls : Nat) : Nat → State
  | 0 => s
  | n + 1 => if (Tbl.get none s.host.events cls).isSome then (eventPost s).postThrough cls n else s

end Sys2Proof.Machine
end

