-- ==== Sys2Proof/Machine/Ops.lean ====
section
/-!
DEFINITION. The named operations over the state: cores, routers and regions by number, registers, S32 and
W64 counters, events, completion records, and reads and writes of core SRAM.
-/

namespace Sys2Proof.Machine

/-- The core of a site. -/
def State.core (s : State) (k : SiteId) : Core := Tbl.get Core.reset s.cores k.val

/-- The state with the core of a site set. -/
def State.setCore (s : State) (k : SiteId) (c : Core) : State :=
  { s with cores := Tbl.set Core.reset s.cores k.val c }

/-- The routers of a site. -/
def State.router (s : State) (k : SiteId) : Router := Tbl.get Router.reset s.routers k.val

/-- The state with the routers of a site set. -/
def State.setRouter (s : State) (k : SiteId) (r : Router) : State :=
  { s with routers := Tbl.set Router.reset s.routers k.val r }

/-- A region by its ID (R213). -/
def State.region (s : State) (id : Nat) : Region := Tbl.get Region.reset s.rgns.tbl id

/-- The state with a region set. -/
def State.setRegion (s : State) (id : Nat) (r : Region) : State :=
  { s with rgns := { s.rgns with tbl := Tbl.set Region.reset s.rgns.tbl id r } }

/-- A spire area (R25). -/
def State.area (s : State) (a : Nat) : Area := Tbl.get Area.reset s.pwr.area a

/-- The state with a spire area set. -/
def State.setArea (s : State) (a : Nat) (x : Area) : State :=
  { s with pwr := { s.pwr with area := Tbl.set Area.reset s.pwr.area a x } }

/-- Whether the area of a site is powered (R20, R25). -/
def State.siteOn (s : State) (k : SiteId) : Bool := (s.area (siteArea k)).on

/-- The clock state of a dome: 0 RUN, 1 IDLE, 2 WAKING, 3 PARKED (R391, R405). -/
def State.domeState (s : State) (d : Nat) : Nat := Tbl.get 0 s.clk.dome d

/-- A dome's clock state set. -/
def State.setDome (s : State) (d x : Nat) : State := { s with clk := { s.clk with dome := Tbl.set 0 s.clk.dome d x } }

/-- Whether the dome of a site runs. -/
def State.siteRuns (s : State) (k : SiteId) : Bool := s.domeState (siteDome k) == 0

/-- A stack by its number (R29). -/
def State.stack (s : State) (i : Nat) : Stack := Tbl.get Stack.reset s.stks.tbl i

/-- The state with a stack set. -/
def State.setStack (s : State) (i : Nat) (x : Stack) : State :=
  { s with stks := { s.stks with tbl := Tbl.set Stack.reset s.stks.tbl i x } }

/-- A lantern by its number (R31). -/
def State.lantern (s : State) (l : Nat) : Lantern := Tbl.get Lantern.reset s.lnts.tbl l

/-- The state with a lantern set. -/
def State.setLantern (s : State) (l : Nat) (x : Lantern) : State :=
  { s with lnts := { s.lnts with tbl := Tbl.set Lantern.reset s.lnts.tbl l x } }

/-- A command ring by its number (R324). -/
def State.ring (s : State) (r : Nat) : CmdRing := Tbl.get CmdRing.reset s.host.cmd r

/-- The state with a command ring set. -/
def State.setRing (s : State) (r : Nat) (x : CmdRing) : State :=
  { s with host := { s.host with cmd := Tbl.set CmdRing.reset s.host.cmd r x } }

/-- The next free value's number, and the state that has drawn it (log entry 2). -/
def State.draw (s : State) : Nat × State := (s.fresh, { s with fresh := s.fresh + 1 })

/-- The reset value of a core's control-block register that is no view of other state (R73, R107, R108,
R136, R170, R212, R247, R266, R294). -/
def coreReset : Nat → Word
  | 0x100000 => 0x00010000
  | 0x100200 => 0x00010000
  | 0x100300 => 0x00010000
  | 0x100400 => 0x00010000
  | 0x100498 => 0x80000040
  | 0x100500 => 0x00010000
  | 0x100504 => 0x80000014
  | 0x100600 => 0x00010000
  | 0x100B00 => 0x00010000
  | 0x100C00 => 0x00010000
  | 0x100D00 => 0x00010000
  | _ => 0

/-- A control-block register of a core that is no view of other state. -/
def Core.reg (c : Core) (off : Nat) : Word := Tbl.get (coreReset off) c.regs off

/-- A core with a control-block register set. -/
def Core.setReg (c : Core) (off : Nat) (v : Word) : Core :=
  { c with regs := Tbl.set (coreReset off) c.regs off v }

/-- A W64 counter of a core, by the offset of its low word (R15, R16). -/
def Core.ctr64 (c : Core) (off : Nat) : DWord := Tbl.get 0 c.w64 off

/-- A core with a W64 counter advanced; it wraps (R15). -/
def Core.add64 (c : Core) (off n : Nat) : Core :=
  { c with w64 := Tbl.set 0 c.w64 off (c.ctr64 off + BitVec.ofNat 64 n) }

/-- Where the OVF bit of a core's S32 counter lies: register and bit (R73, R107, R170, R212, R247, R266,
R294). -/
def coreOvf (off : Nat) : Nat × Nat :=
  if 0x100220 ≤ off ∧ off ≤ 0x10022C then (0x100230, off % 0x10 / 4)
  else if off = 0x100330 then (0x100334, 0)
  else if 0x100480 ≤ off ∧ off ≤ 0x10048C then (0x100490, off % 0x10 / 4)
  else if 0x100520 ≤ off ∧ off ≤ 0x100538 then (0x10053C, off % 0x20 / 4)
  else if off = 0x10064C then (0x100650, 0)
  else if 0x100C04 ≤ off ∧ off ≤ 0x100C1C then (0x100C20, (off % 0x20 - 4) / 4)
  else (0x100D20, (off % 0x20 - 8) / 4)

/-- The counter behind an OVF bit of a core: the inverse of `coreOvf`; none for a reserved bit. -/
def coreCtrOf (ovf bit : Nat) : Option Nat :=
  match ovf with
  | 0x100230 => if bit < 4 then some (0x100220 + 4 * bit) else none
  | 0x100334 => if bit < 1 then some 0x100330 else none
  | 0x100490 => if bit < 4 then some (0x100480 + 4 * bit) else none
  | 0x10053C => if bit < 7 then some (0x100520 + 4 * bit) else none
  | 0x100650 => if bit < 1 then some 0x10064C else none
  | 0x100C20 => if bit < 7 then some (0x100C04 + 4 * bit) else none
  | 0x100D20 => if bit < 6 then some (0x100D08 + 4 * bit) else none
  | _ => none

/-- The OVF registers of a core. -/
def coreOvfRegs : List Nat := [0x100230, 0x100334, 0x100490, 0x10053C, 0x100650, 0x100C20, 0x100D20]

/-- A core with an S32 counter raised: it stops at 0xFFFF_FFFF and sets its OVF bit (R12). The event is
raised by `putCore`. -/
def Core.bump (c : Core) (off : Nat) (n : Nat) : Core :=
  if n = 0 then c
  else
    let v := (c.reg off).toNat + n
    if v < 0xFFFFFFFF then c.setReg off (BitVec.ofNat 32 v)
    else
      let o := coreOvf off
      (c.setReg off 0xFFFFFFFF).setReg o.1 (setBit (c.reg o.1) o.2 true)

/-- The SEEN bit of a non-maskable class in ENG_ERR (R337, R343). -/
def State.markSeen (s : State) (cls : Nat) : State :=
  if 1 ≤ cls ∧ cls ≤ 4 then s.setBar 0x10C (setBit (s.bar 0x10C) (15 + cls) true) else s

/-- An event raised (R337). -/
def State.raise (s : State) (cls : Nat) (data : BitVec 128) : State :=
  let s := s.markSeen cls
  if s.eventMasked cls || !s.eventsOpen then s
  else
    let s := s.postThrough cls 32
    { s with host := { s.host with
      events := Tbl.set none s.host.events cls (mergeEvent s.clk.ts data (Tbl.get none s.host.events cls)) } }

/-- Event data from its 32-bit words (R336). -/
def evData (w0 w1 : Nat) (d : Nat := 0) : BitVec 128 :=
  BitVec.ofNat 128 (w0 % 2 ^ 32 + ((w1 % 2 ^ 32) <<< 32) + ((d % 2 ^ 64) <<< 64))

/-- The OVF bits a change of a core has set, by register. -/
def newOvf (c c' : Core) : List (Nat × Nat) :=
  coreOvfRegs.flatMap fun o =>
    if c'.reg o = c.reg o then []
    else ((List.range 7).filter fun b => wbit (c'.reg o) b && !wbit (c.reg o) b).map fun b => (o, b)

/-- What the risk level counts: corrected decodes, stretches, link departures of the second in progress (R430). -/
def State.noteRisk (s : State) (ce stretch link : Nat) : State :=
  let n := s.rel.now
  { s with rel := { s.rel with now := (n.1 + ce, n.2.1 + stretch, n.2.2 + link) } }

/-- The state with a core set, and COUNTER_OVF raised for each S32 counter the change has saturated, named by
the EPID that resolves to the site; none where no EPID does (R12, R336). Its corrected decodes count toward the
risk level (R430). -/
def State.putCore (s : State) (k : SiteId) (c : Core) : State :=
  let new := newOvf (s.core k) c
  let s' := (s.setCore k c).noteRisk ((c.reg 0x100480).toNat - ((s.core k).reg 0x100480).toNat) 0 0
  if new = [] then s'
  else match s.fab.epidAt s.curVer k with
    | none => s'
    | some e => new.foldl (fun t ob => t.raise 0x16 (evData e ob.1 ob.2)) s'

/-- The state with a core changed (R12). -/
def State.modCore (s : State) (k : SiteId) (f : Core → Core) : State := s.putCore k (f (s.core k))

/-- The state with a BAR0 S32 counter raised; its OVF register and bit (R12). -/
def State.bumpBar (s : State) (off ovf bit : Nat) (n : Nat) : State :=
  if n = 0 then s
  else
    let old := (s.bar off).toNat
    if old + n < 0xFFFFFFFF then s.setBar off (BitVec.ofNat 32 (old + n))
    else
      let was := wbit (s.bar ovf) bit
      let s' := (s.setBar off 0xFFFFFFFF).setBar ovf (setBit (s.bar ovf) bit true)
      if was then s' else s'.raise 0x16 (evData 0x7FFFF ovf bit)

/-- A W64 counter of BAR0, by the offset of its low word. -/
def State.ctr64 (s : State) (off : Nat) : DWord := Tbl.get 0 s.w64 off

/-- The state with a BAR0 W64 counter advanced (R15). -/
def State.add64 (s : State) (off n : Nat) : State :=
  { s with w64 := Tbl.set 0 s.w64 off (s.ctr64 off + BitVec.ofNat 64 n) }

/-- The counters of a lantern (R379). -/
def State.bumpLnt (s : State) (l off : Nat) : State :=
  s.bumpBar (lntBase + 0x1000 * l + off) (lntBase + 0x1000 * l + 0x30) ((off - 0x14) / 4) 1

/-- The counters of a stack (R315). -/
def State.bumpStk (s : State) (k off n : Nat) : State :=
  s.bumpBar (stkBase + 0x1000 * k + off) (stkBase + 0x1000 * k + 0x18) ((off - 0x0C) / 4) n

/-- A byte field of a descriptor's body, little-endian (R328). -/
def Desc.f (d : Desc) (byte bytes : Nat) : Nat := fld d.w.toNat (8 * byte) (8 * bytes)

/-- A bit field of a descriptor, from the bit of the byte it starts at. -/
def Desc.bits (d : Desc) (byte lo w : Nat) : Nat := fld d.w.toNat (8 * byte + lo) w

/-- The `j`-th started descriptor of a ring. -/
def State.startedAt (s : State) (r : Fin 256) (j : Nat) : Option Desc := (s.ring r).started[j]?

/-- A started descriptor of a ring by its order number. -/
def State.descOf (s : State) (req : Nat × Nat) : Option Desc :=
  (s.ring req.1).started.find? fun d => d.uid == req.2

/-- The status codes of R330. -/
def stOK : Nat := 0x00
def stBADOPC : Nat := 0x01
def stBADRSVD : Nat := 0x02
def stBADVER : Nat := 0x03
def stNOTREADY : Nat := 0x04
def stBUSY : Nat := 0x05
def stGATED : Nat := 0x06
def stWINDOW : Nat := 0x07
def stRGNFAULT : Nat := 0x08
def stTIMEOUT : Nat := 0x09
def stINTEGRITY : Nat := 0x0A
def stDENIED : Nat := 0x0B
def stSTALE : Nat := 0x0C
def stCLOSED : Nat := 0x0D
def stFENCED : Nat := 0x0E
def stPARTIAL : Nat := 0x0F

/-- A completion record without its PHASE, which is set as it is posted (R329). -/
def cplRecord (r : Nat) (opc head id status detail : Nat) (result : BitVec 128) : BitVec 256 :=
  BitVec.ofNat 256 (status % 256 + ((opc % 256) <<< 16) + ((r % 256) <<< 24) + ((head % 65536) <<< 32)
    + ((id % 2 ^ 32) <<< 64) + ((detail % 2 ^ 32) <<< 96) + (result.toNat <<< 128))

/-- A record appended to those waiting at a completion ring (R327). -/
def State.queueRecord (s : State) (q : Nat) (rec_ : BitVec 256) : State :=
  s.setCpl q { s.cpl q with waiting := (s.cpl q).waiting ++ [rec_] }

/-- The completion ring that receives a command ring's records: CMD_CFG_n.CPL (R324). -/
def State.cplOf (s : State) (r : Nat) : Nat := wfld (s.bar (0x21008 + 0x20 * r)) 0 6

/-- A started descriptor completes: it leaves its ring and its record waits for room (R327, R329). -/
def State.complete (s : State) (req : Nat × Nat) (status : Nat) (detail : Nat := 0)
    (result : BitVec 128 := 0) : State :=
  match s.descOf req with
  | none => s
  | some d =>
    let ring := s.ring req.1
    let s := s.setRing req.1 { ring with started := ring.started.filter fun x => x.uid != req.2 }
    s.queueRecord (s.cplOf req.1)
      (cplRecord req.1 (d.f 0 1) d.head.toNat (d.f 4 4) status detail result)

/-- A started descriptor marked as in progress, so that it is not taken up again. -/
def State.setBusy (s : State) (req : Nat × Nat) : State :=
  let ring := s.ring req.1
  s.setRing req.1 { ring with started := ring.started.map fun x =>
    if x.uid = req.2 then { x with busy := true } else x }

/-- TEST_DONE for a test's descriptor (R336). -/
def State.testDone (s : State) (req : Nat × Nat) (status : Nat) : State :=
  match s.descOf req with
  | none => s
  | some d => s.raise 0x17 (evData (d.f 4 4) status)

/-- A core that has recorded what the decoders of an access found: MEM_CE_CNT, MEM_UE_CNT and the first
MEM_UE_ADDR; `src` is the SRC code of MEM_UE_ADDR (R159, R160, R170). -/
def Core.noteEcc (c : Core) (src ce ue cw : Nat) : Core :=
  let c := (c.bump 0x100480 ce).bump 0x100484 ue
  if ue = 0 || wbit (c.reg 0x100494) 31 then c
  else c.setReg 0x100494 (BitVec.ofNat 32 (2 ^ 31 + (src <<< 24) + (cw <<< 4)))

/-- A read of SRAM bytes by an agent; none where a codeword is uncorrectable (R159, R160). -/
def Core.sramRead (c : Core) (src a n : Nat) : Core × Option (List Byte) :=
  let r := c.sram.read a n
  (c.noteEcc src r.ce r.ue r.cw, if r.ue = 0 then some r.bytes else none)

/-- What a bank holds beside its contents. -/
def Core.bank (c : Core) (b : Nat) : BankSt := Tbl.get BankSt.reset c.banks b

/-- A core with a bank's transition and scrub state set. -/
def Core.setBank (c : Core) (b : Nat) (x : BankSt) : Core :=
  { c with banks := Tbl.set BankSt.reset c.banks b x }

/-- A held scrub correction is dropped when its row is written (R161). -/
def Core.dropScrub (c : Core) (a n : Nat) : Core :=
  if n = 0 then c
  else
    let b := a / 0x10000
    match (c.bank b).scrubHold with
    | some (row, _) =>
      if a % 0x10000 / 64 ≤ row ∧ row ≤ (a % 0x10000 + n - 1) / 64
      then c.setBank b { c.bank b with scrubHold := none } else c
    | none => c

/-- A write of SRAM bytes by an agent, merged into its codewords; false where a merge finds an
uncorrectable codeword and the write is dropped (R142, R160). -/
def Core.sramWrite (c : Core) (src a : Nat) (b : List Byte) : Core × Bool :=
  let w := c.sram.write a b
  if w.ue = 0 then
    ({ (c.noteEcc src w.ce 0 0).dropScrub a b.length with sram := w.mem }, true)
  else (c.noteEcc src w.ce w.ue w.cw, false)

/-- BANK_CTL of a bank (R170). -/
def Core.bankCtl (c : Core) (b : Nat) : Word := c.reg (0x100410 + 4 * b)

/-- PWR_STATE of a bank: 0 ON (R164, R170). -/
def Core.pwrState (c : Core) (b : Nat) : Nat := wfld (c.bankCtl b) 18 2

/-- Whether a bank is ON and under no march test (R150, R151). -/
def Core.bankUp (c : Core) (b : Nat) : Bool := c.pwrState b == 0 && !wbit (c.bankCtl b) 9

/-- An engine of a core: 0 tensor, 1 vector, 2 A0, 3 A1, 4 send (R75, R121). -/
def Core.engine (c : Core) (e : Nat) : Engine := Tbl.get Engine.reset c.eng e

/-- A core with an engine set. -/
def Core.setEngine (c : Core) (e : Nat) (x : Engine) : Core :=
  { c with eng := Tbl.set Engine.reset c.eng e x }

/-- A context of a core (R126). -/
def Core.ctxAt (c : Core) (i : Nat) : Ctx := Tbl.get Ctx.reset c.seqr.ctxs i

/-- A core with a context set. -/
def Core.setCtx (c : Core) (i : Nat) (x : Ctx) : Core :=
  { c with seqr := { c.seqr with ctxs := Tbl.set Ctx.reset c.seqr.ctxs i x } }

/-- An access engine's position state: 0 A0, 1 A1 (R98). -/
def Core.acc_ (c : Core) (a : Nat) : AccEng := Tbl.get AccEng.reset c.accEng a

/-- A core with an access engine's position state set. -/
def Core.setAcc (c : Core) (a : Nat) (x : AccEng) : Core :=
  { c with accEng := Tbl.set AccEng.reset c.accEng a x }

/-- The region of a core: RGN_ID.ID (R247). -/
def Core.rgnId (c : Core) : Nat := wfld (c.reg 0x100604) 0 16

/-- Whether a site's core is under a COMPUTE or REGION reset (R203). A COMPUTE reset is one of every core. -/
def State.inReset (s : State) (k : SiteId) : Bool :=
  (s.core k).inReset || match s.boot.resetting with
    | some q => (s.descOf q).any fun d => d.bits 8 0 3 == 1
    | none => false

end Sys2Proof.Machine
end

