-- ==== Sys2Proof/Machine/Packets.lean ====
section
/-!
DEFINITION. Packets: their bytes, their checks, and how they enter the fabric (R174-R178, R198).
-/

namespace Sys2Proof
namespace Machine

/-- A plane's number: 0 V, 1 S (R174). -/
def Plane.num : Plane → Nat
  | .v => 0
  | .s => 1
  | .c => 2

/-- The packet types of the V and S planes (R176). -/
def tRD_REQ : Byte := 0x01
def tWR : Byte := 0x02
def tLAND : Byte := 0x03
def tCONTRIB : Byte := 0x04
def tMC_WR : Byte := 0x05
def tRD_RESP : Byte := 0x08
def tACK : Byte := 0x09
def tNAK : Byte := 0x0A

/-- Whether a type travels on VC1 (R176). -/
def isResponse (t : Byte) : Bool := t == tRD_RESP || t == tACK || t == tNAK

/-- Whether a type is assigned (R176). -/
def knownType (t : Byte) : Bool := (1 ≤ t.toNat && t.toNat ≤ 5) || isResponse t

end Machine
open Machine

/-- The header's first 28 bytes with LANE and AGE as 0 and the CRC field as given (R174). -/
def Packet.head (p : Packet) (crc : Word) : List Byte :=
  leBytes 8 p.dest.toNat ++
  leBytes 4 (p.srcEpid.toNat + (p.srcEngine.toNat <<< 19) + (p.epoch.toNat <<< 31)) ++
  leBytes 4 (p.type.toNat + (p.gen.toNat <<< 8) + (p.resend.toNat <<< 11) + (p.resp.toNat <<< 16)) ++
  leBytes 4 (p.seq.toNat + (p.tag.toNat <<< 8) + (p.aplane.toNat <<< 24)) ++
  leBytes 4 (p.dx.toNat + (p.dy.toNat <<< 10)) ++
  leBytes 4 crc.toNat

/-- The CRC a packet must carry (R174). -/
def Packet.crcOf (p : Packet) : Word := crc32 (p.head 0 ++ leBytes 4 p.bytes.toNat ++ p.payload)

/-- The HCRC a packet must carry (R174). -/
def Packet.hcrcOf (p : Packet) : Byte := crc8 (p.head p.crc)

/-- A packet with both checks computed. -/
def Packet.checked (p : Packet) : Packet :=
  let p := { p with crc := p.crcOf }
  { p with hcrc := p.hcrcOf }

/-- A packet addressed to a site, its checks computed. -/
def Packet.toSite (p : Packet) (k : SiteId) : Packet :=
  Packet.checked { p with dx := BitVec.ofNat 10 (siteX k), dy := BitVec.ofNat 9 (siteY k) }

/-- A packet's destination site as its header says. -/
def Packet.dsite (p : Packet) : SiteId := mkSite p.dx.toNat p.dy.toNat

/-- The low 56 bits of a C packet with LANE as 0 (R177). -/
def CPacket.bits (c : CPacket) : Nat :=
  c.type.toNat + (c.gen.toNat <<< 4) + (c.epoch.toNat <<< 7) + (c.vc.toNat <<< 9) + (c.dx.toNat <<< 10)
    + (c.dy.toNat <<< 20) + (c.arg.toNat <<< 32) + (c.sub.toNat <<< 48)

/-- The CHK a C packet must carry (R177). -/
def CPacket.chkOf (c : CPacket) : Byte := crc8 (leBytes 7 c.bits)

namespace Machine

/-- A C packet of a type (R177). -/
def mkC (type gen : Nat) (epoch : Bool) (dx dy arg sub : Nat) : CPacket :=
  let c : CPacket :=
    { type := BitVec.ofNat 4 type, gen := BitVec.ofNat 3 gen, epoch := epoch, lane := false
      vc := type == 3 || type == 5 || type == 8, dx := BitVec.ofNat 10 dx, dy := BitVec.ofNat 9 dy
      arg := BitVec.ofNat 16 arg, sub := BitVec.ofNat 8 sub, chk := 0 }
  { c with chk := c.chkOf }

/-- The flights with one added. -/
def State.fly (s : State) (x : Flight) : State := { s with fab := { s.fab with flights := s.fab.flights ++ [x] } }

/-- A packet handed to the router of a site by its local port (R171). -/
def State.inject (s : State) (k : SiteId) (p : Packet) : State :=
  s.fly { site := k, from_ := .loc, ejected := false, hold := none, hops := 0, body := .inl p }

/-- A C packet about to reach the router of a site by a port. -/
def State.injectC (s : State) (k : SiteId) (port : Port) (c : CPacket) : State :=
  s.fly { site := k, from_ := port, ejected := false, hold := none, hops := 0, body := .inr c }

/-- A packet waiting in the fabric leaves it, as it is taken up where it has arrived. -/
def State.land (s : State) (k : SiteId) (b : Packet ⊕ CPacket) : State :=
  { s with fab := { s.fab with flights := s.fab.flights.eraseP fun f => f.site = k ∧ f.body = b } }

/-- A packet of this engine, its checks not yet computed. -/
def mkPacket (s : State) (plane : Plane) (dest : DWord) (src : Nat) (epoch : Bool) (type : Byte)
    (bytes : Nat) (payload : List Byte) : Packet :=
  { plane := plane, dest := dest, srcEpid := BitVec.ofNat 19 src, srcEngine := BitVec.ofNat 12 s.ownId
    epoch := epoch, type := type, gen := 0, resend := false, lane := false, resp := 0, seq := 0, tag := 0
    aplane := false, dx := 0, dy := 0, age := 0, crc := 0, bytes := BitVec.ofNat 9 bytes, hcrc := 0
    payload := payload, aborted := false }

/-- Whether an answer is one to a packet: of its sender, a read by its TAG, the rest by plane and SEQ (R176, R198). -/
def answers (q : Packet) (engine : BitVec 12) (epid : BitVec 19) (plane : Plane) (type seq : Byte) (tag : BitVec 16) : Bool :=
  q.srcEngine == engine && q.srcEpid == epid &&
    (if type = tRD_RESP then q.type == tRD_REQ && q.tag == tag
     else q.type != tRD_REQ && q.plane == plane &&
      (if type = tACK then decide ((q.seq - seq).toNat < 16) && tag.getLsbD (q.seq - seq).toNat else q.seq == seq))

/-- The requests that remote windows have admitted, without those an answer answers (R367). -/
def State.unadmit (s : State) (engine : BitVec 12) (epid : BitVec 19) (plane : Plane) (type seq : Byte)
    (tag : BitVec 16) : State :=
  { s with lnts := { s.lnts with
    admitted := s.lnts.admitted.filter fun x => !(answers x.2 engine epid plane type seq tag) } }

/-- A response sent from a site to an endpoint in a version: type, code, SEQ, TAG and the plane of the packet
answered; dropped where the requester does not resolve (R176, R191). -/
def State.answer (s : State) (k : SiteId) (v : Bool) (src : Nat) (engine : BitVec 12) (epid : BitVec 19)
    (plane : Plane) (type resp seq : Byte) (tag : BitVec 16) (payload : List Byte) : State :=
  let s := s.unadmit engine epid plane type seq tag
  let dest : DWord := BitVec.ofNat 64 ((engine.toNat <<< 52) + (epid.toNat <<< 32))
  match s.resolve v dest src with
  | .refuse _ => s
  | .site d =>
    let p := mkPacket s (if type = tRD_RESP then plane else .s) dest src v type payload.length payload
    s.inject k (({ p with resp := resp, seq := seq, tag := tag
                          aplane := decide (type ≠ tRD_RESP) && decide (plane = Plane.s) } : Packet).toSite d)

/-- The version a site answers in: a core's own current one, else the active one; a router that refuses a packet
answers in the packet's (R191, R194). -/
def State.answerVer (s : State) (k : SiteId) (req : Packet) : Bool :=
  if faM req.dest || decide (coreCount ≤ faEpid req.dest) then s.curVer else (s.core k).net.epoch

/-- A response to a packet. -/
def State.respond (s : State) (k : SiteId) (src : Nat) (req : Packet) (type resp : Byte)
    (seq : Byte) (tag : BitVec 16) (payload : List Byte) : State :=
  s.answer k (s.answerVer k req) src req.srcEngine req.srcEpid req.plane type resp seq tag payload

/-- The EPID a destination answers under: the MSD's for stack memory (R29, R34). -/
def State.answerEpid (s : State) (d : DWord) : Nat :=
  if faM d then 0x70000 + (stackOf s.stackN (faStack d)).1 / 2 else faEpid d

/-- A router's refusal of a request, in the version the request names (R178, R189, R196). -/
def State.routerRefuse (s : State) (k : SiteId) (req : Packet) (code : Byte) : State :=
  if req.type = tRD_REQ then
    s.answer k req.epoch (s.answerEpid req.dest) req.srcEngine req.srcEpid req.plane tRD_RESP code req.seq req.tag []
  else s.answer k req.epoch (s.answerEpid req.dest) req.srcEngine req.srcEpid req.plane tNAK code req.seq 0 []

/-- The refusal of a request: an RD_RESP with the code for a read, a NAK for the rest (R176, R178). -/
def State.refuse (s : State) (k : SiteId) (src : Nat) (req : Packet) (code : Byte) : State :=
  if req.type = tRD_REQ then s.respond k src req tRD_RESP code req.seq req.tag []
  else s.respond k src req tNAK code req.seq 0 []

end Machine
end Sys2Proof
end

