-- ==== Sys2Proof/Machine/Halt.lean ====
section
/-!
DEFINITION. What stops a core and a region: engine faults, sequencer exceptions, region faults, leaving
RUNNING, and the core and region completing (R81, R129, R133, R230, R236, R242-R245).
-/

namespace Sys2Proof.Machine

/-- Whether a region is RUNNING or DRAINING (R215). -/
def Region.live (r : Region) : Bool := r.st == 2 || r.st == 3

/-- The cores a region's description names as EPID and site, in ascending EPID order for a routed one (R214,
R219). -/
def State.namedCores (s : State) (r : Region) : List (Nat × SiteId) :=
  let v := s.curVer
  if r.sched then
    (List.range (r.yhi + 1 - r.ylo)).flatMap fun dy =>
      (List.range (r.xhi + 1 - r.xlo)).filterMap fun dx =>
        let k := mkSite (r.xlo + dx) (r.ylo + dy)
        (s.fab.epidAt v k).map fun e => (e, k)
  else
    r.ranges.flatMap fun p =>
      (List.range (p.2 + 1 - p.1)).filterMap fun i => (s.fab.coreSite v (p.1 + i)).map fun k => (p.1 + i, k)

/-- The cores of a region (R213, R247). -/
def State.regionCores (s : State) (id : Nat) : List (Nat × SiteId) :=
  (s.namedCores (s.region id)).filter fun e => (s.core e.2).rgnId == id

/-- A core's engines stopped: queued and dispatched operations are discarded, streams end, responses to
outstanding reads will find no tag (R81, R236). -/
def Core.stopEngines (c : Core) : Core :=
  { c with
    eng := (List.range 5).foldl (fun t e =>
      let x := Tbl.get Engine.reset c.eng e
      Tbl.set Engine.reset t e { x with queue := [], run := [] }) c.eng
    accEng := (List.range 2).foldl (fun t a =>
      let x := Tbl.get AccEng.reset c.accEng a
      Tbl.set AccEng.reset t a { x with outs := [], cur := none }) c.accEng
    loading := none }

/-- Whether an engine has nothing queued and nothing executing. -/
def Core.engineIdle (c : Core) (e : Nat) : Bool := (c.engine e).queue.isEmpty && (c.engine e).run.isEmpty

/-- Whether all five engines are idle. -/
def Core.enginesIdle (c : Core) : Bool := (List.range 5).all fun e => c.engineIdle e

/-- A HALT sent down a region's HALT_GROUP tree from its root (R236). -/
def State.sendHalt (s : State) (id : Nat) : State :=
  let r := s.region id
  let g := s.fab.groupRoot s.curVer r.haltGroup.toNat
  if wbit g 31 then
    s.injectC (mkSite (wfld g 0 10) (wfld g 10 9)) .loc (mkC 4 r.gen.toNat s.curVer 0 0 id 0)
  else s

/-- The status REGION_START reports on leaving for a state (R230). -/
def startStatus (st : Nat) : Nat := if st = 4 then stOK else if st = 6 then stRGNFAULT else stPARTIAL

/-- A request a region held completes, if there was one. -/
def State.completeOpt (s : State) (req : Option (Nat × Nat)) (status : Nat) (result : BitVec 128 := 0) : State :=
  match req with
  | some q => s.complete q status 0 result
  | none => s

/-- A region leaves RUNNING or DRAINING for a state: its seal is removed, its generation is blocked unless it
is DONE, and the requests that waited for it complete (R230, R231, R237, R242, R245). -/
def State.leaveRunning (s : State) (id st : Nat) : State :=
  let r := s.region id
  let s := s.setRegion id { r with st := st, sealed := false, startReq := none, drainReq := none
                                   scanReq := if st = 6 then none else r.scanReq
                                   stopReq := if st = 6 ∨ st = 4 then none else r.stopReq
                                   reload := if st = 6 then none else r.reload }
  let s := if st = 4 then s
    else { s with rgns := { s.rgns with blocked := s.rgns.blocked ||| (1 <<< r.gen.toNat) } }
  let s := s.completeOpt r.startReq (startStatus st) (BitVec.ofNat 128 s.clk.gcc.toNat)
  let s := s.completeOpt r.drainReq (startStatus st)
  if st = 4 then s.completeOpt r.stopReq stOK
  else if st = 6 then
    let s := s.completeOpt (r.scanReq.map fun q => (q.1, q.2.1)) stRGNFAULT
    let s := s.completeOpt (r.reload.map fun q => (q.1, q.2.1)) stRGNFAULT
    s.completeOpt r.stopReq stOK
  else s

/-- The EPID a core has in the active version, or the reserved EPID of BAR0 where it has none. -/
def State.epidOf (s : State) (k : SiteId) : Nat := (s.fab.epidAt s.curVer k).getD 0x7FFFF

/-- A region fault raised at a core of a live region: recorded, reported and halted; only the first cause of
a region is recorded (R243, R244). -/
def State.faultRegion (s : State) (id : Nat) (k : SiteId) (cause detail : Nat) : State :=
  let r := s.region id
  if r.live then
    let e := s.epidOf k
    let f : RgnFault := { cause := BitVec.ofNat 8 cause, epid := BitVec.ofNat 19 e,
                          detail := BitVec.ofNat 8 detail, gcc := s.clk.gcc }
    let s := s.setRegion id { r with fault := some f }
    let s := s.setCore k ((s.core k).setReg 0x10060C (BitVec.ofNat 32 (cause + (detail <<< 8) + 2 ^ 16)))
    let s := s.raise 0x10 (evData (id + (cause <<< 16) + (detail <<< 24)) e s.clk.gcc.toNat)
    (s.leaveRunning id 6).sendHalt id
  else s

/-- A region fault raised by a core of it (R243). -/
def State.regionFault (s : State) (k : SiteId) (cause detail : Nat) : State :=
  s.faultRegion (s.core k).rgnId k cause detail

/-- An engine fault: the first of a core is recorded, its engines stop and its region faults. Causes are those
of CE_FAULT: 1 NUMERIC, 2 DESC, 3 FETCH, which are also the region's (R80, R81, R107, R243). -/
def State.engineFault (s : State) (k : SiteId) (eng cause : Nat) (resp : Byte) (off : Nat) : State :=
  let c := s.core k
  if wfld (c.reg 0x10030C) 0 8 ≠ 0 then s.setCore k c.stopEngines
  else
    let c := (c.setReg 0x10030C (BitVec.ofNat 32 (cause + (eng <<< 8) + (resp.toNat <<< 16)))).setReg
      0x100310 (BitVec.ofNat 32 (off % 0x40000))
    (s.setCore k c.stopEngines).regionFault k cause resp.toNat

/-- A sequencer exception: it stops the sequencer and the engines, records cause, context, PC and word, and
faults the region (R133). -/
def State.seqException (s : State) (k : SiteId) (cause code : Nat) (insn : Word) : State :=
  let c := s.core k
  let pc := (c.ctxAt c.seqr.cur.toNat).pc
  let c := c.stopEngines
  let c := { c with seqr := { c.seqr with run := false, fault := true, wait := .none } }
  let c := ((c.setReg 0x10000C (BitVec.ofNat 32 (cause + (c.seqr.cur.toNat <<< 8) + (code <<< 16)))).setReg
    0x100010 (pc.setWidth 32)).setReg 0x100014 insn
  (s.setCore k c).regionFault k 4 cause

/-- Whether a core is done: every configured context HALTED, every engine empty (R129). -/
def Core.isDone (c : Core) : Bool :=
  ((List.range 8).all fun i => (c.ctxAt i).st == 0 || (c.ctxAt i).st == 3) && c.enginesIdle

/-- LAUNCHED of a core's RGN_STATUS (R247). -/
def Core.launched (c : Core) : Bool := wbit (c.reg 0x100608) 4

/-- CORE_DONE of a core's RGN_STATUS (R247). -/
def Core.coreDone (c : Core) : Bool := wbit (c.reg 0x100608) 7

/-- A core's channels whose first descriptor word satisfies a test become CLOSED (R278). -/
def Core.closeChans (c : Core) (p : Word → Bool) : Core :=
  { c with chan := (List.range 64).foldl (fun (t : Tbl Word) i =>
      let w := Tbl.get 0 t (64 * i)
      if p w then Tbl.set 0 t (64 * i) (w &&& ~~~3) else t) c.chan }

/-- A launched core of a live region that has become done reports it and its channels close; with the last core
the region is DONE (R129, R215, R278). -/
def State.checkDone (s : State) (k : SiteId) : State :=
  let c := s.core k
  let id := c.rgnId
  if (s.region id).live && c.launched && !c.coreDone && c.isDone then
    let g := s.clk.gcc.toNat
    let c := ((c.setReg 0x100608 (setBit (c.reg 0x100608) 7 true)).setReg 0x100628 (BitVec.ofNat 32 g)).setReg
      0x10062C (BitVec.ofNat 32 (g >>> 32))
    let s := s.setCore k (c.closeChans fun _ => true)
    if (s.regionCores id).all fun e => (s.core e.2).coreDone then s.leaveRunning id 4 else s
  else s

/-- A scheduled region's core counts slip of a source, and the region faults SCHED where its switch store is
in use or SLIP_FAULT is set (R234). -/
def State.slip (s : State) (k : SiteId) (src cycles : Nat) : State :=
  let c := s.core k
  let r := s.region c.rgnId
  if r.live && r.sched && cycles > 0 then
    let c := (c.add64 0x100630 cycles).setReg 0x100638 (setBit (c.reg 0x100638) src true)
    let s := s.setCore k c
    if wbit (c.reg 0x100640) 31 || r.slipFault then s.regionFault k 10 0 else s
  else s

end Sys2Proof.Machine
end

