-- ==== Sys2Proof/Machine/Bank.lean ====
section
/-!
DEFINITION. Core memory banks: ownership, power states, circular windows, scrubbing and march tests
(R139-R170).
-/

namespace Sys2Proof.Machine

/-- The answer of every meaning. -/
abbrev Res := Host.Outcome State Fault Refusal

/-- WIN_n (R170). -/
def Core.win (c : Core) (n : Nat) : Word := c.reg (0x100440 + 4 * n)

/-- A window's EN, LWRAP, SIZE, bank and first row (R152, R170). -/
def winEn (w : Word) : Bool := wbit w 31
def winLwrap (w : Word) : Bool := wbit w 30
def winSize (w : Word) : Nat := wfld w 16 11
def winBank (w : Word) : Nat := wfld w 10 2
def winRow (w : Word) : Nat := wfld w 0 10

/-- A window is valid: enabled, 1 to 1,024 slots, within one bank (R152). -/
def winValid (w : Word) : Bool :=
  winEn w && decide (1 ≤ winSize w) && decide (winSize w ≤ 1024) && decide (winRow w + winSize w ≤ 1024)

/-- The first byte of a window. -/
def winBase (w : Word) : Nat := winBank w * 0x10000 + winRow w * 64

/-- Whether a bank is mapped (R154). -/
def Core.mapped (c : Core) (b : Nat) : Bool :=
  wfld (c.bankCtl b) 0 2 != 0 || wbit (c.bankCtl b) 8
    || (List.range 16).any fun n => winEn (c.win n) && winBank (c.win n) == b

/-- Whether an operation in execution holds a bank (R144). -/
def Core.bankHeld (c : Core) (b : Nat) : Bool :=
  (List.range 2).any fun e => (c.engine e).run.any fun o => o.banks.getLsbD b

/-- A bank's power request acted on: an entry begins or is cancelled, or the bank wakes (R164). -/
def Core.powerReq (c : Core) (b : Nat) (req : Nat) : Core :=
  let w := setFld (c.bankCtl b) 16 2 req
  let x := c.bank b
  let put (w : Word) (x : BankSt) : Core := (c.setReg (0x100410 + 4 * b) w).setBank b x
  let st := wfld w 18 2
  if st = 3 then put w x
  else if st = 0 then put w { x with entering := if req = 0 then none else some (BitVec.ofNat 2 req) }
  else if st = 1 then
    if req = 0 then put (setFld w 18 2 3) { x with entering := none, fromOff := false }
    else put w { x with entering := if req = 2 then some 2 else none }
  else if req = 2 then put w x
  else put (setFld w 18 2 3) { x with entering := none, fromOff := true }

/-- A write to BANK_CTL_b (R144, R165, R170). -/
def Core.bankCtlWrite (c : Core) (b : Nat) (v : Word) : Core :=
  let old := c.bankCtl b
  let own := wfld v 0 2
  let takes := own ≠ 3 && !(c.bankHeld b)
  let w := if takes then setFld old 0 2 own else old
  let w := setBit (setBit (setBit w 4 (wbit v 4)) 5 (wbit v 5)) 8 (wbit v 8)
  let c := c.setReg (0x100410 + 4 * b) w
  let notOn := wfld old 18 2 ≠ 0 || wfld old 16 2 ≠ 0
  let req := wfld v 16 2
  if takes && own ≠ 0 && notOn then c.powerReq b 0
  else if req = 3 then c
  else if req = 0 then (if wfld w 16 2 = 0 then c else c.powerReq b 0)
  else if c.mapped b || wbit w 9 || (req = 2 && wbit w 4) then c
  else if req = wfld w 16 2 then c
  else c.powerReq b req

/-- A sequencer, send-engine or predictor access to a bank that is not ON asks for ON (R151). -/
def Core.wakeBank (c : Core) (b : Nat) : Core :=
  if c.pwrState b ≠ 0 || wfld (c.bankCtl b) 16 2 ≠ 0 then c.powerReq b 0 else c

/-- A bank filled with zero codewords (R163, R164, R169). -/
def Core.zeroBank (c : Core) (b : Nat) : Core :=
  let c : Core := { c with sram := c.sram.zeroRun (4096 * b) 4096 }
  c.setBank b { c.bank b with scrubHold := none }

/-- A bank's entry to RET or OFF completes (R164). -/
def Core.entryDone (c : Core) (b : Nat) : Core :=
  match (c.bank b).entering with
  | none => c
  | some x =>
    ((c.setReg (0x100410 + 4 * b) (setFld (c.bankCtl b) 18 2 x.toNat)).setBank b
      { c.bank b with entering := none })

/-- A waking bank reaches ON, zero-filled where it was OFF; a request for RET or OFF then enters it (R164). -/
def Core.wakeDone (c : Core) (b : Nat) : Core :=
  if c.pwrState b ≠ 3 then c
  else
    let x := c.bank b
    let w := setFld (c.bankCtl b) 18 2 0
    let c := if x.fromOff then c.zeroBank b else c
    let req := wfld w 16 2
    (c.setReg (0x100410 + 4 * b) w).setBank b
      { c.bank b with fromOff := false, entering := if req = 0 then none else some (BitVec.ofNat 2 req) }

/-- Whether an access engine is busy or has queued streams (R154). -/
def Core.accBusy (c : Core) (a : Nat) : Bool :=
  !(c.engineIdle (2 + a)) || (c.acc_ a).cur.isSome

/-- The landing window number of an access engine: CE_LAND (R98, R107). -/
def Core.landWin (c : Core) (a : Nat) : Nat := wfld (c.reg 0x100308) (8 * a) 4

/-- A write to WIN_n (R154, R170). -/
def Core.winWrite (c : Core) (n : Nat) (v : Word) : Core :=
  if (List.range 2).any fun a => c.landWin a == n && c.accBusy a then c
  else c.setReg (0x100440 + 4 * n) (v &&& 0xC7FF0FFF)

/-- MEM_SCRUB.EN (R161). -/
def Core.scrubOn (c : Core) : Bool := wbit (c.reg 0x100498) 31

/-- The scrub reads the next row of a bank (R160, R161). -/
def Core.scrubRow (c : Core) (b : Nat) : Core :=
  let x := c.bank b
  if !(c.scrubOn && c.bankUp b) || x.scrubHold.isSome then c
  else
    let base := 4096 * b + 4 * x.scrubRow
    let r := c.sram.read (16 * base) 64
    let fixed := (List.range 4).filterMap fun i =>
      match c.sram.decode (base + i) with
      | .corrected d _ => some (i, leBytes 16 d)
      | _ => none
    let c := c.noteEcc 3 r.ce r.ue r.cw
    c.setBank b { x with scrubRow := (x.scrubRow + 1) % 1024
                         scrubHold := if fixed = [] then none else some (x.scrubRow, fixed) }

/-- The scrub writes its held corrections back (R161). -/
def Core.scrubWriteback (c : Core) (b : Nat) : Core :=
  let x := c.bank b
  match x.scrubHold with
  | none => c
  | some (row, fixed) =>
    let base := 4096 * b + 4 * row
    let mem := fixed.foldl (fun (m : EccMem) (f : Nat × List Byte) => m.put (base + f.1) (leNat f.2)) c.sram
    let c : Core := { c with sram := mem }
    c.setBank b { x with scrubHold := none }

/-- MT_STATUS with a result (R170). -/
def mtStatus (result row bits : Nat) : Word := BitVec.ofNat 32 ((result <<< 28) + (row <<< 16) + bits)

/-- A march test asked for by MT_CTL or the cupola, checked and started; `req` is a host test's descriptor
(R168, R170, R417). -/
def Core.marchBegin (c : Core) (kind bank : Nat) (req : Option (Nat × Nat)) : Core :=
  if c.march.isSome then c
  else if kind > 1 then c.setReg 0x1004A4 (mtStatus 7 0 0)
  else if c.mapped bank then c.setReg 0x1004A4 (mtStatus 4 0 0)
  else if kind = 0 && wbit (c.bankCtl bank) 4 then c.setReg 0x1004A4 (mtStatus 5 0 0)
  else
    { ((c.setReg 0x1004A4 (mtStatus 1 0 0)).setReg (0x100410 + 4 * bank) (setBit (c.bankCtl bank) 9 true)) with
      march := some { bank := bank, preserving := kind == 1, req := req } }

/-- A write to MT_CTL with START (R168, R170). -/
def Core.mtStart (c : Core) (v : Word) : Core :=
  (c.setReg 0x1004A0 (v &&& 0x303)).marchBegin (wfld v 8 2) (wfld v 0 2) none

/-- The running test aborted: a destructive one zero-fills the bank (R169). -/
def Core.marchAbort (c : Core) : Core :=
  match c.march with
  | none => c
  | some m =>
    let c := { c with march := none }
    let c := (c.setReg 0x1004A4 (mtStatus 6 0 0)).setReg (0x100410 + 4 * m.bank)
      (setBit (c.bankCtl m.bank) 9 false)
    if m.preserving then c else c.zeroBank m.bank

/-- The running test of a site aborted; a host test completes PARTIAL (R169, R417). -/
def State.marchStop (s : State) (k : SiteId) : State :=
  let c := s.core k
  match c.march with
  | none => s
  | some m =>
    let s := s.putCore k c.marchAbort
    match m.req with
    | some q => (s.testDone q stPARTIAL).complete q stPARTIAL
    | none => s

/-- The listed codewords of a bank; every other one is a zero codeword. -/
def listedCws (m : EccMem) (b : Nat) : List Nat :=
  let ix : List Nat := m.data.map (fun x => x.1 / 16) ++ m.chk.map (fun x => x.1)
  (ix.filter fun i => i / 4096 == b).eraseDups

/-- The codewords of a bank, every correctable one corrected, as a preserving test leaves them (R167). -/
def correctBank (m : EccMem) (b : Nat) : EccMem :=
  (listedCws m b).foldl (fun (m : EccMem) (i : Nat) => match m.decode i with
    | .corrected d _ => m.put i d
    | _ => m) m

/-- The rows of a bank that hold an uncorrectable codeword, which a preserving test records as failing
(R167). -/
def badRows (m : EccMem) (b : Nat) : List Nat :=
  (((listedCws m b).filter fun i => m.decode i == Decoded.bad).map fun i => i % 4096 / 4).eraseDups

/-- The running test ends; `bad` are the rows the cells themselves fail in, with their miscompared bits
(R166, R167, R170). -/
def Core.marchEnd (c : Core) (bad : List (Nat × Nat)) : Core :=
  match c.march with
  | none => c
  | some m =>
    let own := if m.preserving then (badRows c.sram m.bank).map fun r => (r, 0) else []
    let all := (own ++ bad).filter fun r => r.1 < 1032
    let first := all.foldl (fun (a : Option (Nat × Nat)) r =>
      match a with
      | none => some r
      | some x => if r.1 < x.1 then some r else a) none
    let c := { c with march := none }
    let c := c.setReg (0x100410 + 4 * m.bank) (setBit (c.bankCtl m.bank) 9 false)
    let c := c.setReg 0x1004A4 (match first with
      | none => mtStatus 2 0 0
      | some r => mtStatus 3 r.1 (min r.2 576))
    if m.preserving then { c with sram := correctBank c.sram m.bank } else c.zeroBank m.bank

/-- BANK_CTL_WRITE (R165). -/
def execBankCtlWrite (k : SiteId) (b : Fin 4) (v : Word) (s : State) : Res :=
  .next (s.modCore k fun c => c.bankCtlWrite b v)

/-- BANK_POWER_ENTRY_DONE (R164). -/
def execBankPowerEntryDone (k : SiteId) (b : Fin 4) (s : State) : Res :=
  .next (s.modCore k fun c => c.entryDone b)

/-- BANK_WAKE_DONE (R164). -/
def execBankWakeDone (k : SiteId) (b : Fin 4) (s : State) : Res :=
  .next (s.modCore k fun c => c.wakeDone b)

/-- WIN_WRITE (R154). -/
def execWinWrite (k : SiteId) (n : Fin 16) (v : Word) (s : State) : Res :=
  .next (s.modCore k fun c => c.winWrite n v)

/-- SCRUB_ROW (R161). -/
def execScrubRow (k : SiteId) (b : Fin 4) (s : State) : Res :=
  .next (s.modCore k fun c => c.scrubRow b)

/-- SCRUB_WRITEBACK (R161). -/
def execScrubWriteback (k : SiteId) (b : Fin 4) (s : State) : Res :=
  .next (s.modCore k fun c => c.scrubWriteback b)

/-- MARCH_START (R168). -/
def execMarchStart (k : SiteId) (v : Word) (s : State) : Res :=
  .next (s.modCore k fun c => if wbit v 31 then c.mtStart v else c)

/-- MARCH_ABORT (R169). -/
def execMarchAbort (k : SiteId) (s : State) : Res := .next (s.marchStop k)

end Sys2Proof.Machine
end

