-- ==== Sys2Proof/Machine/Float.lean ====
section
/-!
DEFINITION. The number formats: decoding, exact arithmetic, rounding, conversion, block and tile scaling
(R40-R70).
-/

namespace Sys2Proof.Machine

/-- An exact value: NaN, an infinity, or `m * 2^e` with its sign, which a zero keeps (R43, R44). -/
inductive Val where
  | nan
  | inf (neg : Bool)
  | fin (neg : Bool) (m : Nat) (e : Int)
  deriving DecidableEq, Repr

/-- The parameters of a floating-point layout: exponent and mantissa bits, bias, the magnitude code of the
largest finite value, whether codes above it hold infinity (R41). -/
structure Fmt where
  eb   : Nat
  mb   : Nat
  bias : Int
  top  : Nat
  inf  : Bool
  nan  : Option Nat
  deriving DecidableEq, Repr

/-- FP32 (R41, R43). -/
def fp32 : Fmt := { eb := 8, mb := 23, bias := 127, top := 0x7F7FFFFF, inf := true, nan := some 0x7FC00000 }

/-- BF16 (R41, R43). -/
def bf16 : Fmt := { eb := 8, mb := 7, bias := 127, top := 0x7F7F, inf := true, nan := some 0x7FC0 }

/-- FP16 (R41, R43). -/
def fp16 : Fmt := { eb := 5, mb := 10, bias := 15, top := 0x7BFF, inf := true, nan := some 0x7E00 }

/-- E4M3 (R41, R43). -/
def e4m3 : Fmt := { eb := 4, mb := 3, bias := 7, top := 0x7E, inf := false, nan := some 0x7F }

/-- E5M2 (R41, R43). -/
def e5m2 : Fmt := { eb := 5, mb := 2, bias := 15, top := 0x7B, inf := true, nan := some 0x7E }

/-- FP6 E3M2 (R41). -/
def e3m2 : Fmt := { eb := 3, mb := 2, bias := 3, top := 0x1F, inf := false, nan := none }

/-- FP6 E2M3 (R41). -/
def e2m3 : Fmt := { eb := 2, mb := 3, bias := 1, top := 0x1F, inf := false, nan := none }

/-- FP4 E2M1 (R41). -/
def e2m1 : Fmt := { eb := 2, mb := 1, bias := 1, top := 7, inf := false, nan := none }

/-- The value of a code (R41, R43). -/
def Fmt.decode (f : Fmt) (c : Nat) : Val :=
  let neg := c.testBit (f.eb + f.mb)
  let mag := c % 2 ^ (f.eb + f.mb)
  if mag > f.top then (if f.inf && mag = f.top + 1 then .inf neg else .nan)
  else
    let E := mag >>> f.mb
    let M := mag % 2 ^ f.mb
    if E = 0 then .fin neg M (1 - f.bias - f.mb) else .fin neg (M + 2 ^ f.mb) ((E : Int) - f.bias - f.mb)

/-- How a conversion rounds: to nearest even, or stochastically with the number drawn (R60-R62). -/
inductive Rnd where
  | rne
  | sr (r16 : Nat)
  deriving DecidableEq, Repr

/-- `m / 2^d` rounded to an integer magnitude (R61, R62). -/
def roundShift (r : Rnd) (m d : Nat) : Nat :=
  let q := m >>> d
  let rem := m % 2 ^ d
  match r with
  | .rne =>
    if 2 * rem > 2 ^ d ∨ (2 * rem = 2 ^ d ∧ q % 2 = 1) then q + 1 else q
  | .sr r16 => if (rem <<< 16) >>> d + r16 ≥ 2 ^ 16 then q + 1 else q

/-- `m * 2^e` rounded to a multiple of `2^q`, as that multiple. -/
def roundTo (r : Rnd) (m : Nat) (e q : Int) : Nat :=
  if q ≤ e then m <<< (e - q).toNat else roundShift r m (q - e).toNat

/-- floor(log2 (m * 2^e)) for a positive `m`. -/
def ilog2 (m : Nat) (e : Int) : Int := (m.log2 : Int) + e

/-- The magnitude code nearest to `m * 2^e`, as if codes went on above the largest. -/
def Fmt.codeOf (f : Fmt) (r : Rnd) (m : Nat) (e : Int) : Nat :=
  let emin := 1 - f.bias - f.mb
  let q := max (ilog2 m e - f.mb) emin
  let k := roundTo r m e q
  if m = 0 then 0 else ((q - emin).toNat <<< f.mb) + k

/-- A code with its sign. -/
def Fmt.signed (f : Fmt) (neg : Bool) (mag : Nat) : Nat := mag + (if neg then 2 ^ (f.eb + f.mb) else 0)

/-- What a conversion gives: the code, whether it saturated, whether its input was non-finite (R64, R65). -/
structure Conv where
  code : Nat
  sat  : Bool
  nf   : Bool
  deriving DecidableEq, Repr

/-- Conversion to a floating-point format; `toInf` where overflow gives infinity (R64, R65). A format with
neither NaN nor infinity never sees a non-finite value, since such a block is poisoned (R48). -/
def Fmt.encode (f : Fmt) (r : Rnd) (toInf : Bool) (v : Val) : Conv :=
  match v with
  | .nan => { code := f.nan.getD 0, sat := false, nf := true }
  | .inf neg =>
    if f.inf && (toInf || f.mb ≥ 7) then { code := f.signed neg (f.top + 1), sat := false, nf := true }
    else { code := f.signed neg f.top, sat := true, nf := true }
  | .fin neg m e =>
    let c := f.codeOf r m e
    if c ≤ f.top then { code := f.signed neg c, sat := false, nf := false }
    else if f.inf && toInf then { code := f.signed neg (f.top + 1), sat := false, nf := false }
    else { code := f.signed neg f.top, sat := true, nf := false }

/-- Conversion to an 8-bit integer code with the least significant bit worth `2^lsb`, kept to -127 .. 127
(R42, R44, R64, R65). -/
def encodeInt (lsb : Int) (r : Rnd) (v : Val) : Conv :=
  let put (neg : Bool) (k : Nat) : Nat := if neg then (256 - k) % 256 else k
  match v with
  | .nan => { code := 0, sat := false, nf := true }
  | .inf neg => { code := put neg 127, sat := true, nf := true }
  | .fin neg m e =>
    let k := roundTo r m e lsb
    if k ≤ 127 then { code := put neg k, sat := false, nf := false }
    else { code := put neg 127, sat := true, nf := false }

/-- The value of a two's complement 8-bit code with that lsb (R42). -/
def decodeInt (lsb : Int) (c : Nat) : Val :=
  let i := sgn 8 c
  .fin (decide (i < 0)) i.natAbs lsb

/-- The value of an FP32 word. -/
def f32 (w : Word) : Val := fp32.decode w.toNat

/-- The FP32 word nearest to a value; overflow gives infinity and is not counted (R64, R69). -/
def toF32 (v : Val) : Word := BitVec.ofNat 32 (fp32.encode .rne true v).code

/-- A value negated; a NaN stays the canonical NaN. -/
def Val.neg : Val → Val
  | .nan => .nan
  | .inf n => .inf (!n)
  | .fin n m e => .fin (!n) m e

/-- A value's magnitude. -/
def Val.abs : Val → Val
  | .nan => .nan
  | .inf _ => .inf false
  | .fin _ m e => .fin false m e

/-- A value times `2^k`, exactly. -/
def Val.scale (k : Int) : Val → Val
  | .fin n m e => .fin n m (e + k)
  | v => v

/-- A value that is NaN or infinite. -/
def Val.nonFinite : Val → Bool
  | .fin _ _ _ => false
  | _ => true

/-- A value that is zero. -/
def Val.isZero : Val → Bool
  | .fin _ 0 _ => true
  | _ => false

/-- The signed integer `n * 2^e` as a value; an exact zero is positive (R67, R69). -/
def Val.ofInt (n : Int) (e : Int) : Val := .fin (decide (n < 0)) n.natAbs e

/-- A finite value as an integer multiple of `2^e0`, for an `e0` not above its exponent. -/
def mantAt (e0 : Int) (neg : Bool) (m : Nat) (e : Int) : Int :=
  let k : Int := (m <<< (e - e0).toNat : Nat)
  if neg then -k else k

/-- The exact sum: IEEE 754 for the special values, a sum of two negative zeros is negative (R69). -/
def Val.add (a b : Val) : Val :=
  match a, b with
  | .nan, _ => .nan
  | _, .nan => .nan
  | .inf x, .inf y => if x = y then .inf x else .nan
  | .inf x, _ => .inf x
  | _, .inf y => .inf y
  | .fin n1 m1 e1, .fin n2 m2 e2 =>
    let e0 := min e1 e2
    let n := mantAt e0 n1 m1 e1 + mantAt e0 n2 m2 e2
    if n = 0 then .fin (n1 && n2 && decide (m1 = 0) && decide (m2 = 0)) 0 e0 else Val.ofInt n e0

/-- The exact product: IEEE 754 for the special values (R67, R69). -/
def Val.mul (a b : Val) : Val :=
  match a, b with
  | .nan, _ => .nan
  | _, .nan => .nan
  | .inf x, .inf y => .inf (x != y)
  | .inf x, .fin y m _ => if m = 0 then .nan else .inf (x != y)
  | .fin x m _, .inf y => if m = 0 then .nan else .inf (x != y)
  | .fin x m1 e1, .fin y m2 e2 => .fin (x != y) (m1 * m2) (e1 + e2)

/-- Whether a value lies below another; no order with a NaN. -/
def Val.lt (a b : Val) : Bool :=
  match a, b with
  | .nan, _ => false
  | _, .nan => false
  | .inf x, .inf y => x && !y
  | .inf x, _ => x
  | _, .inf y => !y
  | .fin n1 m1 e1, .fin n2 m2 e2 =>
    let e0 := min e1 e2
    decide (mantAt e0 n1 m1 e1 < mantAt e0 n2 m2 e2)

/-- FP32 addition (R69). -/
def fadd (a b : Word) : Word := toF32 ((f32 a).add (f32 b))

/-- FP32 subtraction (R69). -/
def fsub (a b : Word) : Word := toF32 ((f32 a).add (f32 b).neg)

/-- FP32 multiplication (R69). -/
def fmul (a b : Word) : Word := toF32 ((f32 a).mul (f32 b))

/-- FP32 fused multiply-add (R69). -/
def ffma (a b c : Word) : Word := toF32 (((f32 a).mul (f32 b)).add (f32 c))

/-- The canonical FP32 NaN (R43). -/
def nan32 : Word := 0x7FC00000

/-- The FP32 code for the value, with a NaN made canonical. -/
def canon32 (w : Word) : Word := if f32 w = .nan then nan32 else w

/-- The formats by their codes (R40). -/
inductive Format where
  | fp32 | bf16 | fp16 | e4m3 | e5m2 | int8 | mxE4m3 | mxE5m2 | mxE3m2 | mxE2m3 | mxfp4 | mxint8 | t2 | e8m0
  deriving DecidableEq, Repr

/-- The format an 8-bit code names; none for a reserved code (R40). -/
def Format.ofCode (c : Nat) : Option Format :=
  match c with
  | 0x00 => some .fp32
  | 0x01 => some .bf16
  | 0x02 => some .fp16
  | 0x03 => some .e4m3
  | 0x04 => some .e5m2
  | 0x05 => some .int8
  | 0x10 => some .mxE4m3
  | 0x11 => some .mxE5m2
  | 0x12 => some .mxE3m2
  | 0x13 => some .mxE2m3
  | 0x14 => some .mxfp4
  | 0x15 => some .mxint8
  | 0x20 => some .t2
  | 0x30 => some .e8m0
  | _ => none

/-- How a format is scaled (R40). -/
inductive Scaling where
  | none | tile | block
  deriving DecidableEq, Repr

/-- Element bits (R40). -/
def Format.bits : Format → Nat
  | .fp32 => 32
  | .bf16 => 16
  | .fp16 => 16
  | .mxE3m2 => 6
  | .mxE2m3 => 6
  | .mxfp4 => 4
  | .t2 => 2
  | _ => 8

/-- The scaling column of R40. -/
def Format.scaling : Format → Scaling
  | .fp32 => .none
  | .bf16 => .none
  | .fp16 => .tile
  | .e4m3 => .tile
  | .e5m2 => .tile
  | .int8 => .tile
  | .e8m0 => .none
  | _ => .block

/-- The floating-point layout of a format's elements; none for integers, T2 and E8M0. -/
def Format.layout : Format → Option Fmt
  | .fp32 => some Machine.fp32
  | .bf16 => some Machine.bf16
  | .fp16 => some Machine.fp16
  | .e4m3 => some Machine.e4m3
  | .e5m2 => some Machine.e5m2
  | .mxE4m3 => some Machine.e4m3
  | .mxE5m2 => some Machine.e5m2
  | .mxE3m2 => some Machine.e3m2
  | .mxE2m3 => some Machine.e2m3
  | .mxfp4 => some Machine.e2m1
  | _ => none

/-- The value of an element code before its scale (R41, R42, R50). -/
def Format.elem (f : Format) (c : Nat) : Val :=
  match f with
  | .int8 => decodeInt 0 c
  | .mxint8 => decodeInt (-6) c
  | .t2 => match c with
    | 1 => .fin false 1 0
    | 3 => .fin true 1 0
    | _ => .fin false 0 0
  | .e8m0 => if c = 0xFF then .nan else .fin false 1 ((c : Int) - 127)
  | f => match f.layout with
    | some l => l.decode c
    | none => .nan

/-- A value under an E8M0 scale byte: 0xFF makes a NaN (R45, R46, R52). -/
def underScale (s : Nat) (v : Val) : Val := if s = 0xFF then .nan else v.scale ((s : Int) - 127)

/-- An element decoded to FP32 under its scale byte (R66). -/
def Format.toFp32 (f : Format) (scale : Nat) (c : Nat) : Word := toF32 (underScale scale (f.elem c))

/-- The codes packed in a byte string, `w` bits each, from the least significant bit up (R47). -/
def unpack (w n : Nat) (b : List Byte) : List Nat :=
  let v := leNat b
  (List.range n).map fun i => fld v (w * i) w

/-- The number that codes of `w` bits pack into. -/
def packNat (w : Nat) : List Nat → Nat
  | [] => 0
  | c :: cs => c % 2 ^ w + (packNat w cs <<< w)

/-- Codes of `w` bits packed into bytes (R47). -/
def pack (w : Nat) (cs : List Nat) : List Byte := leBytes ((w * cs.length + 7) / 8) (packNat w cs)

/-- EMAX_ELEM of an MX element (R48). -/
def Format.emax : Format → Int
  | .mxE4m3 => 8
  | .mxE5m2 => 15
  | .mxE3m2 => 4
  | .mxE2m3 => 2
  | .mxfp4 => 2
  | _ => 0

/-- A conversion of one value to an unscaled element of a format; `ieee` is NUM_CTL.IEEE_OVF, which acts on
the scalar BF16, FP16 and E5M2 only (R49, R64, R65). -/
def Format.fromVal (f : Format) (r : Rnd) (ieee : Bool) (v : Val) : Conv :=
  match f with
  | .fp32 => { Machine.fp32.encode r true v with sat := false }
  | .bf16 => Machine.bf16.encode r ieee v
  | .fp16 => Machine.fp16.encode r ieee v
  | .e5m2 => Machine.e5m2.encode r ieee v
  | .int8 => encodeInt 0 r v
  | .mxint8 => encodeInt (-6) r v
  | f => match f.layout with
    | some l => l.encode r false v
    | none => { code := 0, sat := false, nf := false }

/-- The largest magnitude of some values: NaN where one is NaN, and a NaN stays (R56). -/
def absMax (vs : List Val) : Val :=
  vs.foldl (fun a v => if a = .nan ∨ v = .nan then .nan else if a.lt v.abs then v.abs else a) (.fin false 0 0)

/-- A converted block: its scale byte, its codes, saturated elements, non-finite inputs. -/
structure Block where
  scale : Nat
  codes : List Nat
  sat   : Nat
  nf    : Nat
  deriving DecidableEq, Repr

/-- The greatest power of two not above a positive finite value, as its exponent; -127 for zero. -/
def blockExp (emax : Int) (a : Val) : Int :=
  match a with
  | .fin _ m e => if m = 0 then -127 else clampI (-127) 127 (ilog2 m e - emax)
  | _ => -127

/-- 32 values, each with its rounding, converted to an MX block (R48, R49). -/
def mxBlock (f : Format) (vs : List (Val × Rnd)) : Block :=
  let nf := vs.countP fun v => v.1.nonFinite
  if nf > 0 then { scale := 0xFF, codes := vs.map fun _ => 0, sat := 0, nf := nf }
  else
    let X := blockExp f.emax (absMax (vs.map (·.1)))
    let cs := vs.map fun v => f.fromVal v.2 false (v.1.scale (-X))
    { scale := (X + 127).toNat, codes := cs.map (·.code), sat := cs.countP (·.sat), nf := 0 }

/-- The exponent of R51 for a mean magnitude: floor(log2 g), one more where the significand is 1.5 or above,
clamped after the increment. -/
def t2Exp (m : Nat) (e : Int) : Int :=
  clampI (-127) 127 (ilog2 m e + (if 2 * m ≥ 3 * 2 ^ m.log2 then 1 else 0))

/-- 32 FP32 weights converted to a T2 block (R51). -/
def t2Block (vs : List Word) : Block :=
  let nf := vs.countP fun v => (f32 v).nonFinite
  let codes (E : Int) := vs.map fun w =>
    if ((f32 w).abs).lt (.fin false 1 (E - 1)) then 0 else if w.getLsbD 31 then 3 else 1
  if nf > 0 then { scale := 0xFF, codes := vs.map fun _ => 0, sat := 0, nf := nf }
  else
    let sum := (vs.map fun w => w &&& 0x7FFFFFFF).foldl fadd 0
    match f32 sum with
    | .fin _ m e =>
      match f32 (toF32 (.fin false m (e - 5))) with
      | .fin _ m' e' =>
        if m' = 0 then { scale := 0, codes := vs.map fun _ => 0, sat := 0, nf := 0 }
        else { scale := (t2Exp m' e' + 127).toNat, codes := codes (t2Exp m' e'), sat := 0, nf := 0 }
      | _ => { scale := 0, codes := vs.map fun _ => 0, sat := 0, nf := 0 }
    | _ => { scale := 0xFE, codes := codes 127, sat := 1, nf := 0 }

/-- The random number of stochastic rounding (R63). -/
def srDraw (seed : DWord) (step tile : Word) (e : Nat) : Nat :=
  let k : DWord := seed ^^^ ((step.setWidth 64 <<< 32) ||| tile.setWidth 64)
  let z : DWord := k + BitVec.ofNat 64 (e + 1) * 0x9E3779B97F4A7C15
  let z := (z ^^^ (z >>> 30)) * 0xBF58476D1CE4E5B9
  let z := (z ^^^ (z >>> 27)) * 0x94D049BB133111EB
  let z := z ^^^ (z >>> 31)
  (z >>> 48).toNat

/-- FMAX and EMAX of the tile-scaled formats (R57). -/
def tileLimit : Format → Nat × Int
  | .fp16 => (65504, 15)
  | .e4m3 => (448, 8)
  | .e5m2 => (57344, 15)
  | _ => (127, 6)

/-- The scale exponent a commit derives from the largest history entry, before the margin (R57). -/
def tileExp (f : Format) (h : Val) : Int :=
  match h with
  | .fin _ m e =>
    let t := (tileLimit f).2 - ilog2 m e
    if (Val.fin false (tileLimit f).1 0).lt (.fin false m (e + t)) then t - 1 else t
  | _ => 0

/-- The exponent of a product's leading bit; none for a zero. -/
def Val.lead : Val → Option Int
  | .fin _ m e => if m = 0 then none else some (ilog2 m e)
  | _ => none

/-- Whether a value's sign is negative. -/
def Val.isNegative : Val → Bool
  | .inf n => n
  | .fin n _ _ => n
  | .nan => false

/-- A finite value truncated toward zero below `2^q`, as an integer multiple of `2^q`. -/
def truncAt (q : Int) : Val → Int
  | .fin n m e =>
    let k : Int := if q ≤ e then ((m <<< (e - q).toNat : Nat) : Int) else ((m >>> (q - e).toNat : Nat) : Int)
    if n then -k else k
  | _ => 0

/-- The sum of one chunk's products: special values by IEEE 754, the rest truncated 48 bits below the
largest and summed exactly; negative zeros alone sum to a negative zero (R44, R67; log entry 13). -/
def chunkSum (ps : List Val) : Val :=
  if ps.any Val.nonFinite then (ps.filter Val.nonFinite).foldl Val.add (.fin false 0 0)
  else
    match (ps.filterMap Val.lead).max? with
    | none => .fin (!ps.isEmpty && ps.all Val.isNegative) 0 0
    | some m => Val.ofInt (ps.foldl (fun s p => s + truncAt (m - 48) p) 0) (m - 48)

/-- One chunk added to an FP32 accumulator (R67). -/
def chunkAcc (acc : Word) (ps : List Val) (scale : Int) : Word :=
  toF32 ((f32 acc).add ((chunkSum ps).scale scale))

/-- A saturating 32-bit addition and whether it saturated (R68). -/
def satAdd32 (a : Word) (s : Int) : Word × Bool :=
  let x := a.toInt + s
  let y := clampI (-(2 ^ 31)) (2 ^ 31 - 1) x
  (BitVec.ofInt 32 y, decide (x ≠ y))

end Sys2Proof.Machine
end

