-- ==== Sys2Proof/Machine/Operands.lean ====
section
/-!
DEFINITION. Operands of engine operations: descriptor fields, local ranges with their wrapping, bank
ownership, landing streams, and the order of operations at an engine (R76-R81, R98-R100, R144, R145, R153).
-/

namespace Sys2Proof.Machine

/-- A field of an operation's descriptor: word offset, low bit, width. -/
def opFld (o : Op) (byte lo w : Nat) : Nat := fld o.desc.toNat (8 * byte + lo) w

/-- The window that wraps a local operand whose first byte is at `a`: its end and its length (R153). -/
def Core.wrapWin (c : Core) (a : Nat) : Option (Nat × Nat) :=
  (List.range 16).findSome? fun n =>
    let w := c.win n
    if winValid w && winLwrap w && decide (winBase w ≤ a) && decide (a < winBase w + 64 * winSize w)
    then some (winBase w + 64 * winSize w, 64 * winSize w) else none

/-- The pieces of memory a contiguous run of an operand accesses after wrapping; none where a byte would wrap
twice or lies outside SRAM (R144, R153). -/
def wrapRun (w : Option (Nat × Nat)) (a n : Nat) : Option (List (Nat × Nat)) :=
  match w with
  | none => if a + n ≤ 0x40000 then some [(a, n)] else none
  | some (e, span) =>
    if a + n ≤ e then some [(a, n)]
    else if a + n > e + span then none
    else if a ≥ e then some [(a - span, n)]
    else some [(a, e - a), (e - span, a + n - e)]

/-- The pieces an operand of `rows` runs of `n` bytes at a stride accesses. -/
def Core.opSegs (c : Core) (base rows stride n : Nat) : Option (List (Nat × Nat)) :=
  let w := c.wrapWin base
  ((List.range rows).mapM fun i => wrapRun w (base + i * stride) n).map List.flatten

/-- The banks some pieces lie in, as a mask. -/
def segBanks (segs : List (Nat × Nat)) : BitVec 4 :=
  segs.foldl (fun m x =>
    if x.2 = 0 then m
    else (List.range 4).foldl (fun (m : BitVec 4) b =>
      if x.1 / 0x10000 ≤ b ∧ b ≤ (x.1 + x.2 - 1) / 0x10000 then m ||| (1 <<< b) else m) m) 0

/-- A unit owns every bank of a mask, and each is ON: 1 tensor, 2 vector (R143, R144). -/
def Core.owns (c : Core) (unit : Nat) (m : BitVec 4) : Bool :=
  (List.range 4).all fun b => !m.getLsbD b || (wfld (c.bankCtl b) 0 2 == unit && c.pwrState b == 0)

/-- The bytes of some pieces, read through the decoder; none where a codeword is uncorrectable. -/
def Core.readSegs (c : Core) (src : Nat) : List (Nat × Nat) → Core × Option (List Byte)
  | [] => (c, some [])
  | x :: xs =>
    let (c, r) := c.sramRead src x.1 x.2
    let (c, rs) := c.readSegs src xs
    (c, match r, rs with
      | some a, some b => some (a ++ b)
      | _, _ => none)

/-- Bytes laid over some pieces, written; false where a merge finds an uncorrectable codeword. -/
def Core.writeSegs (c : Core) (src : Nat) : List (Nat × Nat) → List Byte → Core × Bool
  | [], _ => (c, true)
  | x :: xs, b =>
    let (c, ok) := c.sramWrite src x.1 (b.take x.2)
    let (c, oks) := c.writeSegs src xs (b.drop x.2)
    (c, ok && oks)

/-- The landing window of an access engine. -/
def Core.landW (c : Core) (a : Nat) : Word := c.win (c.landWin a)

/-- Whether the landing window of an access engine is enabled, valid and at least two slots (R98). -/
def Core.landOk (c : Core) (a : Nat) : Bool := winValid (c.landW a) && decide (2 ≤ winSize (c.landW a))

/-- Whether the two landing windows keep apart (R98). -/
def Core.landApart (c : Core) : Bool :=
  let w0 := c.landW 0
  let w1 := c.landW 1
  let s0 := wfld w0 0 12
  let s1 := wfld w1 0 12
  c.landWin 0 != c.landWin 1
    && !(winEn w0 && winEn w1 && decide (s0 < s1 + winSize w1) && decide (s1 < s0 + winSize w0))

/-- Credits an access engine holds: free slots of its window (R98, R99). -/
def Core.credits (c : Core) (a : Nat) : Nat :=
  let x := c.acc_ a
  winSize (c.landW a) - (x.sent - x.taken / 64)

/-- Whether the next `n` bytes of an access engine's stream are readable (R99, R100). -/
def Core.landHas (c : Core) (a n : Nat) : Bool := decide ((c.acc_ a).taken + n ≤ 64 * (c.acc_ a).ready)

/-- The pieces of the landing window that hold `n` stream bytes from position `pos`, at most a window long. -/
def landSegs (w : Word) (pos n : Nat) : List (Nat × Nat) :=
  let span := 64 * winSize w
  let p := if span = 0 then 0 else pos % span
  if p + n ≤ span then [(winBase w + p, n)] else [(winBase w + p, span - p), (winBase w, p + n - span)]

/-- The next `n` bytes of a landing stream taken: their credits return as slots are passed (R99, R100). -/
def Core.takeLand (c : Core) (a n : Nat) : Core × Option (List Byte) :=
  let x := c.acc_ a
  let (c, r) := c.readSegs 0 (landSegs (c.landW a) x.taken n)
  (c.setAcc a { x with taken := x.taken + n }, r)

/-- What a fault check finds: the CE_FAULT cause and response code; none where the operation may go on. -/
abbrev Check := Option (Nat × Byte)

/-- Cause DESC (R80). -/
def descFault : Check := some (2, 0)

/-- Cause NUMERIC (R80). -/
def numFault : Check := some (1, 0)

/-- Cause FETCH with a response code (R80). -/
def fetchFault (r : Byte) : Check := some (3, r)

/-- The first check that fails. -/
def firstOf (cs : List (Bool × Check)) : Check :=
  match cs.find? (·.1) with
  | some x => x.2
  | none => none

/-- The operations of engines 0 and 1 issued before a number and not retired. -/
def Core.earlier (c : Core) (seq : Nat) : List (Nat × Bool × Op) :=
  ([0, 1].flatMap fun e =>
    ((c.engine e).queue.map fun o => (e, false, o)) ++ ((c.engine e).run.map fun o => (e, true, o))).filter
    fun x => x.2.2.seq < seq

/-- The accumulator rows an operation reads and those it writes, as first row and count (R78, R89, R97). -/
def accRows (eng : Nat) (o : Op) : (Nat × Nat) × (Nat × Nat) :=
  let opc := opFld o 0 0 8
  if eng = 0 then
    let rows := (opFld o 4 8 6, opFld o 4 0 7)
    if opc = 2 then (if opFld o 0 18 2 = 0 then (rows, rows) else ((0, 0), rows))
    else if opc = 3 then ((0, 0), rows) else ((0, 0), (0, 0))
  else if opc = 0x0E then ((opFld o 4 16 6, opFld o 4 0 16 / 16), (0, 0)) else ((0, 0), (0, 0))

/-- Whether two runs of rows meet. -/
def rowsMeet (a b : Nat × Nat) : Bool :=
  decide (0 < a.2) && decide (0 < b.2) && decide (a.1 < b.1 + b.2) && decide (b.1 < a.1 + a.2)

/-- The accumulator interlock: a reader waits for earlier writers of its rows to complete, a writer for
earlier readers to have read; a dispatched operation has read (R78). -/
def Core.rowsFree (c : Core) (eng : Nat) (o : Op) : Bool :=
  let me := accRows eng o
  (c.earlier o.seq).all fun x =>
    let it := accRows x.1 x.2.2
    !(rowsMeet me.1 it.2 && !x.2.2.finished) && !(rowsMeet me.2 it.1 && !x.2.1)

/-- Consumers of one landing stream take it in issue order: no earlier operation still queued reads the same
stream (R78, R100). -/
def Core.streamTurn (c : Core) (sel : Nat) (o : Op) : Bool :=
  (c.earlier o.seq).all fun x =>
    x.2.1 || !(if x.1 = 0 then opFld x.2.2 0 20 2 == sel && opFld x.2.2 0 0 8 != 3
               else opFld x.2.2 0 28 2 == sel && opFld x.2.2 0 0 8 != 0x0E)

/-- An engine with its head operation moved from the queue to those executing. -/
def Core.dispatch (c : Core) (eng : Nat) (o : Op) : Core :=
  let e := c.engine eng
  c.setEngine eng { e with queue := e.queue.drop 1, run := e.run ++ [o] }

/-- How many leading operations have finished. -/
def finishedHead : List Op → Nat
  | [] => 0
  | o :: os => if o.finished then finishedHead os + 1 else 0

/-- An engine retires its finished operations in issue order, and DONE rises (R77). -/
def Core.retireOps (c : Core) (eng : Nat) : Core :=
  let e := c.engine eng
  let n := finishedHead e.run
  c.setEngine eng { e with run := e.run.drop n, done := e.done + BitVec.ofNat 16 n }

/-- An engine's operation of a number marked finished, then retired in order. -/
def Core.finishOp (c : Core) (eng seq : Nat) : Core :=
  let e := c.engine eng
  (c.setEngine eng { e with run := e.run.map fun o => if o.seq = seq then { o with finished := true } else o }).retireOps
    eng

/-- The stall count of a core returns to 0: it has made progress (R210). -/
def Core.progress (c : Core) : Core := { c with net := { c.net with stall := 0 } }

/-- The head of an engine's queue when its operation code is one of those given. -/
def Core.headOp (c : Core) (eng : Nat) (opcs : List Nat) : Option Op :=
  match (c.engine eng).queue with
  | o :: _ => if opcs.contains (opFld o 0 0 8) then some o else none
  | [] => none

/-- A step of the LFSR and MISR (R108). -/
def chkStep (v : DWord) : DWord := if v.getLsbD 0 then (v >>> 1) ^^^ 0xD800000000000000 else v >>> 1

/-- `n` steps. -/
def chkSteps : Nat → DWord → DWord
  | 0, v => v
  | n + 1, v => chkSteps n (chkStep v)

/-- The next `n` words of the LFSR as bytes, and its state after them (R108). -/
def lfsrWords : Nat → DWord → List Byte × DWord
  | 0, v => ([], v)
  | n + 1, v =>
    let v := chkSteps 64 v
    let (b, w) := lfsrWords n v
    (leBytes 8 v.toNat ++ b, w)

/-- A MISR after folding bytes in groups of 8, the last padded with zeros (R108). -/
def misrFold : Nat → DWord → List Byte → DWord
  | 0, m, _ => m
  | n + 1, m, b =>
    if b = [] then m else misrFold n (chkStep m ^^^ BitVec.ofNat 64 (leNat (b.take 8))) (b.drop 8)

/-- CHK_CTL.ARM (R108). -/
def Core.armed (c : Core) : Bool := wbit (c.reg 0x100B04) 0

/-- Whether a DRAIN or a TMM fed by the LFSR executes, which defers writes to the checker (R108). -/
def Core.checkerBusy (c : Core) : Bool :=
  ((c.engine 0).run.any fun o => !o.finished && opFld o 0 0 8 == 2 && opFld o 0 20 2 == 3)
    || ((c.engine 1).run.any fun o => !o.finished && opFld o 0 0 8 == 0x0E)

/-- A write to CHK_CTL or CHK_SEED_HI takes effect (R108). -/
def Core.chkApply (c : Core) (off : Nat) (v : Word) : Core :=
  if off = 0x100B04 then
    let c := c.setReg off (v &&& 1)
    if wbit v 1 then { c with checker := { c.checker with misr := 0 } } else c
  else
    let c := c.setReg off v
    let seed : DWord := v ++ c.reg 0x100B08
    { c with checker := { c.checker with lfsr := if seed = 0 then 1 else seed } }

/-- A write to CHK_CTL or CHK_SEED_HI: at once, or when the operation in the way completes (R108). -/
def Core.chkWrite (c : Core) (off : Nat) (v : Word) : Core :=
  if c.checkerBusy then { c with checker := { c.checker with late := c.checker.late ++ [(off, v)] } }
  else c.chkApply off v

/-- The writes to the checker that waited take effect when nothing is in the way any more. -/
def Core.chkLate (c : Core) : Core :=
  if c.checkerBusy then c
  else
    let l := c.checker.late
    l.foldl (fun c x => c.chkApply x.1 x.2) { c with checker := { c.checker with late := [] } }

/-- A write to CE_LAND: each engine's field takes it unless that engine is busy or has queued streams, and a
taken write restores full credits and position 0 (R98, R107). -/
def Core.landWrite (c : Core) (v : Word) : Core :=
  (List.range 2).foldl (fun c a =>
    if c.accBusy a then c
    else (c.setReg 0x100308 (setFld (c.reg 0x100308) (8 * a) 4 (wfld v (8 * a) 4))).setAcc a AccEng.reset) c

/-- CE_LAND_WRITE (R98). -/
def execCeLandWrite (k : SiteId) (v : Word) (s : State) : Res := .next (s.modCore k fun c => c.landWrite v)

/-- CHK_SEED_LOAD (R108). -/
def execChkSeedLoad (k : SiteId) (v : Word) (s : State) : Res :=
  .next (s.modCore k fun c => c.chkWrite 0x100B0C v)

/-- CHK_CLEAR (R108): CLEAR written 1 with ARM written as it stands. -/
def execChkClear (k : SiteId) (s : State) : Res :=
  .next (s.modCore k fun c => c.chkWrite 0x100B04 ((c.reg 0x100B04 &&& 1) ||| 2))

end Sys2Proof.Machine
end

