-- ==== Sys2Proof/Machine/Source.lean ====
section
/-!
DEFINITION. The source interface of a core: how its engines' requests enter the fabric, and the reads and
writes that a stream or a send operation in progress still has to send (R99, R104, R194-R201, R206, R252).
-/

namespace Sys2Proof.Machine

/-- A destination as the source interface tells destinations apart: the engine, and the endpoint or MSD. -/
def State.destKey (s : State) (d : DWord) : Nat :=
  faEngine d * 2 ^ 20 + (if faM d then 2 ^ 19 + (stackOf s.stackN (faStack d)).1 / 2 else faEpid d)

/-- Whether a core may inject a packet for a destination on a plane now (R194, R196). -/
def State.mayInject (s : State) (k : SiteId) (d : DWord) (plane : Plane) : Bool :=
  let n := (s.core k).net
  !n.fenced && !n.stopped && !s.inReset k && !n.heldDest.contains (s.destKey d, plane)

/-- A packet taken out at its own site: what its router answers at once (R185-R187). -/
def State.answerHere (s : State) (k : SiteId) (p : Packet) (code : Byte) : State :=
  let type := if p.type = tRD_REQ then tRD_RESP else tNAK
  let plane := if p.type = tRD_REQ then p.plane else Plane.s
  let dest : DWord := BitVec.ofNat 64 ((p.srcEngine.toNat <<< 52) + (p.srcEpid.toNat <<< 32))
  let q := mkPacket s plane dest p.srcEpid.toNat p.epoch type 0 []
  let q : Packet := { q with resp := code, seq := p.seq, tag := if type = tRD_RESP then p.tag else 0
                             aplane := decide (type = tNAK) && decide (p.plane = Plane.s) }
  s.fly { site := k, from_ := .loc, ejected := true, hold := none, hops := 0, body := .inl (q.toSite k) }

/-- A packet enters the fabric: it is resolved in the source's version and injected, or its router answers it;
a multicast write that does not resolve is dropped and counted (R174, R185-R187, R210). -/
def State.enter (s : State) (k : SiteId) (p : Packet) : State :=
  let c := s.core k
  let p : Packet := { p with epoch := c.net.epoch }
  let s := s.setCore k c.progress
  match s.resolve c.net.epoch p.dest p.srcEpid.toNat with
  | .site d => s.inject k (p.toSite d)
  | .refuse code =>
    if p.type = tMC_WR then s.modCore k fun c => c.bump 0x100538 1 else s.answerHere k p code

/-- A request of a core with its sequence number and order, ready to enter the fabric (R174). -/
def State.newRequest (s : State) (k : SiteId) (plane : Plane) (dest : DWord) (type : Byte) (gen : BitVec 3)
    (tag : BitVec 16) (bytes : Nat) (payload : List Byte) : State × Packet × Nat :=
  let c := s.core k
  let key := 2 * Plane.num plane
  let seq := Tbl.get 0 c.net.seqno key
  let p := mkPacket s plane dest (s.epidOf k) c.net.epoch type bytes payload
  let p : Packet := { p with gen := gen, tag := tag, seq := seq }
  let net := { c.net with seqno := Tbl.set 0 c.net.seqno key (seq + 1), ord := c.net.ord + 1 }
  (s.setCore k { c with net := net }, p, c.net.ord)

/-- A read of an access engine sent, and kept by its tag (R99, R201). -/
def State.sendRead (s : State) (k : SiteId) (a : Nat) (dest : DWord) (bytes : Nat) (slots : List Nat)
    (header : Option Nat) (gen : BitVec 3) : State :=
  let tag := (s.core k).net.nextTag
  let (s, p, ord) := s.newRequest k .v dest tRD_REQ gen tag bytes []
  let c := s.core k
  let x := c.acc_ a
  let out : Outstanding := { pkt := p, ord := ord, slots := slots, header := header, attempts := 1
                             held := false, gap := false }
  let c := c.setAcc a { x with outs := x.outs ++ [out] }
  (s.setCore k { c with net := { c.net with nextTag := tag + 1 } }).enter k p

/-- The readable mark of a stream moved past the slots that have landed in order (R99). -/
def advance : Nat → List Nat → Nat → Nat × List Nat
  | 0, l, r => (r, l)
  | n + 1, l, r => if l.contains r then advance n (l.filter (· != r)) (r + 1) else (r, l)

/-- Bytes land in slots of an access engine's window, 64 in each; the next slots in order become readable (R98,
R99). -/
def Core.landSlots (c : Core) (a : Nat) : List Nat → List Byte → Core
  | [], _ => c
  | i :: is, b =>
    let (c, _) := c.writeSegs 4 (landSegs (c.landW a) (64 * i) 64) (padTo 64 (b.take 64))
    let x := c.acc_ a
    let (r, l) := advance (x.landed.length + 1) (i :: x.landed) x.ready
    (c.setAcc a { x with ready := r, landed := l }).landSlots a is (b.drop 64)

/-- The fields of a stream descriptor (R101). -/
structure SDesc where
  opc    : Nat
  sparse : Bool
  pred   : Bool
  run    : Nat
  src    : DWord
  st1    : Int
  st2    : Int
  count1 : Nat
  count2 : Nat
  group  : Nat
  mask   : Nat
  rsv    : Bool
  deriving DecidableEq, Repr

/-- An operation's descriptor read as a stream descriptor (R101). -/
def sDesc (o : Op) : SDesc :=
  { opc := opFld o 0 0 8, sparse := opFld o 0 8 1 == 1, pred := opFld o 0 9 1 == 1, run := opFld o 4 0 16
    src := BitVec.ofNat 64 (opFld o 8 0 64), st1 := sgn 32 (opFld o 0x10 0 32), st2 := sgn 32 (opFld o 0x14 0 32)
    count1 := opFld o 0x18 0 16, count2 := opFld o 0x18 16 16, group := opFld o 0x1C 0 14
    mask := 64 * opFld o 0x1C 16 12
    rsv := opFld o 0 10 22 != 0 || opFld o 4 16 16 != 0 || opFld o 0x1C 14 2 != 0 || opFld o 0x1C 28 4 != 0 }

/-- Slots of one run. -/
def SDesc.slots (d : SDesc) : Nat := d.run / 64

/-- Runs of a stream. -/
def SDesc.runs (d : SDesc) : Nat := d.count1 * d.count2

/-- Spans of one run of a SPARSE stream (R252). -/
def SDesc.spans (d : SDesc) : Nat := (d.run + 2047) / 2048

/-- The fabric address of a run, in pattern order (R101). -/
def SDesc.runAddr (d : SDesc) (r : Nat) : DWord :=
  d.src + BitVec.ofInt 64 ((r / d.count1 : Nat) * d.st2 + (r % d.count1 : Nat) * d.st1)

/-- Whether a run is fetched (R262). -/
def StreamSt.fetches (t : StreamSt) (r : Nat) : Bool :=
  match t.fetch with
  | none => true
  | some b => ((b.getD (r / 8) 0).toNat).testBit (r % 8)

/-- Where a sparse block of a run lies, if it is present, by its span's header at hand (R249, R250, R260). -/
inductive BlockAt where
  | unknown
  | absent
  | at_ (a : DWord)
  deriving DecidableEq, Repr

/-- A header's fields (R249). -/
def hdrMask (h : DWord) : Nat := h.toNat % 2 ^ 32
def hdrDense (h : DWord) : Bool := h.getLsbD 32
def hdrDoff (h : DWord) : Nat := fld h.toNat 40 24

/-- Where block `i` of run `r` lies. -/
def StreamSt.blockAt (t : StreamSt) (d : SDesc) (r i : Nat) : BlockAt :=
  match t.hdrs.find? fun e => e.1 == 32 * r + i / 32 with
  | none => .unknown
  | some e =>
    let h := e.2
    let slot : DWord := (d.runAddr r + BitVec.ofNat 64 (8 * (i / 32))) &&& ~~~63
    let j := i % 32
    let at_ (n : Nat) : BlockAt := .at_ (slot + BitVec.ofNat 64 (64 * hdrDoff h + 64 * n))
    if hdrDense h then at_ j
    else if (hdrMask h).testBit j then at_ ((List.range j).countP fun b => (hdrMask h).testBit b) else .absent

/-- The blocks of a run from `i` on that one step of a SPARSE stream takes: the slots a read lands in with the
address it starts at, the slots that land as zeros, and the block after (R252). -/
def gather (t : StreamSt) (d : SDesc) (r : Nat) : Nat → Nat → Nat → Nat → List Nat → DWord → List Nat →
    List Nat × DWord × List Nat × Nat
  | 0, i, _, _, rd, a0, zs => (rd, a0, zs, i)
  | n + 1, i, slot, credits, rd, a0, zs =>
    if credits = 0 ∨ d.slots ≤ i then (rd, a0, zs, i)
    else match t.blockAt d r i with
      | .unknown => (rd, a0, zs, i)
      | .absent => gather t d r n (i + 1) (slot + 1) (credits - 1) rd a0 (zs ++ [slot])
      | .at_ a =>
        if rd = [] then gather t d r n (i + 1) (slot + 1) (credits - 1) [slot] a zs
        else if a = a0 + BitVec.ofNat 64 (64 * rd.length) ∧ rd.length < 4 ∧ a.toNat / 256 = a0.toNat / 256 then
          gather t d r n (i + 1) (slot + 1) (credits - 1) (rd ++ [slot]) a0 zs
        else (rd, a0, zs, i)

/-- A stream at the slot after one it has asked for: at a run's end it goes to the next run, and headers that
are done with leave the buffer. -/
def StreamSt.moveTo (t : StreamSt) (d : SDesc) (pos : Nat) : StreamSt :=
  let t := { t with hdrs := t.hdrs.filter fun e => decide (32 * t.run + pos / 32 ≤ e.1) && decide (pos < d.slots) || decide (32 * t.run + 31 < e.1) }
  if d.slots ≤ pos then { t with run := t.run + 1, pos := 0 } else { t with pos := pos }

/-- The generation of the context that issued an operation (R174). -/
def Core.genOf (c : Core) (o : Op) : BitVec 3 := (c.ctxAt o.ctx.toNat).gen

/-- The engine's stream set. -/
def Core.setStream (c : Core) (a : Nat) (t : StreamSt) : Core := c.setAcc a { c.acc_ a with cur := some t }

/-- One header read of a SPARSE stream, when its buffer of 64 has room (R252, R253). -/
def State.headerStep (s : State) (k : SiteId) (a : Nat) (t : StreamSt) (d : SDesc) : Option State :=
  let x := (s.core k).acc_ a
  if d.runs ≤ t.hdrRun then none
  else if !(t.fetches t.hdrRun) then
    some (s.setCore k ((s.core k).setStream a { t with hdrRun := t.hdrRun + 1, hdrSpan := 0 }))
  else
    let addr := d.runAddr t.hdrRun + BitVec.ofNat 64 (8 * t.hdrSpan)
    let slots := min 4 (min ((256 - addr.toNat % 256) / 64) ((d.spans - t.hdrSpan + 7) / 8))
    let heads := min (8 * slots) (d.spans - t.hdrSpan)
    let asked := (x.outs.map fun o => if o.header.isSome then o.pkt.bytes.toNat / 8 else 0).sum
    if 64 < t.hdrs.length + asked + heads then none
    else
      let last := decide (d.spans ≤ t.hdrSpan + heads)
      let t' := { t with hdrRun := if last then t.hdrRun + 1 else t.hdrRun
                         hdrSpan := if last then 0 else t.hdrSpan + heads }
      let s := s.setCore k ((s.core k).setStream a t')
      some (s.sendRead k a addr (64 * slots) [] (some (32 * t.hdrRun + t.hdrSpan)) ((s.core k).genOf t.op))

/-- One step of a SPARSE stream's data (R252). -/
def State.sparseStep (s : State) (k : SiteId) (a : Nat) (t : StreamSt) (d : SDesc) : Option State :=
  let c := s.core k
  let x := c.acc_ a
  let (rd, a0, zs, i) := gather t d t.run 64 t.pos x.sent (c.credits a) [] 0 []
  if i = t.pos then none
  else
    let c := c.setAcc a { x with sent := x.sent + (i - t.pos), cur := some (t.moveTo d i) }
    let c := (c.add64 0x100C28 rd.length).add64 0x100C30 zs.length
    let s := s.putCore k (c.landSlots a zs [])
    some (if rd = [] then s else s.sendRead k a a0 (64 * rd.length) rd none (c.genOf t.op))

/-- One read of a dense stream or of a group's lead (R99, R104). -/
def State.denseStep (s : State) (k : SiteId) (a : Nat) (t : StreamSt) (d : SDesc) : Option State :=
  let c := s.core k
  let x := c.acc_ a
  let lead := d.opc == 2
  let addr := d.runAddr t.run + BitVec.ofNat 64 (64 * t.pos)
  let credits := if lead then winSize (c.landW a) - (Tbl.get 0 x.mcSent d.group - Tbl.get 0 x.mcFreed d.group) else c.credits a
  let n := min 4 (min credits (min (d.slots - t.pos) ((256 - addr.toNat % 256) / 64)))
  if n = 0 then none
  else
    let first := if lead then Tbl.get 0 x.mcSent d.group else x.sent
    let x := if lead then { x with mcSent := Tbl.set 0 x.mcSent d.group (first + n) } else { x with sent := x.sent + n }
    let s := s.setCore k (c.setAcc a { x with cur := some (t.moveTo d (t.pos + n)) })
    some (s.sendRead k a addr (64 * n) ((List.range n).map (first + ·)) none (c.genOf t.op))

/-- The next thing a stream in progress sends; none when it has nothing it may send (R99, R104, R252, R262). -/
def State.accStep (s : State) (k : SiteId) (a : Nat) : Option State :=
  let c := s.core k
  let x := c.acc_ a
  match x.cur with
  | none => none
  | some t =>
    let d := sDesc t.op
    match t.op.left with
    | p :: ps =>
      if s.mayInject k p.dest .v then
        let t' := { t with op := { t.op with left := ps } }
        some ((s.setCore k (c.setStream a t')).enter k p)
      else none
    | [] =>
      if d.opc = 3 ∨ 256 ≤ x.outs.length ∨ !(s.mayInject k d.src .v) then none
      else
        let head := if d.sparse then s.headerStep k a t d else none
        if head.isSome then head
        else if d.runs ≤ t.run then none
        else if !(t.fetches t.run) then some (s.setCore k (c.setStream a { t with run := t.run + 1, pos := 0 }))
        else if d.sparse then s.sparseStep k a t d
        else s.denseStep k a t d

/-- A stream in progress sends all it may. -/
def State.accRun (s : State) (k : SiteId) (a : Nat) : Nat → State
  | 0 => s
  | n + 1 => match s.accStep k a with
    | some s' => s'.accRun k a n
    | none => s

/-- Release tokens for the slots of joined streams that consumers have passed since the last (R104, R206). -/
def State.mcFree (s : State) (k : SiteId) (a : Nat) : State :=
  let x := (s.core k).acc_ a
  let pass := x.taken / 64
  (x.joins.foldl (fun (s : State) (j : Join) =>
    let n := min pass j.stop - j.freed
    if n = 0 then s
    else
      let c := s.core k
      let y := c.acc_ a
      let f := Tbl.get 0 y.freed j.group + n
      let y := { y with freed := Tbl.set 0 y.freed j.group f
                        joins := (y.joins.map fun i => if i = j then { j with freed := j.freed + n } else i).filter
                          fun i => decide (i.freed < i.stop) }
      (s.setCore k (c.setAcc a y)).injectC k .loc
        (mkC 5 0 c.net.epoch (j.group % 1024) (j.group / 1024) (f % 65536) 0)) s)

/-- The oldest send operation with packets to send. -/
def Core.sending (c : Core) : Option Op := (c.engine 4).run.find? fun o => o.left != []

/-- An operation of an engine changed, found by its number. -/
def Core.mapOp (c : Core) (eng seq : Nat) (f : Op → Op) : Core :=
  let e := c.engine eng
  c.setEngine eng { e with run := e.run.map fun o => if o.seq = seq then f o else o }

/-- The send engine injects the next packet of an operation in progress; requests that are answered enter the
retransmit buffer, which holds 32 (R198). -/
def State.sendStep (s : State) (k : SiteId) : Option State :=
  let c := s.core k
  match c.sending with
  | none => none
  | some o =>
    match o.left with
    | [] => none
    | p :: ps =>
      let acked := p.type != tMC_WR
      if (acked && decide (32 ≤ c.net.rtx.length)) || !(s.mayInject k p.dest p.plane) then none
      else
        let (s, q, ord) := s.newRequest k p.plane p.dest p.type p.gen p.tag p.bytes.toNat p.payload
        let c := (s.core k).mapOp 4 o.seq fun o => { o with left := ps, unacked := o.unacked + acked.toNat }
        let r : Rtx := { pkt := q, ord := ord, op := o.seq, attempts := 1, held := false, gap := false }
        let c := if acked then { c with net := { c.net with rtx := c.net.rtx ++ [r] } } else c
        some ((s.setCore k c).enter k q)

/-- The send engine injects all it may. -/
def State.sendRun (s : State) (k : SiteId) : Nat → State
  | 0 => s
  | n + 1 => match s.sendStep k with
    | some s' => s'.sendRun k n
    | none => s

/-- Everything a core's engines may send now is sent. -/
def State.pump (s : State) (k : SiteId) : State :=
  ((((s.mcFree k 0).mcFree k 1).accRun k 0 4096).accRun k 1 4096).sendRun k 4096

end Sys2Proof.Machine
end

