-- ==== Sys2Proof/Machine/Tensor.lean ====
section
/-!
DEFINITION. The tensor unit: weight tiles, 2:4 form, multiply and accumulate (R82-R89, R257-R260).
-/

namespace Sys2Proof.Machine

/-- The weight formats of R82. -/
def isWeightFmt : Format → Bool
  | .fp32 => false
  | .e8m0 => false
  | _ => true

/-- The weight formats that may be sparse (R82). -/
def isSparseFmt : Format → Bool
  | .mxfp4 => true
  | .e4m3 => true
  | .e5m2 => true
  | .mxE4m3 => true
  | .mxE5m2 => true
  | _ => false

/-- The six formats of the FP8 mode (R82). -/
def isFp8Mode : Format → Bool
  | .e4m3 => true
  | .e5m2 => true
  | .mxE4m3 => true
  | .mxE5m2 => true
  | .mxE3m2 => true
  | .mxE2m3 => true
  | _ => false

/-- K_P of a pair of weight and activation formats; none for a pair R82 does not list. -/
def pairKP (w a : Format) (sparse : Bool) : Option Nat :=
  match w with
  | .mxfp4 => if a = .mxfp4 then some (if sparse then 32 else 16) else none
  | .t2 => if a = .e4m3 ∨ a = .e5m2 ∨ a = .mxE4m3 ∨ a = .mxE5m2 then some 32 else none
  | .int8 => if a = .int8 then some 8 else none
  | .mxint8 => if a = .mxint8 then some 8 else none
  | .bf16 => if a = .bf16 then some 2 else none
  | .fp16 => if a = .fp16 then some 2 else none
  | w => if isFp8Mode w ∧ isFp8Mode a then some (if sparse then 16 else 8) else none

/-- A length rounded up to a multiple of 16. -/
def up16 (n : Nat) : Nat := (n + 15) / 16 * 16

/-- Packed bytes of a row or column of 32 × (KB + 1) elements (R47, R89). -/
def packedLen (f : Format) (kb : Nat) : Nat := 4 * (kb + 1) * f.bits

/-- Padded length of a 2:4 column (R257). -/
def sparseLen (f : Format) (kb : Nat) : Nat := up16 ((2 * f.bits + 4) * (kb + 1))

/-- Bytes of a weight column as stored. -/
def columnLen (f : Format) (sparse : Bool) (kb : Nat) : Nat :=
  if sparse then sparseLen f kb else packedLen f kb

/-- Scale bytes of one row or column: one per block, one TSCALE for the whole operand, or none (R83, R89). -/
def scaleLen (f : Format) (kb : Nat) : Nat :=
  match f.scaling with
  | .block => kb + 1
  | .tile => 1
  | .none => 0

/-- The reserved fields of a tensor descriptor are 0 (R89). -/
def tensorRsv (o : Op) : Bool :=
  opFld o 0 22 10 == 0 && opFld o 4 7 1 == 0 && opFld o 4 14 2 == 0 && opFld o 4 18 14 == 0
    && opFld o 0x18 0 32 == 0 && opFld o 0x1C 0 32 == 0

/-- The operand pieces of a WLOAD or TMM: its elements when local, and its scales. -/
def Core.tensorSegs (c : Core) (o : Op) (f : Format) (rows len : Nat) :
    Option (List (Nat × Nat) × List (Nat × Nat)) :=
  let kb := opFld o 4 16 2
  let n := scaleLen f kb
  let elems := if opFld o 0 20 2 = 0 then c.opSegs (opFld o 8 0 32) rows (opFld o 0x10 0 32) len else some []
  let scales := match f.scaling with
    | .block => c.opSegs (opFld o 0xC 0 32) rows (opFld o 0x14 0 32) n
    | .tile => c.opSegs (opFld o 0xC 0 32) 1 0 1
    | .none => some []
  match elems, scales with
  | some e, some q => some (e, q)
  | _, _ => none

/-- The banks the row path of a WLOAD or TMM reads: its elements or its landing window, and for a WLOAD its
scales (R145). -/
def Core.tensorRowBanks (c : Core) (o : Op) : BitVec 4 :=
  match Format.ofCode (opFld o 0 8 8) with
  | none => 0
  | some f =>
    let load := opFld o 0 0 8 == 1
    let kb := opFld o 4 16 2
    let rows := if load then 16 else opFld o 4 0 7
    let len := if load then columnLen f (opFld o 0 16 1 == 1) kb else packedLen f kb
    let sel := opFld o 0 20 2
    let land : BitVec 4 := if sel = 1 ∨ sel = 2 then 1 <<< winBank (c.landW (sel - 1)) else 0
    match c.tensorSegs o f rows len with
    | none => 0
    | some (e, q) => segBanks e ||| land ||| (if load then segBanks q else 0)

/-- The stride rule of R89: a multiple of 16, at least the packed length, exactly its rounding from a stream. -/
def strideOk (o : Op) (len : Nat) : Bool :=
  let st := opFld o 0x10 0 32
  let sel := opFld o 0 20 2
  st % 16 == 0 && decide (len ≤ st) && (!(sel == 1 || sel == 2) || st == up16 len)

/-- What stands against a WLOAD or a TMM's operands at dispatch (R80, R89, R144, R145). -/
def Core.operandCheck (c : Core) (o : Op) (f : Format) (rows len : Nat) : Check :=
  let sel := opFld o 0 20 2
  let land : BitVec 4 := if sel = 1 ∨ sel = 2 then 1 <<< winBank (c.landW (sel - 1)) else 0
  let other := (c.engine 0).run.filter fun x => !x.finished && opFld x 0 0 8 != opFld o 0 0 8 && opFld x 0 0 8 != 3
  if (sel ≠ 0 ∧ opFld o 8 0 32 ≠ 0) ∨ !(strideOk o len) then descFault
  else if f.scaling ≠ .block ∧ opFld o 0x14 0 32 ≠ 0 then descFault
  else if f.scaling = .none ∧ opFld o 0xC 0 32 ≠ 0 then descFault
  else match c.tensorSegs o f rows len with
    | none => descFault
    | some (e, q) =>
      if !(c.owns 1 (segBanks e ||| segBanks q ||| land)) then descFault
      else if other.any fun x => (c.tensorRowBanks x &&& c.tensorRowBanks o) ≠ 0 then descFault
      else none

/-- What stands against a WLOAD at dispatch (R80, R82, R89). -/
def Core.wloadCheck (c : Core) (o : Op) : Check :=
  let kb := opFld o 4 16 2
  let sparse := opFld o 0 16 1 == 1
  if !(tensorRsv o) ∨ opFld o 0 17 3 ≠ 0 ∨ opFld o 4 0 14 ≠ 0 ∨ opFld o 0 20 2 = 3 then descFault
  else match Format.ofCode (opFld o 0 8 8) with
    | none => numFault
    | some f =>
      if !(isWeightFmt f) ∨ (sparse ∧ !(isSparseFmt f)) then numFault
      else c.operandCheck o f 16 (columnLen f sparse kb)

/-- A list cut into pieces of `n`. -/
def cut (n : Nat) : Nat → List Byte → List (List Byte)
  | 0, _ => []
  | m + 1, b => b.take n :: cut n m (b.drop n)

/-- The K codes of a column as stored: a 2:4 column spread out, a second value at a repeated index dropped
(R257, R260). -/
def tileCodes (f : Format) (sparse : Bool) (kb : Nat) (col : List Byte) : List Nat :=
  let k := 32 * (kb + 1)
  if !sparse then unpack f.bits k col
  else
    let vals := unpack f.bits (k / 2) col
    let meta_ := unpack 4 (k / 4) (col.drop (2 * f.bits * (kb + 1)))
    (List.range k).map fun p =>
      let g := p / 4
      let nib := meta_.getD g 0
      if p % 4 = nib % 4 then vals.getD (2 * g) 0
      else if p % 4 = nib / 4 then vals.getD (2 * g + 1) 0
      else 0

/-- The 2:4 groups of a column whose indices repeat (R260). -/
def badGroups (f : Format) (kb : Nat) (col : List Byte) : Nat :=
  (unpack 4 (8 * (kb + 1)) (col.drop (2 * f.bits * (kb + 1)))).countP fun nib => nib % 4 == nib / 4

/-- The 4 × 4 blocks of a tile with more than two non-zero weights in one K position (R259). -/
def badBlocks (f : Format) (kb : Nat) (cols : List (List Nat)) : Nat :=
  ((List.range (8 * (kb + 1))).map fun kg => (List.range 4).countP fun ng =>
    (List.range 4).any fun i =>
      decide (2 < (List.range 4).countP fun j => !((f.elem ((cols.getD (4 * ng + j) []).getD (4 * kg + i) 0)).isZero))).sum

/-- The scales of a tile's columns as read. -/
def splitScales (f : Format) (kb n : Nat) (b : List Byte) : List (List Byte) :=
  match f.scaling with
  | .block => cut (kb + 1) n b
  | .tile => List.replicate n b
  | .none => List.replicate n []

/-- The elements a WLOAD or TMM takes: local pieces, a landing stream, each run cut to its packed length. -/
def Core.takeElems (c : Core) (o : Op) (segs : List (Nat × Nat)) (rows len : Nat) :
    Core × Option (List (List Byte)) :=
  let sel := opFld o 0 20 2
  let st := opFld o 0x10 0 32
  if sel = 0 then
    let (c, r) := c.readSegs 0 segs
    (c, r.map fun b => cut len rows b)
  else if sel = 3 then
    let (b, l) := (List.range rows).foldl (fun (a : List (List Byte) × DWord) _ =>
      let (w, l) := lfsrWords ((len + 7) / 8) a.2
      (a.1 ++ [w.take len], l)) ([], c.checker.lfsr)
    ({ c with checker := { c.checker with lfsr := l } }, some b)
  else
    let (c, r) := c.takeLand (sel - 1) (rows * st)
    (c, r.map fun b => (cut st rows b).map fun x => x.take len)

/-- Whether a tensor operation's stream bytes are readable: enough of them, and its turn (R78, R87, R88). -/
def Core.elemsReady (c : Core) (o : Op) (rows : Nat) : Bool :=
  let sel := opFld o 0 20 2
  if sel = 1 ∨ sel = 2 then c.streamTurn sel o && c.landHas (sel - 1) (rows * opFld o 0x10 0 32) else true

/-- The banks an operation holds from dispatch to completion (R144). -/
def Core.tensorBanks (c : Core) (o : Op) (f : Format) (rows len : Nat) : BitVec 4 :=
  let sel := opFld o 0 20 2
  let land : BitVec 4 := if sel = 1 ∨ sel = 2 then 1 <<< winBank (c.landW (sel - 1)) else 0
  match c.tensorSegs o f rows len with
  | none => land
  | some (e, q) => segBanks e ||| segBanks q ||| land

/-- A WLOAD that passes its checks fills the tile being loaded (R83, R88, R257-R260). -/
def Core.wloadRun (c : Core) (o : Op) (f : Format) : Core × Option Tile :=
  let kb := opFld o 4 16 2
  let sparse := opFld o 0 16 1 == 1
  let len := columnLen f sparse kb
  match c.tensorSegs o f 16 len with
  | none => (c, none)
  | some (e, q) =>
    let (c, cols) := c.takeElems o e 16 len
    let (c, sc) := c.readSegs 0 q
    match cols, sc with
    | some cols, some sc =>
      let codes := cols.map fun x => tileCodes f sparse kb x
      let c := if sparse then
          (c.bump 0x100C04 ((cols.map fun x => badGroups f kb x).sum)).bump 0x100C08 (badBlocks f kb codes)
        else c
      let c := if f = .t2 then c.bump 0x100228 ((codes.map fun x => x.countP (· == 2)).sum) else c
      (c, some { fmt := BitVec.ofNat 8 (opFld o 0 8 8), sparse := sparse, kb := kb, cols := cols
                 scales := splitScales f kb 16 sc })
    | _, _ => (c, none)

/-- A WLOAD in the load pipe. -/
def Core.loadBusy (c : Core) : Bool := (c.engine 0).run.any fun o => !o.finished && opFld o 0 0 8 == 1

/-- Whether a head operation of the tensor unit has an opcode none of its commands names (R80). -/
def Core.tensorUnknown (c : Core) : Option Op :=
  match (c.engine 0).queue with
  | o :: _ => if [1, 2, 3].contains (opFld o 0 0 8) then none else some o
  | [] => none

/-- A fault of an engine's head operation (R80, R81). -/
def State.headFault (s : State) (k : SiteId) (eng : Nat) (o : Op) (f : Nat × Byte) : State :=
  s.engineFault k eng f.1 f.2 o.off

/-- A WLOAD dispatches once it heads the queue, the load pipe is free and its stream bytes have landed. -/
def wload (k : SiteId) (s : State) : State :=
  let c := s.core k
  match c.tensorUnknown, c.headOp 0 [1] with
  | some o, _ => s.headFault k 0 o (2, 0)
  | none, none => s
  | none, some o =>
    if c.loadBusy then s
    else match c.wloadCheck o with
      | some f => s.headFault k 0 o f
      | none =>
        if !(c.elemsReady o 16) then s
        else match Format.ofCode (opFld o 0 8 8) with
          | none => s
          | some f =>
            let banks := c.tensorBanks o f 16 (columnLen f (opFld o 0 16 1 == 1) (opFld o 4 16 2))
            let (c, t) := c.wloadRun o f
            match t with
            | none => (s.putCore k c).headFault k 0 o (3, rUNCORR)
            | some t =>
              (s.putCore k ({ c with loading := some t, shadow := none }.dispatch 0 { o with banks := banks })).pump k

/-- The first executing operation of an engine that has not finished and satisfies a test. -/
def Core.firstRunning (c : Core) (eng : Nat) (p : Op → Bool) : Option Op :=
  (c.engine eng).run.find? fun o => !o.finished && p o

/-- The WLOAD in the load pipe completes: the shadow tile becomes valid (R84). -/
def wloadComplete (k : SiteId) (s : State) : State :=
  let c := s.core k
  match c.firstRunning 0 (fun o => opFld o 0 0 8 == 1) with
  | none => s
  | some o =>
    (s.putCore k (({ c with shadow := c.loading, loading := none }.finishOp 0 o.seq).progress)).checkDone k

/-- An accumulator row (R85). -/
def Core.accRow (c : Core) (r : Nat) : AccRow := Tbl.get AccRow.zero c.acc r

/-- A core with an accumulator row set. -/
def Core.setAccRow (c : Core) (r : Nat) (x : AccRow) : Core := { c with acc := Tbl.set AccRow.zero c.acc r x }

/-- The scale byte of a chunk of a row or column; 127, a factor of 1, where the format is not scaled. -/
def chunkScale (f : Format) (scales : List Byte) (ch : Nat) : Nat :=
  match f.scaling with
  | .block => (scales.getD ch 0).toNat
  | .tile => (scales.getD 0 0).toNat
  | .none => 127

/-- The values of a chunk: NaN under a scale of 0xFF (R46, R52). -/
def chunkVals (f : Format) (scale : Nat) (codes : List Nat) (ch : Nat) : List Val :=
  ((codes.drop (32 * ch)).take 32).map fun x => if scale = 0xFF then Val.nan else f.elem x

/-- One row of activations against one column of weights in a FLOAT row (R67, R86). -/
def floatCell (wf af : Format) (kb : Nat) (acc : Word) (a : List Nat) (asc : List Byte) (w : List Nat)
    (wsc : List Byte) : Word :=
  (List.range (kb + 1)).foldl (fun acc ch =>
    let sa := chunkScale af asc ch
    let sw := chunkScale wf wsc ch
    chunkAcc acc (List.zipWith Val.mul (chunkVals af sa a ch) (chunkVals wf sw w ch))
      ((sa : Int) - 127 + ((sw : Int) - 127))) acc

/-- The exact sum of a chunk's integer products (R68). -/
def intSum (a w : List Nat) (ch : Nat) : Int :=
  (List.zipWith (fun x y => sgn 8 x * sgn 8 y) ((a.drop (32 * ch)).take 32) ((w.drop (32 * ch)).take 32)).foldl
    (· + ·) 0

/-- An MXINT8 chunk aligned to its row's exponent and kept to 32 bits: the value and whether it saturated
(R85). -/
def alignInt (s : Int) (d : Int) : Int × Bool :=
  if 0 ≤ d then
    let v := s * 2 ^ d.toNat
    let y := clampI (-(2 ^ 31)) (2 ^ 31 - 1) v
    (y, decide (y ≠ v))
  else (Int.tdiv s (2 ^ (-d).toNat), false)

/-- One row of activations against one column of weights in an INT row, and how often it saturated (R68,
R85). -/
def intCell (f : Format) (kb : Nat) (rowExp : Int) (acc : Word) (a : List Nat) (asc : List Byte) (w : List Nat)
    (wsc : List Byte) : Word × Nat :=
  (List.range (kb + 1)).foldl (fun (x : Word × Nat) ch =>
    let s := intSum a w ch
    let e : Int := (chunkScale f asc ch : Int) - 127 + ((chunkScale f wsc ch : Int) - 127) - 12
    let v := if f = .mxint8 then alignInt s (e - rowExp) else (s, false)
    let y := satAdd32 x.1 v.1
    (y.1, x.2 + v.2.toNat + y.2.toNat)) (acc, 0)

/-- The combined exponent a TMM that starts a row gives it (R85). -/
def rowExpOf (f : Format) (asc wsc : List Byte) : Int :=
  (chunkScale f asc 0 : Int) - 127 + ((chunkScale f wsc 0 : Int) - 127) - (if f = .mxint8 then 12 else 0)

/-- A row of an INT mode whose scales hold 0xFF, which an INT row cannot carry (R85). -/
def poisoned (f : Format) (kb : Nat) (scales : List Byte) : Bool :=
  (List.range (kb + 1)).any fun ch => chunkScale f scales ch == 0xFF

/-- The row of the accumulator after a TMM has gone over it, and the saturations counted (R86). -/
def tmmRow (wf af : Format) (kb : Nat) (keep : Bool) (old : AccRow) (a : List Nat) (asc : List Byte)
    (ws : List (List Nat)) (wscs : List (List Byte)) : AccRow × Nat :=
  let int := af == .int8 || af == .mxint8
  let start : AccRow := if keep then old
    else { int := int, exp := if int then rowExpOf af asc (wscs.getD 0 []) else 0, v := [] }
  (List.range 16).foldl (fun (x : AccRow × Nat) n =>
    let cur := Tbl.get 0 start.v n
    let w := ws.getD n []
    let wsc := wscs.getD n []
    if int then
      let y := intCell af kb start.exp cur a asc w wsc
      ({ x.1 with v := Tbl.set 0 x.1.v n y.1 }, x.2 + y.2)
    else ({ x.1 with v := Tbl.set 0 x.1.v n (floatCell wf af kb cur a asc w wsc) }, x.2)) (start, 0)

/-- The tiles as they stand once a TMM's SWAP has acted (R83). -/
def swapped (c : Core) (o : Op) : Option Tile × Option Tile :=
  if opFld o 0 17 1 = 1 then (c.shadow, c.active) else (c.active, c.shadow)

/-- What stands against a TMM at dispatch (R80, R82, R84, R85, R89). -/
def Core.tmmCheck (c : Core) (o : Op) : Check :=
  let kb := opFld o 4 16 2
  let rows := opFld o 4 0 7
  if !(tensorRsv o) ∨ opFld o 0 16 1 ≠ 0 ∨ opFld o 0 18 2 > 1 ∨ rows = 0 ∨ rows > 64
      ∨ opFld o 4 8 6 + rows > 64 then descFault
  else match Format.ofCode (opFld o 0 8 8) with
    | none => numFault
    | some af =>
      match (swapped c o).1 with
      | none => descFault
      | some t =>
        if t.kb ≠ kb then descFault
        else match Format.ofCode t.fmt.toNat with
          | none => numFault
          | some wf =>
            if pairKP wf af t.sparse = none then numFault
            else c.operandCheck o af rows (packedLen af kb)

/-- What stands against a TMM's rows once its scales are known: kinds and exponents under KEEP (R85). -/
def Core.rowCheck (c : Core) (o : Op) (af : Format) (ascs wscs : List (List Byte)) : Check :=
  let int := af == .int8 || af == .mxint8
  let keep := opFld o 0 18 2 == 0
  if keep ∧ (List.range (opFld o 4 0 7)).any fun i =>
      let x := c.accRow (opFld o 4 8 6 + i)
      x.int != int || (af == .int8 && x.exp != rowExpOf af (ascs.getD i []) (wscs.getD 0 []))
  then numFault else none

/-- The rows of a TMM gone over in order, up to the first whose scales are poisoned: the core, the saturations,
and whether one was met. -/
def Core.tmmRows (c : Core) (o : Op) (wf af : Format) (kb : Nat) (ws : List (List Nat)) (wscs : List (List Byte)) :
    Nat → List (List Nat × List Byte) → Core × Nat × Bool
  | _, [] => (c, 0, false)
  | r, (a, asc) :: rest =>
    let int := af == .int8 || af == .mxint8
    if int && (poisoned af kb asc || wscs.any fun q => poisoned af kb q) then (c, 0, true)
    else
      let x := tmmRow wf af kb (opFld o 0 18 2 == 0) (c.accRow r) a asc ws wscs
      let y := (c.setAccRow r x.1).tmmRows o wf af kb ws wscs (r + 1) rest
      (y.1, x.2 + y.2.1, y.2.2)

/-- A TMM that passes its checks reads its rows and accumulates them; the fault it meets on the way, if any
(R85-R87). -/
def Core.tmmRun (c : Core) (o : Op) (wf af : Format) (t : Tile) : Core × Check :=
  let kb := opFld o 4 16 2
  let rows := opFld o 4 0 7
  let len := packedLen af kb
  match c.tensorSegs o af rows len with
  | none => (c, descFault)
  | some (e, q) =>
    let (c, el) := c.takeElems o e rows len
    let (c, sc) := c.readSegs 1 q
    match el, sc with
    | some el, some sc =>
      let ascs := splitScales af kb rows sc
      match c.rowCheck o af ascs t.scales with
      | some f => (c, some f)
      | none =>
        let ws := t.cols.map fun x => tileCodes wf t.sparse kb x
        let as_ := (el.map fun x => unpack af.bits (32 * (kb + 1)) x).zip ascs
        let (c, sat, bad) := c.tmmRows o wf af kb ws t.scales (opFld o 4 8 6) as_
        let c := c.bump 0x100220 sat
        if bad then (c.bump 0x100224 1, numFault) else (c, none)
    | _, _ => (c, fetchFault rUNCORR)

/-- Multiply-pipe cycles of a TMM (R87). -/
def tmmCycles (rows kb kp : Nat) : Nat := rows * 32 * (kb + 1) / kp

/-- A TMM dispatches: its interlocks hold, its bytes have landed, tiles swap, its rows accumulate (R78, R84,
R87). -/
def tmm (k : SiteId) (s : State) : State :=
  let c := s.core k
  match c.tensorUnknown, c.headOp 0 [2] with
  | some o, _ => s.headFault k 0 o (2, 0)
  | none, none => s
  | none, some o =>
    if (opFld o 0 17 1 = 1 ∧ c.loadBusy) ∨ !(c.rowsFree 0 o) then s
    else match c.tmmCheck o with
      | some f => s.headFault k 0 o f
      | none =>
        match Format.ofCode (opFld o 0 8 8), (swapped c o).1 with
        | some af, some t =>
          match Format.ofCode t.fmt.toNat with
          | none => s
          | some wf =>
            let rows := opFld o 4 0 7
            let kb := opFld o 4 16 2
            if !(c.elemsReady o rows) then s
            else
              let banks := c.tensorBanks o af rows (packedLen af kb)
              let c := { c with active := (swapped c o).1, shadow := (swapped c o).2 }
              let (c, f) := c.tmmRun o wf af t
              match f with
              | some f => (s.putCore k c).headFault k 0 o f
              | none =>
                let kp := (pairKP wf af t.sparse).getD 1
                (s.putCore k ((c.add64 0x100320 (tmmCycles rows kb kp)).dispatch 0 { o with banks := banks })).pump k
        | _, _ => s

/-- The oldest TMM in the multiply pipe completes (R87). -/
def tmmComplete (k : SiteId) (s : State) : State :=
  let c := s.core k
  match c.firstRunning 0 (fun o => opFld o 0 0 8 == 2) with
  | none => s
  | some o => (s.putCore k (((c.finishOp 0 o.seq).chkLate).progress)).checkDone k

/-- What stands against an AZERO: it uses only OPC, ROWS and ACC_BASE (R89). -/
def azeroCheck (o : Op) : Check :=
  let rows := opFld o 4 0 7
  let used := (3 : Nat) + (rows <<< 32) + (opFld o 4 8 6 <<< 40)
  if o.desc.toNat ≠ used ∨ rows = 0 ∨ rows > 64 ∨ opFld o 4 8 6 + rows > 64 then descFault else none

/-- An AZERO zeroes its rows in one multiply-pipe cycle (R85, R87). -/
def azero (k : SiteId) (s : State) : State :=
  let c := s.core k
  match c.tensorUnknown, c.headOp 0 [3] with
  | some o, _ => s.headFault k 0 o (2, 0)
  | none, none => s
  | none, some o =>
    if !(c.rowsFree 0 o) then s
    else match azeroCheck o with
      | some f => s.headFault k 0 o f
      | none =>
        let c := (List.range (opFld o 4 0 7)).foldl (fun (c : Core) i => c.setAccRow (opFld o 4 8 6 + i) AccRow.zero) c
        let c := ((c.add64 0x100320 1).dispatch 0 { o with finished := true }).retireOps 0
        (s.putCore k c.progress).checkDone k

/-- WLOAD (R88). -/
def execWload (k : SiteId) (s : State) : Res := .next (wload k s)

/-- WLOAD_COMPLETE (R84). -/
def execWloadComplete (k : SiteId) (s : State) : Res := .next (wloadComplete k s)

/-- TMM (R87). -/
def execTmm (k : SiteId) (s : State) : Res := .next (tmm k s)

/-- TMM_COMPLETE (R87). -/
def execTmmComplete (k : SiteId) (s : State) : Res := .next (tmmComplete k s)

/-- AZERO (R87). -/
def execAzero (k : SiteId) (s : State) : Res := .next (azero k s)

end Sys2Proof.Machine
end

