-- ==== Sys2Proof/Machine/Access.lean ====
section
/-!
DEFINITION. The access engines and the predictor: streams, multicast intake, predicted rows (R98-R105, R252-R254,
R261-R265).
-/

namespace Sys2Proof.Machine

/-- What stands against a stream descriptor at dispatch (R80, R98, R101, R254). -/
def Core.streamOk (c : Core) (a : Nat) (sched : Bool) (d : SDesc) : Bool :=
  decide (1 ≤ d.opc) && decide (d.opc ≤ 3) && !d.rsv && decide (64 ≤ d.run) && d.run % 64 == 0
    && decide (d.run ≤ 65472) && d.src.toNat % 64 == 0 && d.st1 % 64 == 0 && d.st2 % 64 == 0
    && d.count1 != 0 && d.count2 != 0 && (d.opc == 1 || (!d.sparse && !d.pred)) && (d.opc != 1 || d.group == 0)
    && (d.pred || d.mask == 0) && (d.opc != 3 || (d.src == 0 && d.st1 == 0 && d.st2 == 0))
    && c.landOk a && c.landApart && !(d.pred && sched)

/-- The program's fields of a predictor block (R261). -/
structure PBlock where
  w0     : Nat
  nbits  : Nat
  thresh : Int
  zoff   : Nat
  poff   : Nat
  toff   : Nat
  reqs   : Nat
  deriving DecidableEq, Repr

/-- The first 64 bytes of a predictor block, if its fixed fields and offsets stand as R262 asks for a stream of
`runs` runs at block offset `m`. -/
def pblock (m runs : Nat) (b : List Byte) : Option PBlock :=
  let w0 := leAt b 0 4
  let w1 := leAt b 4 4
  let w2 := leAt b 8 4
  let n := fld w1 0 13
  let z := leAt b 0x10 4
  let p := leAt b 0x14 4
  let t := leAt b 0x18 4
  let kind := fld w0 13 2
  let w := if kind = 1 then 2 else if kind = 2 then 4 else 1
  if fld w0 0 8 = 1 ∧ fld w0 15 1 = 0 ∧ fld w1 13 3 = 0 ∧ fld w2 13 3 = 0 ∧ fld w2 29 3 = 0 ∧ z < 2 ^ 18 ∧ p < 2 ^ 18
      ∧ t < 2 ^ 18 ∧ leAt b 0x1C 0x24 = 0 ∧ 1 ≤ n ∧ n ≤ 4096 ∧ z % 32 = 0 ∧ p % 16 = 0 ∧ t % w = 0
      ∧ p + 16 * n ≤ 0x40000 ∧ t + w * n ≤ 0x40000 ∧ m + 0x40 + 128 * ((n + 511) / 512) ≤ 0x40000 ∧ runs = n then
    some { w0 := w0, nbits := n, thresh := sgn 16 (fld w1 16 16), zoff := z, poff := p, toff := t
           reqs := leAt b 0xC 4 }
  else none

/-- A bitmap of `n` bits, padded with zeros to whole 64-byte lines (R261). -/
def bitmap (n : Nat) (f : Nat → Bool) : List Byte :=
  leBytes (64 * ((n + 511) / 512)) (((List.range n).map fun i => if f i then 2 ^ i else 0).sum)

/-- Bit `i` of a bitmap. -/
def bitAt (b : List Byte) (i : Nat) : Bool := ((b.getD (i / 8) 0).toNat).testBit (i % 8)

/-- Whether a truth element is active (R265). -/
def truthActive (kind : Nat) (b : List Byte) (i : Nat) : Bool :=
  match kind with
  | 0 => leAt b i 1 % 0x80 != 0
  | 1 => leAt b (2 * i) 2 % 0x8000 != 0
  | 2 => leAt b (4 * i) 4 % 0x80000000 != 0
  | _ => leAt b i 1 != 0

/-- The bytes of a truth element (R261). -/
def truthWidth (kind : Nat) : Nat := if kind = 1 then 2 else if kind = 2 then 4 else 1

/-- Whether the prediction selects row `i`: the exact sum of P's row with z against the threshold (R262). -/
def selects (p : PBlock) (z rows : List Byte) (i : Nat) : Bool :=
  let ps := unpack 4 32 (slice rows (16 * i) 16)
  let s := (List.zipWith (fun a (b : Byte) => sgn 4 a * sgn 8 b.toNat) ps z).foldl (· + ·) 0
  decide (p.thresh ≤ s)

/-- What the predictor's work at a dispatch gives: the FETCH bitmap, or a fault, or a wait for a bank. -/
inductive Pred where
  | fetch (b : List Byte)
  | stop (f : Nat × Byte)
  | wait
  deriving DecidableEq, Repr

/-- The comparison of an audited prediction with the truth (R265). -/
def Core.auditCompare (c : Core) (p : PBlock) (pred truth : List Byte) : Core :=
  let kind := fld p.w0 13 2
  let act := fun i => truthActive kind truth i
  let ix := List.range p.nbits
  (((c.bump 0x100C10 1).bump 0x100C14 (ix.countP act)).bump 0x100C18 (ix.countP fun i => act i && !bitAt pred i)).bump
    0x100C1C (ix.countP fun i => bitAt pred i && !act i)

/-- A new prediction: PRED, whether it is audited, and the block's first words with it (R262). -/
def predict (p : PBlock) (z rows : List Byte) : List Byte × Bool :=
  let audit := fld p.w0 12 1 == 1 && p.reqs % (fld p.w0 16 16 + 1) == 0
  (bitmap p.nbits (selects p z rows), audit)

/-- Banks the predictor needs awake that are not: it asks for them and waits (R151). -/
def Core.wakeFor (c : Core) (segs : List (Nat × Nat)) : Core × Bool :=
  let m := segBanks segs
  let asleep := (List.range 4).filter fun b => m.getLsbD b && !c.bankUp b
  (asleep.foldl (fun c b => c.wakeBank b) c, !asleep.isEmpty)

/-- A read of the prediction block that only some states of the block ask for (R262, R265). -/
def Core.predictRead (c : Core) (b : Bool) (a n : Nat) : Core × Option (List Byte) :=
  if b then c.sramRead 2 a n else (c, some [])

/-- The prediction that a request asked for, written to the block with its marks and counts (R262, R265). -/
def Core.predictLand (c : Core) (m : Nat) (p : PBlock) (b zb rb : List Byte) : Core × Pred :=
  let (pr, audit) := predict p zb rb
  let fe := if audit then bitmap p.nbits fun _ => true else pr
  let ones (x : List Byte) : Nat := (List.range p.nbits).countP fun i => bitAt x i
  let w0 := setBit (setBit (setBit (setFld (BitVec.ofNat 32 p.w0) 9 1 0) 8 false) 10 true) 11 audit
  let head := leBytes 4 (leAt b 4 4) ++ leBytes 4 (ones fe + (ones pr <<< 16)) ++ leBytes 4 (p.reqs + 1)
  let c := (c.sramWrite 2 (m + 0x40) (fe ++ pr)).1
  let c := (c.sramWrite 2 (m + 4) head).1
  let c := (c.sramWrite 2 m (leBytes 4 w0.toNat)).1
  (c.bump 0x100C0C 1, .fetch fe)

/-- The mark of a verified block taken back (R265). -/
def Core.predictMark (c : Core) (verify : Bool) (m : Nat) (p : PBlock) : Core :=
  if verify then (c.sramWrite 2 m (leBytes 4 (setFld (BitVec.ofNat 32 p.w0) 9 1 0).toNat)).1 else c

/-- The predictor's work when a PRED stream dispatches (R262, R265). -/
def Core.predictAt (c : Core) (m runs : Nat) : Core × Pred :=
  let (c, asleep) := c.wakeFor [(m, 64)]
  if asleep then (c, .wait)
  else
    let (c, b) := c.sramRead 2 m 64
    match b with
    | none => (c, .stop (3, rUNCORR))
    | some b =>
      match pblock m runs b with
      | none => (c, .stop (2, 0))
      | some p =>
        let lines := 64 * ((p.nbits + 511) / 512)
        let tw := truthWidth (fld p.w0 13 2)
        let verify := fld p.w0 9 1 == 1
        let req := fld p.w0 8 1 == 1
        let cmp := verify && fld p.w0 11 1 == 1
        let segs := [(m, 0x40 + 2 * lines)] ++ (if cmp then [(p.toff, tw * p.nbits)] else [])
          ++ (if req then [(p.zoff, 32), (p.poff, 16 * p.nbits)] else [])
        let (c, asleep) := c.wakeFor segs
        if asleep then (c, .wait)
        else
          let (c, fb) := c.sramRead 2 (m + 0x40) lines
          let (c, pb) := c.sramRead 2 (m + 0x40 + lines) lines
          let (c, tb) := c.predictRead cmp p.toff (tw * p.nbits)
          let (c, zb) := c.predictRead req p.zoff 32
          let (c, rb) := c.predictRead req p.poff (16 * p.nbits)
          match fb, pb, tb, zb, rb with
          | some fb, some pb, some tb, some zb, some rb =>
            let c := if cmp then c.auditCompare p pb tb else c
            if req then c.predictLand m p b zb rb
            else (c.predictMark verify m p, if fld p.w0 10 1 = 1 then .fetch fb else .stop (2, 0))
          | _, _, _, _, _ => (c, .stop (3, rUNCORR))

/-- An engine's stream begun: its slots are counted and a joined stream's kept for their release (R100, R104). -/
def Core.beginStream (c : Core) (a : Nat) (o : Op) (d : SDesc) (fetch : Option (List Byte)) : Core :=
  let x := c.acc_ a
  let runs := match fetch with
    | none => d.runs
    | some b => (List.range d.runs).countP fun i => bitAt b i
  let n := runs * d.slots
  let t : StreamSt := { op := o, run := 0, pos := 0, endSlot := (if d.opc = 2 then Tbl.get 0 x.mcSent d.group else x.sent) + n
                        hdrRun := 0, hdrSpan := 0, hdrs := [], fetch := fetch }
  let x := { x with cur := some t }
  let x := if d.opc = 3 then
      { x with sent := x.sent + n, joins := x.joins ++ [{ group := d.group, base := x.sent, freed := x.sent, stop := x.sent + n }] } else x
  (c.setAcc a x).dispatch (2 + a) o

/-- An access engine that is free dispatches its head operation of one of the opcodes given; one in progress
sends what it now may (R98, R101, R104, R262). -/
def accDispatch (opc : Nat) (k : SiteId) (a1 : Bool) (s : State) : State :=
  let a := a1.toNat
  let c := s.core k
  match (c.acc_ a).cur with
  | some t => if (sDesc t.op).opc = opc then s.pump k else s
  | none =>
    match (c.engine (2 + a)).queue with
    | [] => s
    | o :: _ =>
      let d := sDesc o
      if 1 ≤ d.opc ∧ d.opc ≤ 3 ∧ d.opc ≠ opc then s
      else if !(c.streamOk a (s.region c.rgnId).sched d) then s.headFault k (2 + a) o (2, 0)
      else if d.pred then
        match c.predictAt d.mask d.runs with
        | (c, .wait) => s.putCore k c
        | (c, .stop f) => (s.putCore k c).headFault k (2 + a) o f
        | (c, .fetch b) => (s.putCore k (c.beginStream a o d (some b))).pump k
      else (s.setCore k (c.beginStream a o d none)).pump k

/-- Whether a stream in progress has landed its last byte (R101). -/
def AccEng.streamDone (x : AccEng) (t : StreamSt) : Bool :=
  let d := sDesc t.op
  let sentAll := d.opc == 3 || (decide (d.runs ≤ t.run)
    || (List.range (d.runs - t.run)).all fun i => !(t.fetches (t.run + i)))
  sentAll && x.outs.isEmpty && t.op.left.isEmpty && (d.opc == 2 || decide (t.endSlot ≤ x.ready))

/-- A stream whose last byte has landed completes (R101). -/
def streamComplete (k : SiteId) (a1 : Bool) (s : State) : State :=
  let a := a1.toNat
  let c := s.core k
  let x := c.acc_ a
  match x.cur with
  | none => s
  | some t =>
    if x.streamDone t then
      (s.setCore k (((c.setAcc a { x with cur := none }).finishOp (2 + a) t.op.seq).progress)).checkDone k
    else s

/-- STREAM (R101). -/
def execStream (k : SiteId) (a1 : Bool) (s : State) : Res := .next (accDispatch 1 k a1 s)

/-- MC_LEAD (R104). -/
def execMcLead (k : SiteId) (a1 : Bool) (s : State) : Res := .next (accDispatch 2 k a1 s)

/-- MC_JOIN (R104). -/
def execMcJoin (k : SiteId) (a1 : Bool) (s : State) : Res := .next (accDispatch 3 k a1 s)

/-- STREAM_COMPLETE (R101). -/
def execStreamComplete (k : SiteId) (a1 : Bool) (s : State) : Res := .next (streamComplete k a1 s)

end Sys2Proof.Machine
end

