-- ==== Sys2Proof/Machine/Flags.lean ====
section
/-!
DEFINITION. Flags that are set and cleared by single bits: fast flags, pending events of contexts, overflow bits
of S32 counters, and the latches of W64 counters (R12, R13, R16, R130, R135).
-/

namespace Sys2Proof.Machine

/-- Fast flags set (R135). -/
def Core.setFlags (c : Core) (m : BitVec 16) : Core := { c with seqr := { c.seqr with flags := c.seqr.flags ||| m } }

/-- Fast flags cleared (R135). -/
def Core.clrFlags (c : Core) (m : BitVec 16) : Core :=
  { c with seqr := { c.seqr with flags := c.seqr.flags &&& ~~~m } }

/-- A fast flag as FTST and FWAIT see it, two cycles late (R135). -/
def Core.flagSeen (c : Core) (i : Nat) : Bool := c.seqr.flagsSeen.getLsbD i

/-- An event made pending in a context: 0 CH_CLOSED, 1 CMB_TIMEOUT, 2 MSG, 3 SW (R130). -/
def Core.pend (c : Core) (ctx ev : Nat) : Core :=
  let x := c.ctxAt ctx
  c.setCtx ctx { x with pend := x.pend ||| (1 <<< ev) }

/-- OVF bits of a core written 1: each clears itself and its counter; UE_OVF also frees MEM_UE_ADDR (R13,
R170). -/
def Core.ovfClear (c : Core) (off : Nat) (v : Word) : Core :=
  (List.range 7).foldl (fun (c : Core) b =>
    match coreCtrOf off b with
    | some ctr =>
      if wbit v b then
        let c := (c.setReg off (setBit (c.reg off) b false)).setReg ctr 0
        if ctr = 0x100484 then c.setReg 0x100494 (setBit (c.reg 0x100494) 31 false) else c
      else c
    | none => c) c

/-- The offsets of the low words of a core's W64 pairs (R73, R107, R136, R247, R266). -/
def coreW64 (off : Nat) : Bool :=
  [0x100020, 0x100028, 0x100320, 0x100328, 0x100620, 0x100630, 0x100C28, 0x100C30].contains off
    || (decide (0x100740 ≤ off) && decide (off < 0x100780) && off % 8 == 0)

/-- A latch taken: the high word kept for the next read of it (R16). -/
def Core.latchHigh (c : Core) (off : Nat) (v : DWord) : Core :=
  { c with latch := Tbl.set 0 c.latch off (BitVec.ofNat 32 (v.toNat >>> 32)) }

/-- FLAGS_SET_WRITE (R135). -/
def execFlagsSetWrite (k : SiteId) (v : Word) (s : State) : Res :=
  .next (s.modCore k fun c => c.setFlags (v.setWidth 16))

/-- FLAGS_CLR_WRITE (R135). -/
def execFlagsClrWrite (k : SiteId) (v : Word) (s : State) : Res :=
  .next (s.modCore k fun c => c.clrFlags (v.setWidth 16))

end Sys2Proof.Machine
end

