-- ==== Sys2Proof/Machine/CoreRegs.lean ====
section
/-!
DEFINITION. A core's offset space as its registers go: which offsets decode, what a read returns and does, what a
write does (R8, R9, R16, R37, R73, R107, R108, R136, R170, R212, R247, R266, R270, R280, R294).
-/

namespace Sys2Proof.Machine

/-- An offset lies in `n` words from `lo`. -/
def inWords (off lo n : Nat) : Bool := decide (lo ≤ off) && decide (off < lo + 4 * n)

/-- The word offsets of a core's registers, channels and combiners that decode (R37). -/
def coreDecoded (off : Nat) : Bool :=
  off % 4 == 0 && (
    inWords off 0x100000 17 || (inWords off 0x100100 64 && decide (off % 0x20 < 0xC))
    || inWords off 0x100200 5 || inWords off 0x100220 5
    || inWords off 0x100300 7 || inWords off 0x100320 6
    || off == 0x100400 || inWords off 0x100410 4 || inWords off 0x100440 16 || inWords off 0x100480 7
    || inWords off 0x1004A0 2
    || inWords off 0x100500 5 || inWords off 0x100520 8
    || inWords off 0x100600 21 || inWords off 0x100680 48 || inWords off 0x100740 16
    || inWords off 0x100800 128 || inWords off 0x100A00 64
    || inWords off 0x100B00 6 || inWords off 0x100C00 9 || inWords off 0x100C28 4 || inWords off 0x100D00 9
    || inWords off 0x102000 2048 || inWords off 0x104000 4096
    || inWords off 0x200000 1024 || inWords off 0x300000 128)

/-- WAIT_KIND (R136). -/
def Wait.kind : Wait → Nat
  | .none => 0
  | .queueFull _ => 1
  | .ticket _ _ => 2
  | .idle _ => 3
  | .word _ _ _ => 4
  | .flag _ _ => 5
  | .barrier _ _ _ => 6
  | .commit _ => 7

/-- SEQ_STATUS (R136). -/
def Core.seqStatus (c : Core) : Word :=
  let q := c.seqr
  BitVec.ofNat 32 (q.cur.toNat + (q.run.toNat <<< 4) + ((q.run && q.wait != .none).toNat <<< 5) + (q.done.toNat <<< 6)
    + (q.fault.toNat <<< 7) + ((if q.run then q.wait.kind else 0) <<< 8))

/-- CTX_STATE (R136). -/
def Ctx.state (x : Ctx) : Word :=
  BitVec.ofNat 32 (x.pc.toNat + (x.st.toNat <<< 12) + (x.ldepth.toNat <<< 16) + (x.gen.toNat <<< 20)
    + (x.evActive.toNat <<< 24) + (x.bwait.toNat <<< 25))

/-- CTX_EV (R136). -/
def Ctx.ev (x : Ctx) : Word := BitVec.ofNat 32 (x.vec.toNat + (x.en.toNat <<< 16) + (x.pend.toNat <<< 24))

/-- A loop level of a context (R123). -/
def Ctx.level (x : Ctx) (v : Nat) : LoopLevel := Tbl.get LoopLevel.reset x.loops v

/-- TKT registers (R136). -/
def Engine.tickets (e : Engine) : Word := BitVec.ofNat 32 (e.done.toNat + (e.issued.toNat <<< 16))

/-- CE_STATUS (R107). -/
def Core.ceStatus (c : Core) : Word :=
  let q (e : Nat) : Nat := (c.engine e).queue.length
  BitVec.ofNat 32 (q 0 + (q 1 <<< 4) + (q 2 <<< 8) + (q 3 <<< 12)
    + (((c.engine 0).run.any fun o => !o.finished).toNat <<< 16) + ((!(c.engine 1).run.isEmpty).toNat <<< 17)
    + ((c.acc_ 0).cur.isSome.toNat <<< 18) + ((c.acc_ 1).cur.isSome.toNat <<< 19)
    + (c.shadow.isSome.toNat <<< 24) + (c.active.isSome.toNat <<< 25)
    + ((match c.active with
        | some t => t.kb
        | none => 0) <<< 26))

/-- A0_CREDITS and A1_CREDITS (R107). -/
def Core.creditsReg (c : Core) (a : Nat) : Word :=
  BitVec.ofNat 32 (min 2047 (c.credits a) + (winSize (c.landW a) <<< 16))

/-- Whether the link of a site in a direction is up (R196, R212). -/
def State.linkUp (s : State) (k : SiteId) (d : Dir) : Bool :=
  match neighbour k d with
  | none => false
  | some n => s.siteOn n && !(s.router k).down.getLsbD (Dir.num d) && !(s.router n).down.getLsbD (Dir.num (Dir.back d))

/-- Whether the bypass link of a site in a direction is up (R209, R212). -/
def State.bypUp (s : State) (k : SiteId) (d : Dir) : Bool :=
  match neighbour k d with
  | none => false
  | some n => s.siteOn n && !(s.router k).bypDown.getLsbD (Dir.num d)

/-- RT_LINKS (R212). -/
def State.linksReg (s : State) (k : SiteId) : Word :=
  let m := ([Dir.n, Dir.e, Dir.s, Dir.w].map fun d => (s.linkUp k d).toNat <<< Dir.num d).sum
  let b := ([Dir.n, Dir.e, Dir.s, Dir.w].map fun d => (s.bypUp k d).toNat <<< Dir.num d).sum
  BitVec.ofNat 32 (m * 0x111 + (b <<< 12))

/-- RT_SRC (R212). -/
def Core.srcReg (c : Core) : Word :=
  let n := c.net
  BitVec.ofNat 32 (n.rtx.length + (n.heldDest.length <<< 8) + (n.fenced.toNat <<< 12) + (n.epoch.toNat <<< 13)
    + (n.stopped.toNat <<< 14) + (n.holds.length <<< 15))

/-- RGN_STATUS (R247). -/
def State.rgnStatus (s : State) (k : SiteId) : Word :=
  let c := s.core k
  let r := s.region c.rgnId
  let raw := c.reg 0x100608 &&& 0x1D0
  if c.rgnId = 0 then raw else raw ||| BitVec.ofNat 32 (r.st + (r.sealed.toNat <<< 5))

/-- REMOTE_CLOSED of a bank: written, or set by a seal while the bank is mapped (R170, R231). -/
def State.remoteClosed (s : State) (k : SiteId) (b : Nat) : Bool :=
  let c := s.core k
  wbit (c.bankCtl b) 5 || ((s.region c.rgnId).sealed && c.mapped b)

/-- SE_STATUS (R294). -/
def Core.seStatus (c : Core) : Word :=
  let e := c.engine 4
  let w := e.run.find? fun o => o.waiting
  let busy := e.run.any fun o => o.left != [] || o.waiting
  BitVec.ofNat 32 (e.queue.length + (busy.toNat <<< 4) + (w.isSome.toNat <<< 5)
    + ((match w with
        | some o => opFld o 0 16 6
        | none => 0) <<< 8))

/-- A token queue (R224). -/
def Core.tq (c : Core) (n : Nat) : TokQ := Tbl.get TokQ.reset c.tokq n

/-- A core with a token queue set. -/
def Core.setTq (c : Core) (n : Nat) (x : TokQ) : Core := { c with tokq := Tbl.set TokQ.reset c.tokq n x }

/-- TOKQ_CFG (R247). -/
def Core.tqCfg (c : Core) (n : Nat) : Word := c.reg (0x100680 + 4 * n)

/-- Entries of a token queue (R224, R247). -/
def Core.tqDepth (c : Core) (n : Nat) : Nat := 2 ^ min 12 (wfld (c.tqCfg n) 24 4)

/-- The SRAM offset of an entry of a token queue; it wraps at the queue's depth (R224). -/
def Core.tqSlot (c : Core) (n i : Nat) : Nat := (4 * wfld (c.tqCfg n) 2 16 + 4 * (i % c.tqDepth n)) % 0x40000

/-- A word of a channel descriptor, by its offset from the block's base (R271). -/
def Core.chanW (c : Core) (off : Nat) : Word := Tbl.get 0 c.chan off

/-- A core with a word of a channel descriptor set. -/
def Core.setChan (c : Core) (off : Nat) (v : Word) : Core := { c with chan := Tbl.set 0 c.chan off v }

/-- A word of a combiner descriptor (R280). -/
def Core.cmbW (c : Core) (off : Nat) : Word := Tbl.get 0 c.cmb off

/-- A core with a word of a combiner descriptor set. -/
def Core.setCmb (c : Core) (off : Nat) (v : Word) : Core := { c with cmb := Tbl.set 0 c.cmb off v }

/-- A switch word (R226). -/
def Core.switchW (c : Core) (i : Nat) : DWord := Tbl.get 0 c.switch i

/-- The value of a W64 counter of a core (R15). -/
def State.coreW64Val (s : State) (k : SiteId) (off : Nat) : DWord :=
  if off = 0x100620 then s.clk.gcc else (s.core k).ctr64 off

/-- What a decoded register word of a core reads as, the instruction store and TOKQ_POP apart. -/
def State.coreView (s : State) (k : SiteId) (off : Nat) : Word :=
  let c := s.core k
  if inWords off 0x200000 1024 then c.chanW (off % 0x1000)
  else if inWords off 0x300000 128 then c.cmbW (off % 0x200)
  else if inWords off 0x102000 2048 then
    BitVec.ofNat 32 ((c.switchW (off % 0x2000 / 8)).toNat >>> (if off % 8 = 0 then 0 else 32))
  else if inWords off 0x100100 64 then
    let x := c.ctxAt (off % 0x100 / 0x20)
    if off % 0x20 = 0 then x.state else if off % 0x20 = 4 then x.ev else x.epc.setWidth 32
  else if inWords off 0x100800 128 then
    Tbl.get 0 (c.ctxAt (off % 0x200 / 0x40)).regs (off % 0x40 / 4)
  else if inWords off 0x100A00 64 then
    let l := (c.ctxAt (off % 0x100 / 0x20)).level (off % 0x20 / 8)
    if off % 8 = 0 then BitVec.ofNat 32 (l.start.toNat + (l.fin.toNat <<< 16)) else l.remain
  else if inWords off 0x1006C0 16 then BitVec.ofNat 32 (c.tq (off % 0x40 / 4)).cnt
  else if inWords off 0x100410 4 then
    setBit (c.reg off) 5 (s.remoteClosed k (off % 0x10 / 4))
  else if coreW64 off then BitVec.ofNat 32 (s.coreW64Val k off).toNat
  else if coreW64 (off - 4) then Tbl.get 0 c.latch (off - 4)
  else match off with
    | 0x100008 => c.seqStatus
    | 0x100018 => c.seqr.flags.setWidth 32
    | 0x10001C => c.seqr.flags.setWidth 32
    | 0x100030 => (c.engine 0).tickets
    | 0x100034 => (c.engine 1).tickets
    | 0x100038 => (c.engine 2).tickets
    | 0x10003C => (c.engine 3).tickets
    | 0x100040 => (c.engine 4).tickets
    | 0x100304 => c.ceStatus
    | 0x100314 => c.creditsReg 0
    | 0x100318 => c.creditsReg 1
    | 0x100508 => BitVec.ofNat 32 c.net.stall
    | 0x10050C => s.linksReg k
    | 0x100510 => c.srcReg
    | 0x100608 => s.rgnStatus k
    | 0x100B10 => BitVec.ofNat 32 c.checker.misr.toNat
    | 0x100B14 => Tbl.get 0 c.latch 0x100B10
    | 0x100D04 => c.seStatus
    | _ => c.reg off

/-- A register word of a core read, with what the read does: it latches the high word of a W64 pair, it pops a
token queue. The word is absent where a codeword behind it is uncorrectable (R16, R108, R224). -/
def State.coreRead (s : State) (k : SiteId) (off : Nat) : State × Option Word :=
  let c := s.core k
  if inWords off 0x104000 4096 then
    let r := c.seqr.istore.read (off % 0x4000) 4
    if r.ue = 0 then (s.modCore k fun c => c.noteEcc 2 r.ce 0 0, some (BitVec.ofNat 32 (leNat r.bytes)))
    else (s.modCore k fun c => c.noteEcc 2 r.ce r.ue r.cw, none)
  else if inWords off 0x100700 16 then
    let n := off % 0x40 / 4
    let q := c.tq n
    if q.cnt = 0 then (s, some 0)
    else
      let (c, b) := c.sramRead 2 (c.tqSlot n q.rd) 4
      match b with
      | some b =>
        (s.putCore k (c.setTq n { rd := (q.rd + 1) % c.tqDepth n, cnt := q.cnt - 1 }),
          some (BitVec.ofNat 32 (2 ^ 31 + leNat b % 65536)))
      | none => (s.putCore k c, none)
  else
    let s' := if coreW64 off then s.setCore k (c.latchHigh off (s.coreW64Val k off))
      else if off = 0x100B10 then s.setCore k (c.latchHigh off c.checker.misr) else s
    (s', some (s.coreView k off))

/-- The writable bits of a word of a channel descriptor (R271). -/
def chanMask (w : Nat) : Word :=
  match w with
  | 0 => 0x001FFF1F
  | 4 => 0x3F
  | 8 => 0xFFFFFFFF
  | 0xC => 0xFFFFFFFF
  | 0x10 => 0x7FF
  | 0x14 => 0xFFFFFFFF
  | 0x18 => 0xFFFFFFFF
  | 0x1C => 0xFFFFFFFF
  | 0x20 => 0xFFFFFFFF
  | 0x24 => 0xFFFF
  | _ => 0

/-- A write to a word of a channel descriptor: taken while CLOSED, else only a credit of an OPEN SEND channel
within its size (R270, R277). -/
def Core.chanWrite (c : Core) (off : Nat) (v : Word) : Core :=
  let base := off / 64 * 64
  let w0 := c.chanW base
  if wfld w0 0 2 = 0 then c.setChan off (v &&& chanMask (off % 64))
  else if wfld w0 0 3 = 5 && off % 64 = 0x20 then
    if (v - c.chanW off).toNat ≤ wfld (c.chanW (base + 0x10)) 0 11 then c.setChan off v else c
  else c

/-- The writable bits of a word of a combiner descriptor; STATE is never written (R280). -/
def cmbMask (w : Nat) : Word :=
  match w with
  | 0 => 0x001F7FFC
  | 4 => 0xFFFF1FFF
  | 0x28 => 0xF
  | 0x34 => 0x3FFF
  | w => if w < 0x34 then 0xFFFFFFFF else 0

/-- A write to a word of a combiner descriptor: taken while DISARMED, else FAILED takes the bits written 1
(R280, R284). -/
def Core.cmbWrite (c : Core) (off : Nat) (v : Word) : Core :=
  if wfld (c.cmbW (off / 64 * 64)) 0 2 = 0 then c.setCmb off (v &&& cmbMask (off % 64))
  else if off % 64 = 0x10 ∨ off % 64 = 0x14 then c.setCmb off (c.cmbW off ||| v)
  else c

/-- A write to the context registers, register file, loop levels and instruction store, which take it only
while RUN is 0 (R136). -/
def Core.ctxWrite (c : Core) (off : Nat) (v : Word) : Core :=
  if c.seqr.run then c
  else if inWords off 0x100100 64 then
    let i := off % 0x100 / 0x20
    let x := c.ctxAt i
    if off % 0x20 = 0 then
      let st := wfld v 12 2
      c.setCtx i { x with pc := v.setWidth 12, st := BitVec.ofNat 2 (if st = 2 then 1 else st)
                          ldepth := BitVec.ofNat 3 (wfld v 16 3), gen := BitVec.ofNat 3 (wfld v 20 3)
                          evActive := wbit v 24, bwait := wbit v 25 }
    else if off % 0x20 = 4 then
      c.setCtx i { x with vec := v.setWidth 12, en := BitVec.ofNat 4 (wfld v 16 4)
                          pend := x.pend &&& ~~~(BitVec.ofNat 4 (wfld v 24 4)) }
    else c.setCtx i { x with epc := v.setWidth 12 }
  else if inWords off 0x100800 128 then
    let i := off % 0x200 / 0x40
    let n := off % 0x40 / 4
    let x := c.ctxAt i
    if n = 0 then c else c.setCtx i { x with regs := Tbl.set 0 x.regs n v }
  else if inWords off 0x100A00 64 then
    let i := off % 0x100 / 0x20
    let x := c.ctxAt i
    let l := x.level (off % 0x20 / 8)
    let l := if off % 8 = 0 then { l with start := v.setWidth 12, fin := BitVec.ofNat 12 (wfld v 16 12) }
      else { l with remain := v }
    c.setCtx i { x with loops := Tbl.set LoopLevel.reset x.loops (off % 0x20 / 8) l }
  else
    let w := c.seqr.istore.write (off % 0x4000) (leBytes 4 v.toNat)
    { c with seqr := { c.seqr with istore := w.mem } }

/-- The writable bits of the plain RW registers of a core (R73, R108, R136, R170, R212, R247). -/
def coreRW (off : Nat) : Word :=
  match off with
  | 0x100004 => 0x7
  | 0x100204 => 0x1
  | 0x100208 => 0xFFFFFFFF
  | 0x10020C => 0xFFFFFFFF
  | 0x100210 => 0xFFFFFFFF
  | 0x100498 => 0x8000FFFF
  | 0x100504 => 0x8000001F
  | 0x100610 => 0xFFFFFFFF
  | 0x100618 => 0xFFFFFFFF
  | 0x100B08 => 0xFFFFFFFF
  | _ => 0

/-- The writable bits of the RW registers a live region does not let be written (R247). -/
def rgnRW (off : Nat) : Word :=
  if inWords off 0x100680 16 then 0xFF03FFFC
  else match off with
    | 0x100604 => 0x003FFFFF
    | 0x10063C => 0x000FFFF3
    | 0x100640 => 0xBFFFFFFF
    | 0x100644 => 0x0000F1FF
    | 0x100648 => 0x0003FFFF
    | _ => 0

/-- RGN_LAUNCH as a 64-bit value (R230). -/
def Core.launchAt (c : Core) : Nat := (c.reg 0x100610).toNat + ((c.reg 0x100614).toNat <<< 32)

/-- RGN_DRAIN_AT as a 64-bit value (R237). -/
def Core.drainAt (c : Core) : Nat := (c.reg 0x100618).toNat + ((c.reg 0x10061C).toNat <<< 32)

/-- A write to RGN_LAUNCH_HI arms the launch, or sets LATE where its cycle has passed (R230). -/
def State.armLaunch (s : State) (k : SiteId) (v : Word) : State :=
  let c := (s.core k).setReg 0x100614 v
  let late := decide (c.launchAt < s.clk.gcc.toNat)
  s.setCore k { c.setReg 0x100608 (setBit (c.reg 0x100608) 6 late) with launch := !late }

/-- A write to RGN_DRAIN_AT_HI arms the drain flag (R237). -/
def State.armDrain (s : State) (k : SiteId) (v : Word) : State :=
  s.setCore k { (s.core k).setReg 0x10061C v with drainArm := true }

/-- A write to a register word of a core, each field by its access code (R8, R9, R13). -/
def State.coreWrite (s : State) (k : SiteId) (off : Nat) (v : Word) : State :=
  let live := (s.region (s.core k).rgnId).live
  if coreOvfRegs.contains off then s.modCore k fun c => c.ovfClear off v
  else if inWords off 0x200000 1024 then s.modCore k fun c => c.chanWrite (off % 0x1000) v
  else if inWords off 0x300000 128 then s.modCore k fun c => c.cmbWrite (off % 0x200) v
  else if inWords off 0x102000 2048 then
    if live then s
    else s.modCore k fun c =>
      let i := off % 0x2000 / 8
      let w := (c.switchW i).toNat
      let w := if off % 8 = 0 then (w >>> 32 <<< 32) + v.toNat % 2 ^ 30 else w % 2 ^ 32 + ((v.toNat / 2 ^ 16) <<< 48)
      { c with switch := Tbl.set 0 c.switch i (BitVec.ofNat 64 w) }
  else if inWords off 0x100100 64 || inWords off 0x100800 128 || inWords off 0x100A00 64 || inWords off 0x104000 4096 then
    s.modCore k fun c => c.ctxWrite off v
  else if inWords off 0x100410 4 then s.modCore k fun c => c.bankCtlWrite (off % 0x10 / 4) v
  else if inWords off 0x100440 16 then s.modCore k fun c => c.winWrite (off % 0x40 / 4) v
  else if rgnRW off ≠ 0 then if live then s else s.modCore k fun c => c.setReg off (v &&& rgnRW off)
  else match off with
    | 0x100018 => s.modCore k fun c => c.setFlags (v.setWidth 16)
    | 0x10001C => s.modCore k fun c => c.clrFlags (v.setWidth 16)
    | 0x100308 => s.modCore k fun c => c.landWrite v
    | 0x1004A0 =>
        let s := s.modCore k fun c => if wbit v 31 then c.mtStart v else c.setReg 0x1004A0 (v &&& 0x303)
        if wbit v 30 then s.marchStop k else s
    | 0x100614 => s.armLaunch k v
    | 0x10061C => s.armDrain k v
    | 0x100638 => s.modCore k fun c => c.setReg off (c.reg off &&& ~~~(v &&& 0x3F))
    | 0x100B04 => s.modCore k fun c => c.chkWrite off v
    | 0x100B0C => s.modCore k fun c => c.chkWrite off v
    | _ => if coreRW off = 0 then s else s.modCore k fun c => c.setReg off (v &&& coreRW off)

/-- The banks some SRAM bytes lie in are ON and under no test (R150, R151). -/
def Core.sramUp (c : Core) (a n : Nat) : Bool :=
  n == 0 || (List.range 4).all fun b => !(decide (a / 0x10000 ≤ b) && decide (b ≤ (a + n - 1) / 0x10000)) || c.bankUp b

/-- Banks of some SRAM bytes that are not ON asked for ON (R151). -/
def Core.wakeBytes (c : Core) (a n : Nat) : Core :=
  (List.range 4).foldl (fun (c : Core) b =>
    if n != 0 && decide (a / 0x10000 ≤ b) && decide (b ≤ (a + n - 1) / 0x10000) then c.wakeBank b else c) c

end Sys2Proof.Machine
end

