-- ==== Sys2Proof/Machine/RelOps.lean ====
section
/-!
DEFINITION. The records of the flash history, fences, and the charging of sites, as later chapters use them (R407,
R408, R418-R425).
-/

namespace Sys2Proof.Machine

/-- A site's record (R421). -/
def State.siteRec (s : State) (k : SiteId) : SiteRec := Tbl.get SiteRec.fresh s.rel.site k.val

/-- A site's record set. -/
def State.setSite (s : State) (k : SiteId) (x : SiteRec) : State :=
  { s with rel := { s.rel with site := Tbl.set SiteRec.fresh s.rel.site k.val x } }

/-- An area's record (R423). -/
def State.areaRec (s : State) (a : Nat) : AreaRec := Tbl.get AreaRec.fresh s.rel.area a

/-- An area's record set. -/
def State.setAreaRec (s : State) (a : Nat) (x : AreaRec) : State :=
  { s with rel := { s.rel with area := Tbl.set AreaRec.fresh s.rel.area a x } }

/-- The powered day (R418, R435). -/
def State.today (s : State) : Nat := s.rel.minutes / 1440

/-- A site's code in log data: X and Y. -/
def siteCode (k : SiteId) : Nat := siteX k + (siteY k <<< 10)

/-- A log record written; its data are 32-bit words in the order R425 lists them. The ring keeps 32,768 (R420,
R425). -/
def State.logRec (s : State) (type : Nat) (ws : List Nat) : State :=
  let data := BitVec.ofNat 128 (leNat (ws.flatMap fun w => leBytes 4 w))
  let r : LogRec := { type := BitVec.ofNat 8 type, sq := s.rel.logSq, sec := s.rel.minutes * 60 + s.rel.seconds, data := data }
  let log := (s.rel.log ++ [r])
  { s with rel := { s.rel with log := log.drop (log.length - 32768), logSq := s.rel.logSq + 1 } }

/-- The fence reasons (R419). -/
def fXCHECK : Nat := 1
def fTRANSIENTS : Nat := 2
def fROWS : Nat := 3
def fAREALOST : Nat := 4
def fLATCHED : Nat := 5
def fHOST : Nat := 6

/-- Whether the core of a site is fenced (R408). -/
def State.fenced (s : State) (k : SiteId) : Bool := (s.router k).fence.isSome || !s.siteOn k

/-- A fence applied at a site's router (R408). -/
def State.applyFence (s : State) (k : SiteId) (reason : Nat) : State :=
  s.setRouter k { s.router k with fence := some (BitVec.ofNat 8 reason) }

/-- The region of a site's core faults FENCED, or AREA_LOST (R243, R419). -/
def State.fenceFault (s : State) (k : SiteId) (cause : Nat) : State :=
  let id := (s.core k).rgnId
  if (s.regionCores id).any fun e => e.2 == k then s.faultRegion id k cause 0 else s

/-- A site fenced for a reason of its own (R419). -/
def State.fenceSite (s : State) (k : SiteId) (reason : Nat) : State :=
  let e := s.fab.epidAt s.curVer k
  let s := s.setSite k { s.siteRec k with st := 2, reason := reason }
  let s := s.logRec 1 [e.getD 0x7FFFF, siteCode k, reason]
  let s := (s.applyFence k reason).fenceFault k 8
  match e with
  | some e => s.raise 0x11 (evData e reason)
  | none => s

/-- A transient recorded: the fourth within 30 days fences the site (R418). -/
def State.transient (s : State) (k : SiteId) : State :=
  let r := s.siteRec k
  if r.tday2.any fun d => decide (s.today - d < 30) then s.fenceSite k fTRANSIENTS
  else
    (s.setSite k { r with tday2 := r.tday1, tday1 := r.tday0, tday0 := some s.today
                          trans := min 255 (r.trans + 1) }).logRec 3 [siteCode k]

/-- A failure charged to a site at a corner (R418). -/
def State.charge (s : State) (k : SiteId) (m vstep kernel : Nat) : State :=
  let r := s.siteRec k
  let r := { r with xfails := min 255 (r.xfails + 1) }
  if r.st = 0 then
    (s.setSite k { r with st := 1, m := m, vstep := vstep, sday := some s.today, retests := 0, rfails := 0 }).logRec 2
      [siteCode k, m + (vstep <<< 4), kernel]
  else if r.st = 1 ∧ r.m = m ∧ r.vstep = vstep then s.setSite k { r with rfails := r.rfails + 1 }
  else s.setSite k r

/-- A retest of a SUSPECT site done (R418). -/
def State.retested (s : State) (k : SiteId) : State :=
  let r := s.siteRec k
  let r := { r with retests := r.retests + 1 }
  let s := s.setSite k r
  if 2 ≤ r.rfails then s.fenceSite k fXCHECK
  else if r.retests < 8 then s
  else if r.rfails = 1 then
    let s := s.transient k
    let r := s.siteRec k
    s.setSite k { r with retests := 0, rfails := 0 }
  else (s.setSite k { r with st := 0 }).transient k

/-- A row record: row and bank of each entry (R422). -/
def State.rowRec (s : State) (i : Nat) : List (Nat × Nat) := Tbl.get [] s.rel.row i

/-- Failing rows of a bank added to the site's row record: a ninth is not stored and fences the site (R417, R422). -/
def State.addRow (s : State) (k : SiteId) (bank row : Nat) : State :=
  let r := s.siteRec k
  let i := if r.rowrec = 0 then s.rel.rowSite.length + 1 else r.rowrec
  let es := s.rowRec i
  if es.contains (row, bank) then s
  else if 8 ≤ (es.countP fun e => e.2 == bank) then if r.st < 2 then s.fenceSite k fROWS else s
  else
    let s := s.setSite k { r with rowrec := i }
    { s with rel := { s.rel with row := Tbl.set [] s.rel.row i (es ++ [(row, bank)])
                                 rowSite := Tbl.set 0 s.rel.rowSite i (k.val + 1) } }

/-- The spare rows of a bank taken from the row record at start-up: bank * 8 + j reads the failing row plus one
(R140, R422). -/
def State.assignSpares (s : State) (k : SiteId) : State :=
  let es := s.rowRec (s.siteRec k).rowrec
  let sp := (List.range 4).foldl (fun (t : Tbl Nat) b =>
    let rows := ((es.filter fun e => e.2 == b).map (·.1)).take 8
    (rows.zip (List.range 8)).foldl (fun (t : Tbl Nat) x => Tbl.set 0 t (8 * b + x.2) (x.1 + 1)) t) []
  s.setCore k { s.core k with spare := sp }

/-- REL_FP_GEN (R435). -/
def State.fpGen (s : State) : Nat := (s.bar (relBase + 0x1C)).toNat

/-- The committed floor plan written: the core section of a version, a new generation, a log record (R426, R429). -/
def State.commitPlan (s : State) (v : Bool) (count origin : Nat) : State :=
  let plan := (List.range 6144).foldl (fun (t : Tbl Word) b => Tbl.set (defaultCore b) t b (s.fab.core v b)) []
  let s := s.setBar (relBase + 0x1C) (s.bar (relBase + 0x1C) + 1)
  { s with rel := { s.rel with plan := plan } }.logRec 0x0B [s.fpGen, count, origin]

end Sys2Proof.Machine
end

