-- ==== Sys2Proof/Machine/Router.lean ====
section
/-!
DEFINITION. The routers: which way a packet goes, exception entries and the cupola's detours, down and claimed
links, multicast trees, and the epoch flip (R171-R173, R188-R197, R204-R208, R210).
-/

namespace Sys2Proof.Machine

/-- Where a link's record lies: links are named by their N or W end. -/
def linkName (k : SiteId) (d : Dir) : SiteId × Dir :=
  match d, neighbour k d with
  | .n, some n => (n, .s)
  | .w, some n => (n, .e)
  | d, _ => (k, d)

/-- The holes a version's detours lead around (R190, R197). -/
def Fab.holesOf (f : Fab) (v : Bool) : BitVec 288 := Tbl.get 0 f.holes (verNum v)

/-- The links a version's detours avoid (R173). -/
def Fab.avoidOf (f : Fab) (v : Bool) : List (SiteId × Dir) := Tbl.get [] f.avoid (verNum v)

/-- A step that a version's routes may not take: beyond the edge, into a hole, over an avoided link. -/
def Fab.blocked (f : Fab) (v : Bool) (k : SiteId) (d : Dir) : Bool :=
  match neighbour k d with
  | none => true
  | some n => (f.holesOf v).getLsbD (siteArea n) || (f.avoidOf v).contains (linkName k d)

/-- The default order's hop toward a site; none at the site itself (R188). -/
def defaultHop (k dst : SiteId) : Option Dir :=
  if siteX dst < siteX k then some .w
  else if siteY dst < siteY k then some .n
  else if siteX k < siteX dst then some .e
  else if siteY k < siteY dst then some .s
  else none

/-- The default route from a site meets nothing blocked. -/
def Fab.defaultClear (f : Fab) (v : Bool) (dst : SiteId) : Nat → SiteId → Bool
  | 0, _ => true
  | n + 1, k =>
    match defaultHop k dst with
    | none => true
    | some d =>
      match neighbour k d with
      | none => false
      | some m => !(f.blocked v k d) && f.defaultClear v dst n m

/-- The lane discipline as four phases: L0 before an east or south hop, L0 after one, L1 before, L1 after. The
phase after a hop; none where the hop would need a second lane change (R190). -/
def nextPhase : Nat → Dir → Option Nat
  | 0, .w => some 0
  | 0, .n => some 0
  | 0, _ => some 1
  | 1, .w => some 2
  | 1, .n => some 2
  | 1, _ => some 1
  | 2, .w => some 2
  | 2, .n => some 2
  | 2, _ => some 3
  | _, .w => none
  | _, .n => none
  | _, _ => some 3

/-- The site and phase after a hop, if a version's routes may take it. -/
def Fab.hopTo (f : Fab) (v : Bool) (x : SiteId × Nat) (d : Dir) : Option (SiteId × Nat) :=
  match neighbour x.1 d, nextPhase x.2 d with
  | some n, some p => if f.blocked v x.1 d then none else some (n, p)
  | _, _ => none

/-- The number of hops of a shortest legal route to a site from a set of places reached with equal hops; none
where there is no such route (R190). -/
def Fab.spread (f : Fab) (v : Bool) (dst : SiteId) :
    Nat → Nat → List (SiteId × Nat) → Array Bool → Option Nat
  | 0, _, _, _ => none
  | n + 1, hops, front, seen =>
    if front.any fun x => x.1 == dst then some hops
    else if front = [] then none
    else
      let (front, seen) := front.foldl (fun (a : List (SiteId × Nat) × Array Bool) x =>
        [Dir.w, .n, .e, .s].foldl (fun (a : List (SiteId × Nat) × Array Bool) d =>
          match f.hopTo v x d with
          | none => a
          | some y =>
            let i := 4 * y.1.val + y.2
            if a.2.getD i true then a else (y :: a.1, a.2.setIfInBounds i true)) a) ([], seen)
      f.spread v dst n (hops + 1) front seen

/-- Hops from a place to a site by the shortest legal route. -/
def Fab.legalDist (f : Fab) (v : Bool) (dst : SiteId) (x : SiteId × Nat) : Option Nat :=
  f.spread v dst 589824 0 [x] (Array.replicate 1179648 false)

/-- The hop of the cupola's detour: of the hops that begin a shortest legal route the default order's if it is
one, else W before N before E before S, which passes a hole west of it or north of it (R190). -/
def Fab.detour (f : Fab) (v : Bool) (dst k : SiteId) (phase : Nat) : Option Dir :=
  let order := (defaultHop k dst).toList ++ [Dir.w, .n, .e, .s]
  let cand := order.filterMap fun d =>
    (f.hopTo v (k, phase) d).bind fun y => (f.legalDist v dst y).map fun h => (d, h)
  (cand.foldl (fun (a : Option (Dir × Nat)) c =>
    match a with
    | none => some c
    | some b => if c.2 < b.2 then some c else a) none).map (·.1)

/-- The cupola's routing of a version, exception entries apart: the default order, or around what it avoids;
none where no route exists. -/
def Fab.treeHop (f : Fab) (v : Bool) (k dst : SiteId) (phase : Nat) : Option Dir :=
  if f.defaultClear v dst 1200 k then defaultHop k dst else f.detour v dst k phase

/-- What a router does with a packet that is not tree traffic (R188, R189). -/
inductive Hop where
  | eject
  | go (d : Dir) (toL1 : Bool)
  | refuse (code : Byte)
  deriving DecidableEq, Repr

/-- An exception entry of a version (R189, R191). -/
def Router.excAt (r : Router) (v : Bool) (i : Nat) : DWord := Tbl.get 0 r.exc (verNum v * 128 + i)

/-- Whether an exception entry matches (R189). -/
def excMatches (e : DWord) (plane : Plane) (lane : Bool) (x y : Nat) : Bool :=
  let f (lo w : Nat) : Nat := fld e.toNat lo w
  e.getLsbD 47 && decide (f 0 10 ≤ x) && decide (x ≤ f 10 10) && decide (f 20 9 ≤ y) && decide (y ≤ f 29 9)
    && e.getLsbD (44 + Plane.num plane) && (f 42 2 == 0 || (f 42 2 == 1 && !lane) || (f 42 2 == 2 && lane))

/-- The phase of a packet at a router: its lane, and whether it came by an east or south hop (R190). -/
def phaseOf (lane : Bool) : Port → Nat
  | .link .n => 2 * lane.toNat + 1
  | .link .w => 2 * lane.toNat + 1
  | _ => 2 * lane.toNat

/-- Where a router sends a packet of a version (R188-R190, R197). -/
def State.hop (s : State) (k : SiteId) (v : Bool) (plane : Plane) (lane : Bool) (port : Port) (x y : Nat) : Hop :=
  let dst := mkSite x y
  if dst = k then .eject
  else
    match (List.range 128).findSome? fun i =>
      let e := (s.router k).excAt v i
      if excMatches e plane lane x y then some e else none with
    | some e =>
      let a := fld e.toNat 38 3
      if a < 4 then .go (Dir.ofNum a) (e.getLsbD 41) else .refuse (if a = 4 then rFENCED else rUNREACH)
    | none =>
      if (s.fab.holesOf v).getLsbD (siteArea dst) then .refuse rFENCED
      else
        let ph := phaseOf lane port
        match s.fab.treeHop v k dst ph with
        | none => .refuse rUNREACH
        | some d => .go d (ph == 1 && nextPhase ph d == some 2)

/-- Whether a scheduled region that runs claims a link of a plane (R208, R227). -/
def State.claimed (s : State) (k : SiteId) (d : Dir) (plane : Plane) : Bool :=
  match neighbour k d with
  | none => false
  | some n =>
    let inside (r : Region) (k : SiteId) : Bool :=
      decide (r.xlo ≤ siteX k) && decide (siteX k ≤ r.xhi) && decide (r.ylo ≤ siteY k) && decide (siteY k ≤ r.yhi)
    s.rgns.tbl.any fun x => x.2.live && x.2.sched && decide (plane ≠ .c) && x.2.planes.getLsbD (Plane.num plane)
      && inside x.2 k && inside x.2 n

/-- A drop counted at a site: RT_DROP_CNT (R176, R212). -/
def State.dropAt (s : State) (k : SiteId) : State := s.modCore k fun c => c.bump 0x100538 1

/-- A V or S packet sent over a link: it crosses; or, the link being down or claimed, a request is answered HOLE and
counted, and a response or a multicast write is dropped (R196, R205, R208). -/
def State.crossP (s : State) (k : SiteId) (d : Dir) (hops : BitVec 4) (p : Packet) : State :=
  match neighbour k d with
  | some n =>
    if s.linkUp k d && !(s.claimed k d p.plane) then
      s.fly { site := n, from_ := .link (Dir.back d), ejected := false, hold := none, hops := hops, body := .inl p }
    else if isResponse p.type || p.type == tMC_WR then s.dropAt k
    else (s.modCore k fun c => c.bump 0x10052C 1).routerRefuse k p rHOLE
  | none =>
    if isResponse p.type || p.type == tMC_WR then s.dropAt k
    else (s.modCore k fun c => c.bump 0x10052C 1).routerRefuse k p rHOLE

/-- A C packet sent over a link; where the link is down it waits at the router until the flip (R196). -/
def State.crossC (s : State) (k : SiteId) (port : Port) (d : Dir) (c : CPacket) : State :=
  match neighbour k d with
  | some n =>
    if s.linkUp k d then
      s.fly { site := n, from_ := .link (Dir.back d), ejected := false, hold := none, hops := 0, body := .inr c }
    else s.fly { site := k, from_ := port, ejected := false, hold := some d, hops := 0, body := .inr c }
  | none => s.fly { site := k, from_ := port, ejected := false, hold := some d, hops := 0, body := .inr c }

/-- A multicast entry of a version (R191, R204). -/
def Router.mcAt (r : Router) (v : Bool) (i : Nat) : Word := Tbl.get 0 r.mc (verNum v * 64 + i)

/-- The place of a group's multicast entry of a version (R204). -/
def Router.mcIndex (r : Router) (v : Bool) (g : Nat) : Option Nat :=
  (List.range 64).find? fun i => wbit (r.mcAt v i) 14 && wfld (r.mcAt v i) 0 14 == g

/-- OUT and UP of a group at a router; UP 7 at the root (R204). -/
structure TreeAt where
  out : BitVec 5
  up  : Nat
  deriving DecidableEq, Repr

/-- The bit of a port in OUT. -/
def Port.bit : Port → BitVec 5
  | .link d => 1 <<< Dir.num d
  | .loc => 16

/-- The tree of group 0x3FFF at a site: the paths of all powered sites to the root (R194). -/
def State.fenceTree (s : State) (v : Bool) (k : SiteId) : TreeAt :=
  let root := s.fab.treeRoot
  let child (d : Dir) : Bool :=
    match neighbour k d with
    | none => false
    | some n => s.siteOn n && n != root && s.fab.treeHop v n root 0 == some (Dir.back d)
  let bits := ([Dir.n, .e, .s, .w].map fun d => (child d).toNat <<< Dir.num d).sum
  { out := BitVec.ofNat 5 (bits + 16)
    up := if k = root then 7 else match s.fab.treeHop v k root 0 with
      | some d => Dir.num d
      | none => 4 }

/-- The entry of a group's tree at a router in a version; none where it holds none (R204). -/
def State.treeAt (s : State) (v : Bool) (k : SiteId) (g : Nat) : Option TreeAt :=
  if g = 0x3FFF then some (s.fenceTree v k)
  else ((s.router k).mcIndex v g).map fun i =>
    let e := (s.router k).mcAt v i
    { out := BitVec.ofNat 5 (wfld e 15 5), up := wfld e 20 3 }

/-- The links of a tree entry, in port order. -/
def TreeAt.links (t : TreeAt) : List Dir := [Dir.n, .e, .s, .w].filter fun d => t.out.getLsbD (Dir.num d)

/-- A C packet forwarded on every link of a tree entry (R205, R236, R287). -/
def State.forwardC (s : State) (k : SiteId) (port : Port) (t : TreeAt) (c : CPacket) : State :=
  t.links.foldl (fun (s : State) d => s.crossC k port d c) s

/-- A C packet ejected at its site. -/
def State.ejectC (s : State) (k : SiteId) (c : CPacket) : State :=
  s.fly { site := k, from_ := .loc, ejected := true, hold := none, hops := 0, body := .inr c }

/-- Whether the CHK of a C packet stands; a packet that fails is dropped and counted (R177). -/
def cGood (c : CPacket) : Bool := c.chk == c.chkOf

/-- The tree a broadcast travels on: a HALT on its region's HALT_GROUP, EPOCH_FENCE and FLIP on 0x3FFF (R194,
R236). -/
def State.broadcastGroup (s : State) (c : CPacket) : Nat :=
  if c.type = 4 then (s.region c.arg.toNat).haltGroup.toNat else 0x3FFF

/-- A broadcast at a router: copies down the tree and one to the local member (R194, R236). -/
def State.broadcast (s : State) (k : SiteId) (port : Port) (c : CPacket) : State :=
  match s.treeAt c.epoch k (s.broadcastGroup c) with
  | none => s.dropAt k
  | some t =>
    let s := s.forwardC k port t c
    if t.out.getLsbD 4 then s.ejectC k c else s

/-- The places of a tree: site number, then OUT and UP as 8 * OUT + UP. -/
abbrev TreeMap := Tbl Nat

/-- An unlisted site of a tree map: no OUT, no UP. -/
def noTree : Nat := 7

/-- The paths of a tree map grown by a member's path to the root; none where it cannot be reached. -/
def Fab.growTree (f : Fab) (v : Bool) (root : SiteId) : Nat → SiteId → TreeMap → Option TreeMap
  | 0, _, _ => none
  | n + 1, k, t =>
    if k = root then some t
    else do
      let d ← f.treeHop v k root 0
      let m ← neighbour k d
      let here := Tbl.get noTree t k.val
      let there := Tbl.get noTree t m.val
      let t := Tbl.set noTree t k.val (here / 8 * 8 + Dir.num d)
      let bit := 2 ^ Dir.num (Dir.back d)
      if (there / 8).testBit (Dir.num (Dir.back d)) then some t
      else f.growTree v root n m (Tbl.set noTree t m.val (there + 8 * bit))

/-- A tree that reaches each of some members once from a root around the holes of a version; on failure the index
of the first member it cannot reach (R190, R207). -/
def Fab.buildTree (f : Fab) (v : Bool) (root : SiteId) (members : List SiteId) : TreeMap ⊕ Nat :=
  (members.zip (List.range members.length)).foldl (fun (a : TreeMap ⊕ Nat) m =>
    match a with
    | .inr i => .inr i
    | .inl t =>
      if (f.holesOf v).getLsbD (siteArea m.1) then .inr m.2
      else match f.growTree v root 1200 m.1 t with
        | none => .inr m.2
        | some t =>
          let x := Tbl.get noTree t m.1.val
          .inl (if (x / 8).testBit 4 then t else Tbl.set noTree t m.1.val (x + 128))) (.inl [])

/-- The place for a group's entry in a router's version: its own or a free one. -/
def Router.mcPlace (r : Router) (v : Bool) (g : Nat) : Option Nat :=
  (r.mcIndex v g).orElse fun _ => (List.range 64).find? fun i => !wbit (r.mcAt v i) 14

/-- A group's entry taken out of a router's version. -/
def Router.mcClear (r : Router) (v : Bool) (g : Nat) : Router :=
  match r.mcIndex v g with
  | none => r
  | some i => { r with mc := Tbl.set 0 r.mc (verNum v * 64 + i) 0 }

/-- A group's arrivals and release positions at a router started anew (R206, R288). -/
def Router.mcFresh (r : Router) (g : Nat) : Router :=
  { r with arr := r.arr.filter fun x => x.1 / 2 ≠ g, rel := r.rel.filter fun x => x.1 / 8 ≠ g
           relSent := r.relSent.filter fun x => x.1 ≠ g }

/-- Every core changed. -/
def State.mapCores (s : State) (f : Nat → Core → Core) : State :=
  { s with cores := s.cores.foldl (fun (t : Tbl Core) x => Tbl.set Core.reset t x.1 (f x.1 x.2)) s.cores }

/-- A core's count of slots freed of a group started anew with the group's entries (R206). -/
def Core.mcFresh (c : Core) (g : Nat) : Core :=
  (List.range 2).foldl (fun (c : Core) a =>
    c.setAcc a { c.acc_ a with freed := Tbl.set 0 (c.acc_ a).freed g 0 }) c

/-- A group's entry written into a router's version, where there is room. -/
def Router.mcPut (r : Router) (v : Bool) (g : Nat) (x : Nat) : Option Router :=
  (r.mcPlace v g).map fun i =>
    { r with mc := Tbl.set 0 r.mc (verNum v * 64 + i) (BitVec.ofNat 32 (g + 2 ^ 14 + ((x / 8) <<< 15) + ((x % 8) <<< 20))) }

/-- Every router changed. -/
def State.mapRouters (s : State) (f : Nat → Router → Router) : State :=
  { s with routers := s.routers.foldl (fun (t : Tbl Router) x => Tbl.set Router.reset t x.1 (f x.1 x.2)) s.routers }

/-- A group's tree written into a version of the routers and the group section, in place of the group's former one;
none where a router has no free entry (R204, R207). -/
def State.putTree (s : State) (v : Bool) (g : Nat) (root : SiteId) (t : TreeMap) : Option State :=
  let s := s.mapRouters fun _ r => r.mcClear v g
  let s := t.foldl (fun (a : Option State) x => do
    let s ← a
    let k : SiteId := Fin.ofNat 294912 x.1
    let r ← (s.router k).mcPut v g x.2
    some (s.setRouter k r)) (some s)
  s.map fun s => { s with fab := { s.fab with
    group := Tbl.set 0 s.fab.group (verNum v * 16384 + g)
      (BitVec.ofNat 32 (siteX root + (siteY root <<< 10) + 2 ^ 31)) } }

/-- The members of a group in a version: the sites whose entry has the local port in OUT (R204). -/
def State.members (s : State) (v : Bool) (g : Nat) : List SiteId :=
  s.routers.filterMap fun x =>
    match x.2.mcIndex v g with
    | some i => if wbit (x.2.mcAt v i) 19 then some (Fin.ofNat 294912 x.1) else none
    | none => none

/-- A table's entries of one version copied over the other's, `n` to a version. -/
def copyVer {α : Type} [DecidableEq α] (d : α) (n : Nat) (v : Bool) (t : Tbl α) : Tbl α :=
  let cleared := t.filter fun x => x.1 / n == verNum v
  cleared.foldr (fun x (t : Tbl α) => Tbl.set d t (x.1 % n + verNum (!v) * n) x.2) cleared

/-- The core section of one version copied over the other's: an unlisted entry of it reads the default mapping in
both. -/
def Fab.copySections (f : Fab) (v : Bool) : Fab :=
  let own := f.coreSec.filter fun x => x.1 / 6144 == verNum v
  let ends := f.endp.filter fun x => x.1 / 66 == verNum v
  { f with
    coreSec := own.foldr (fun x (t : Tbl Word) =>
      Tbl.set (if f.loaded then defaultCore (x.1 % 6144) else 0) t (x.1 % 6144 + verNum (!v) * 6144) x.2) own
    endp := ends.foldr (fun x (t : Tbl (BitVec 128)) =>
      Tbl.set (if f.loaded then defaultEndpoint (x.1 % 66) else 0) t (x.1 % 66 + verNum (!v) * 66) x.2) ends
    group := copyVer 0 16384 v f.group
    fwdEng := copyVer 0 4096 v f.fwdEng, fwdSet := copyVer 0 16 v f.fwdSet, fwdWt := copyVer 0 768 v f.fwdWt
    holes := copyVer 0 1 v f.holes, avoid := copyVer [] 1 v f.avoid }

/-- The active version copied over the inactive one in every table and router (R193). -/
def State.copyTables (s : State) : State :=
  let v := s.curVer
  { s with fab := s.fab.copySections v }.mapRouters fun _ r =>
    { r with exc := copyVer 0 128 v r.exc, mc := copyVer 0 64 v r.mc }

/-- FAB_EPOCH (R211). -/
def State.epochReg (s : State) : Word := s.bar (fabBase + 4)

/-- A bit of FAB_EPOCH set or cleared: 0 CUR, 1 STAGING, 2 FENCING, 3 SETTLING, 4 PENDING. -/
def State.epochBit (s : State) (i : Nat) (b : Bool) : State := s.setBar (fabBase + 4) (setBit s.epochReg i b)

/-- FAB_STAGE_STATUS.RESULT (R211). -/
def State.stageResult (s : State) : Nat := wfld (s.bar (fabBase + 0x14)) 0 4

/-- FAB_STAGE_STATUS.RESULT set. -/
def State.setResult (s : State) (r : Nat) : State := s.setBar (fabBase + 0x14) (setFld (s.bar (fabBase + 0x14)) 0 4 r)

/-- What runs in the staging hardware: 0 nothing, 1 COPY, 2 CHECK; STAGING shows it (R193). -/
def State.setStaging (s : State) (x : Nat) : State :=
  { s with fab := { s.fab with staging := x } }.epochBit 1 (x != 0)

/-- A flip is under way or settles. -/
def State.flipBusy (s : State) : Bool := s.fab.flip.isSome || wbit s.epochReg 3 || wbit s.epochReg 2

/-- A group taken out of a version. -/
def State.dropGroup (s : State) (v : Bool) (g : Nat) : State :=
  let s := s.mapRouters fun _ r => r.mcClear v g
  { s with fab := { s.fab with group := Tbl.set 0 s.fab.group (verNum v * 16384 + g) 0 } }

/-- A flip that does not come about: its request completes, the regions of a load go back to EMPTY (R194, R221). -/
def State.failFlip (s : State) (f : Flip) (status : Nat) : State :=
  let s := match f.why with
    | .load ids _ => ids.foldl (fun (s : State) id =>
        let s := (s.region id).groups.foldl (fun (s : State) g => (s.dropGroup false g).dropGroup true g) s
        let s := (s.regionCores id).foldl (fun (s : State) (e : Nat × SiteId) => s.modCore e.2 fun (c : Core) => c.setReg 0x100604 0) s
        s.setRegion id Region.reset) s
    | .plan => { s with rel := { s.rel with commit := none } }
    | _ => s
  s.completeOpt f.req status

/-- The areas that are off, as a mask of holes (R196, R197). -/
def State.offAreas (s : State) : BitVec 288 :=
  (List.range 288).foldl (fun (m : BitVec 288) a => if (s.area a).on then m else m ||| BitVec.ofNat 288 (2 ^ a)) 0

/-- The links marked down, by name (R173, R196). -/
def State.downLinks (s : State) : List (SiteId × Dir) :=
  (s.routers.flatMap fun x =>
    ([Dir.n, .e, .s, .w].filter fun d => x.2.down.getLsbD (Dir.num d)).map fun d =>
      linkName (Fin.ofNat 294912 x.1) d).eraseDups

/-- The first powered site, where the tree of group 0x3FFF has its root. -/
def State.firstSite (s : State) : Option SiteId :=
  ((List.range 288).filter fun a => (s.area a).on).foldl (fun (b : Option SiteId) a =>
    let k := domeSite (a / 24) (a % 24 / 6 * 32) (a % 6 * 32)
    match b with
    | none => some k
    | some j => if k.val < j.val then some k else b) none

/-- A link's mark down removed at both ends (R173). -/
def State.markUp (s : State) (l : SiteId × Dir) : State :=
  let clear (s : State) (k : SiteId) (d : Dir) : State :=
    let r := s.router k
    s.setRouter k { r with down := r.down &&& ~~~((1 : BitVec 4) <<< Dir.num d) }
  let s := clear s l.1 l.2
  match neighbour l.1 l.2 with
  | some n => clear s n (Dir.back l.2)
  | none => s

/-- C packets that wait at down links are routed anew by the version that has become active (R196). -/
def State.rerouteHeld (s : State) : State :=
  let v := s.curVer
  { s with fab := { s.fab with flights := s.fab.flights.map fun f =>
      match f.hold, f.body with
      | some _, .inr c =>
        let c := { c with epoch := v }
        { f with hold := none, body := .inr { c with chk := c.chkOf } }
      | _, _ => f } }

/-- The groups whose tree differs between the two versions at some router or in the group section (R288). -/
def State.changedGroups (s : State) : List Nat :=
  let at_ (r : Router) (v : Bool) : List Word := ((List.range 64).map fun i => r.mcAt v i).filter fun e => wbit e 14
  (s.routers.flatMap fun x =>
    let a := at_ x.2 false
    let b := at_ x.2 true
    ((a.filter fun e => !b.contains e) ++ (b.filter fun e => !a.contains e)).map fun e => wfld e 0 14).eraseDups

/-- A loaded image enters the hash chain of measurement block 7 (R454). -/
def State.noteImage (s : State) (m : BitVec 256 × BitVec 256) : State :=
  let b := leBytes 32 s.sec.images.toNat ++ leBytes 32 m.1.toNat ++ leBytes 32 m.2.toNat
  { s with sec := { s.sec with images := Config.sha3 b } }

/-- What a flip was made for takes effect as it completes: the regions of a load are LOADED; a committed floor plan
clears the fences of the cores it reinstates and is written to flash (R194, R222, R429). -/
def State.afterFlip (s : State) (f : Flip) : State :=
  match f.why with
  | .load ids mark =>
    let s := ids.foldl (fun (s : State) id => s.setRegion id { s.region id with st := 1 }) s
    (s.noteImage mark).completeOpt f.req stOK (BitVec.ofNat 128 ids.length)
  | .plan =>
    let es := s.rel.commit.getD []
    let s := es.foldl (fun (s : State) e =>
      if e.2 ≠ 2 then s
      else match s.fab.coreSite s.curVer e.1 with
        | some k => s.setRouter k { s.router k with fence := none }
        | none => s) s
    let s := { s with rel := { s.rel with commit := none } }.commitPlan s.curVer es.length 0
    s.completeOpt f.req stOK (BitVec.ofNat 128 s.fpGen)
  | _ => s.completeOpt f.req stOK

/-- The version is switched and FLIP sent; the flip completes and settling begins (R194). -/
def State.switchVersion (s : State) : State :=
  let changed := s.changedGroups
  let v := !s.curVer
  let s := (((s.epochBit 0 v).epochBit 2 false).epochBit 3 true).setResult 0
  let s := s.bumpBar (fabBase + 0x50) (fabBase + 0x58) 0 1
  let s := (s.fab.retrained.filter fun l => !(s.fab.avoidOf v).contains l).foldl (fun (s : State) l => s.markUp l) s
  let s := { s with fab := { s.fab with rebuilt := changed, flip := none
                                        retrained := s.fab.retrained.filter fun l => (s.fab.avoidOf v).contains l } }
  let s := s.mapRouters fun _ r => changed.foldl (fun (r : Router) g => r.mcFresh g) r
  let s := s.mapCores fun _ c => changed.foldl (fun (c : Core) g => c.mcFresh g) c
  let covered := (s.offAreas &&& ~~~(s.fab.holesOf v)) == 0 && (s.downLinks.all fun l => (s.fab.avoidOf v).contains l)
    && s.fab.retrained.isEmpty && (s.fab.holesOf v &&& ~~~s.offAreas) == 0
  let s := s.epochBit 4 (wbit s.epochReg 4 && !covered)
  s.rerouteHeld

/-- FLIP sent on the tree of the new version. -/
def State.sendFlip (s : State) : State := s.injectC s.fab.treeRoot .loc (mkC 7 0 s.curVer 0 0 0 0)

/-- The fence of a flip sent (R194). -/
def State.beginFence (s : State) (f : Flip) : State :=
  let s := { s with fab := { s.fab with flip := some f } }
  match s.firstSite with
  | none => s.switchVersion.afterFlip f
  | some root =>
    let s := ({ s with fab := { s.fab with treeRoot := root } }.mapRouters fun _ r => { r with fdone := 0 }).epochBit 2 true
    s.injectC root .loc (mkC 6 0 (!s.curVer) 0 0 0 0)

/-- A core-section entry with a position remapped to its spare site (R185). -/
def spareFor (e : Word) (i : Nat) : Word := setFld e 19 6 i

/-- What the cupola stages for a flip of its own, over a copy of the active version: the exception entries of a
load, the remaps of a floor plan (R222, R429). -/
def State.stageFor (s : State) (f : Flip) : State :=
  let v := !s.curVer
  match f.why with
  | .load ids _ =>
    ids.foldl (fun (s : State) id =>
      (s.region id).routes.foldl (fun (s : State) x =>
        let r := s.router x.1
        s.setRouter x.1 { r with exc := Tbl.set 0 r.exc (verNum v * 128 + x.2.1) x.2.2 }) s) s.copyTables
  | .plan =>
    (s.rel.commit.getD []).foldl (fun (s : State) x =>
      if x.2 = 1 then
        { s with fab := s.fab.setCore v (x.1 / 47) (spareFor (s.fab.core v (x.1 / 47)) (x.1 % 47)) }
      else s) s.copyTables
  | _ => s

/-- A flip that may begin now begins: with its own CHECK, or with a CHECK that matched (R194). -/
def State.beginFlip (s : State) (f : Flip) : State :=
  let s := s.stageFor f
  if f.check then
    ({ s with fab := { s.fab with flip := some f } }.setResult 2).setStaging 2
  else if s.stageResult ≠ 3 then s.failFlip f stINTEGRITY
  else s.beginFence f

/-- The flips that wait begin in turn, as soon as nothing holds them back (R194). -/
def State.nextFlips (s : State) : Nat → State
  | 0 => s
  | n + 1 =>
    if s.flipBusy then s
    else match s.fab.waiting with
      | [] => s
      | f :: fs =>
        if f.check && s.fab.staging != 0 then s
        else ({ s with fab := { s.fab with waiting := fs } }.beginFlip f).nextFlips n

/-- A flip asked for (R194). -/
def State.askFlip (s : State) (f : Flip) : State :=
  let s := { s with fab := { s.fab with waiting := s.fab.waiting ++ [f] } }
  s.nextFlips s.fab.waiting.length

end Sys2Proof.Machine
end

