-- ==== Sys2Proof/Machine/Sync.lean ====
section
/-!
DEFINITION. The send engine, channels, semaphores and combiners (R267-R285, R291).
-/

namespace Sys2Proof.Machine

/-- The fields of a send-engine descriptor (R268). -/
structure EDesc where
  opc   : Nat
  plane : Bool
  ch    : Nat
  cmb   : Nat
  len   : Nat
  user  : Nat
  idx   : Nat
  src   : Nat
  dest  : DWord
  round : Nat
  rsv   : Bool
  deriving DecidableEq, Repr

/-- An operation's descriptor read as a send-engine descriptor (R268). -/
def eDesc (o : Op) : EDesc :=
  { opc := opFld o 0 0 8, plane := opFld o 0 8 1 == 1, ch := opFld o 0 16 6, cmb := opFld o 0 24 3
    len := opFld o 4 0 16, user := opFld o 4 16 8, idx := opFld o 4 24 6, src := opFld o 8 0 32
    dest := BitVec.ofNat 64 (opFld o 0x10 0 64), round := opFld o 0x18 0 10
    rsv := opFld o 0 9 7 != 0 || opFld o 0 22 2 != 0 || opFld o 0 27 5 != 0 || opFld o 4 30 2 != 0
      || opFld o 0xC 0 32 != 0 || opFld o 0x18 10 22 != 0 || opFld o 0x1C 0 32 != 0 }

/-- Whether a destination is a multicast group of this engine (R34, R291). -/
def State.isGroup (s : State) (d : DWord) : Bool :=
  faEngine d == s.ownId && !faM d && decide (0x78000 ≤ faEpid d) && decide (faEpid d < 0x7C000)

/-- The fields of a descriptor stand as R268 allows for its opcode, unused ones 0 (R80, R268, R291). -/
def State.sendOk (s : State) (d : EDesc) : Bool :=
  let uses (l : List Nat) (zero : Bool) : Bool := l.contains d.opc || zero
  !d.rsv && decide (1 ≤ d.opc) && decide (d.opc ≤ 9) && uses [2, 3] (!d.plane) && uses [1, 4, 6, 7] (d.ch == 0)
    && uses [5, 8, 9] (d.cmb == 0) && uses [1, 3, 4, 5] (d.len == 0) && uses [1] (d.user == 0)
    && uses [5] (d.idx == 0 && d.round == 0) && uses [1, 2, 3, 5, 6, 8] (d.src == 0)
    && uses [2, 3, 5, 9] (d.dest == 0)
    && (match d.opc with
        | 1 => decide (d.len ≤ 65528) && decide (d.src + d.len ≤ 0x40000)
        | 2 => d.dest.toNat % 4 == 0 && !(s.isGroup d.dest && d.plane)
        | 3 => d.len != 0 && decide (d.src + d.len ≤ 0x40000) && !(s.isGroup d.dest && d.plane)
        | 4 => decide (1 ≤ d.len) && decide (d.len ≤ 1024)
        | 5 => decide (16 ≤ d.len) && decide (d.len ≤ 4096) && d.len % 16 == 0 && decide (d.src + 4 * d.len ≤ 0x40000)
            && !faM d.dest && decide (faEpid d.dest < coreCount) && faOff d.dest == 0
        | 6 => decide (d.src + 64 ≤ 0x40000)
        | 8 => decide (d.src + 64 ≤ 0x40000)
        | _ => true)

/-- A word of a channel's descriptor, by its byte offset (R271). -/
def Core.ch (c : Core) (n w : Nat) : Word := c.chanW (64 * n + w)

/-- A channel's state: 0 CLOSED, 1 OPEN, 2 FROZEN (R271). -/
def Core.chState (c : Core) (n : Nat) : Nat := wfld (c.ch n 0) 0 2

/-- Whether a channel is a SEND channel (R271). -/
def Core.chSend (c : Core) (n : Nat) : Bool := wbit (c.ch n 0) 2

/-- A channel's plane (R271). -/
def Core.chPlane (c : Core) (n : Nat) : Plane := if wbit (c.ch n 0) 3 then .s else .v

/-- A channel's PEER (R271). -/
def Core.chPeer (c : Core) (n : Nat) : DWord := c.ch n 0xC ++ c.ch n 8

/-- A core with a channel's state set. -/
def Core.setChState (c : Core) (n st : Nat) : Core := c.setChan (64 * n) (setFld (c.ch n 0) 0 2 st)

/-- A packet still to be injected by the send engine: plane, destination, type, tag, payload. -/
def State.toSend (s : State) (k : SiteId) (o : Op) (plane : Plane) (dest : DWord) (type : Byte) (tag : Nat)
    (payload : List Byte) : Packet :=
  let p := mkPacket s plane dest 0 false type payload.length payload
  { p with gen := (s.core k).genOf o, tag := BitVec.ofNat 16 tag }

/-- Bytes from a position cut at multiples of a packet's size: position and bytes of each piece (R274). -/
def cutAt (size : Nat) : Nat → Nat → List Byte → List (Nat × List Byte)
  | 0, _, _ => []
  | n + 1, pos, b =>
    if b = [] then []
    else
      let m := size - pos % size
      (pos, b.take m) :: cutAt size n (pos + m) (b.drop m)

/-- The largest payload of a plane (R174, R175). -/
def planeMax : Plane → Nat
  | .v => 256
  | _ => 64

/-- A record header (R272). -/
def recordHeader (len : Nat) (pad : Bool) (user seq slots : Nat) : List Byte :=
  leBytes 8 (len + (pad.toNat <<< 16) + (user <<< 24) + ((seq % 65536) <<< 32) + (slots <<< 48))

/-- An operation that is being dispatched put among those executing, in front of its engine's queue's rest. -/
def Core.startSend (c : Core) (o : Op) : Core := c.dispatch 4 o

/-- Operations of the send engine with nothing left to inject and every packet answered complete (R267). -/
def Core.settleSends (c : Core) : Core :=
  let e := c.engine 4
  (c.setEngine 4 { e with run := e.run.map fun o =>
    { o with finished := o.left == [] && o.unacked == 0 && !o.waiting } }).retireOps 4

/-- The send engine injects what it may, completed operations retire, and the core may be done. -/
def State.sendOn (s : State) (k : SiteId) : State :=
  let s := s.pump k
  let d := (s.core k).engine 4
  let s := s.modCore k Core.settleSends
  let s := if ((s.core k).engine 4).done = d.done then s else s.modCore k Core.progress
  s.checkDone k

/-- Slots a SEND takes: its record, and a pad where the record would cross the ring's end (R273). -/
def Core.sendSlots (c : Core) (d : EDesc) : Nat × Nat :=
  let size := wfld (c.ch d.ch 0x10) 0 11
  let n := (8 + d.len + 63) / 64
  let pos := (c.ch d.ch 0x1C).toNat % size
  (n, if pos + n > size then size - pos else 0)

/-- Whether a channel has the credits a SEND needs (R273). -/
def Core.sendCredit (c : Core) (d : EDesc) : Bool :=
  let (n, pad) := c.sendSlots d
  let size := wfld (c.ch d.ch 0x10) 0 11
  decide (pad + n + (c.ch d.ch 0x1C - c.ch d.ch 0x20).toNat ≤ size)

/-- The LAND packets of some ring bytes of a channel (R274). -/
def State.landPackets (s : State) (k : SiteId) (o : Op) (ch pos : Nat) (b : List Byte) : List Packet :=
  let c := s.core k
  let plane := c.chPlane ch
  (cutAt (planeMax plane) b.length pos b).map fun x =>
    s.toSend k o plane (c.chPeer ch + BitVec.ofNat 64 ((c.ch ch 0x18).toNat + x.1)) tLAND
      (wfld (c.ch ch 4) 0 6) x.2

/-- A SEND whose credits suffice: its pad, record and status are ready to be injected and the channel's totals
advance (R272-R274). -/
def State.sendNow (s : State) (k : SiteId) (o : Op) (body : List Byte) : State × Op :=
  let c := s.core k
  let d := eDesc o
  let (n, pad) := c.sendSlots d
  let size := wfld (c.ch d.ch 0x10) 0 11
  let wr := c.ch d.ch 0x1C
  let pos := wr.toNat % size
  let msgs := wfld (c.ch d.ch 0x24) 0 16
  let wr' := wr + BitVec.ofNat 32 (pad + n)
  let msgs' := (msgs + 1) % 65536
  let pads := if pad = 0 then [] else s.landPackets k o d.ch (64 * pos) (recordHeader 0 true 0 0 pad)
  let at_ := if pad = 0 then 64 * pos else 0
  let rec_ := s.landPackets k o d.ch at_ (recordHeader d.len false d.user msgs n ++ body)
  let status := s.toSend k o (c.chPlane d.ch) (c.chPeer d.ch + BitVec.ofNat 64 (c.ch d.ch 0x14).toNat) tLAND
    (wfld (c.ch d.ch 4) 0 6 + 64) (leBytes 4 ((msgs' <<< 16) + wr'.toNat % size))
  let c := (c.setChan (64 * d.ch + 0x1C) wr').setChan (64 * d.ch + 0x24) (BitVec.ofNat 32 msgs')
  (s.setCore k c, { o with left := pads ++ rec_ ++ [status], waiting := false })

/-- A fault of the send engine's head operation. -/
def State.sendFault (s : State) (k : SiteId) (o : Op) (f : Nat × Byte) : State := s.engineFault k 4 f.1 f.2 o.off

/-- Bytes the send engine reads from SRAM: it waits for a bank that is not up, and an uncorrectable codeword is
a fault FETCH; otherwise `go` goes on with them (R151, R160, R269). -/
def State.withBytes (s : State) (k : SiteId) (o : Op) (a n : Nat) (go : List Byte → State → State) : State :=
  let c := s.core k
  if !(c.sramUp a n) then s.putCore k (c.wakeBytes a n)
  else match c.sramRead 2 a n with
    | (c, none) => (s.putCore k c).sendFault k o (3, rUNCORR)
    | (c, some b) => go b (s.putCore k c)

/-- SEND (R269, R273). -/
def seSend (k : SiteId) (o : Op) (s : State) : State :=
  let c := s.core k
  let d := eDesc o
  let st := c.chState d.ch
  if !(c.chSend d.ch) then s.sendFault k o (2, 0)
  else if st ≠ 1 then (s.putCore k (((c.pend o.ctx.toNat 0).bump 0x100D10 1).startSend o)).sendOn k
  else if wfld (c.ch d.ch 0x10) 0 11 < (c.sendSlots d).1 then s.sendFault k o (2, 0)
  else if !(c.sendCredit d) then s.setCore k (c.startSend { o with waiting := true })
  else s.withBytes k o d.src d.len fun b s =>
    let (s, o) := s.sendNow k o b
    (s.modCore k fun c => c.startSend o).sendOn k

/-- A SEND that waited for credits goes on (R273). -/
def sendResume (k : SiteId) (s : State) : State :=
  let c := s.core k
  match (c.engine 4).run.find? fun o => o.waiting with
  | none => s
  | some o =>
    let d := eDesc o
    if c.chState d.ch ≠ 1 then
      (s.putCore k (((c.pend o.ctx.toNat 0).bump 0x100D10 1).mapOp 4 o.seq fun o => { o with waiting := false })).sendOn k
    else if !(c.sendCredit d) then s
    else s.withBytes k o d.src d.len fun b s =>
      let (s, o) := s.sendNow k o b
      (s.modCore k fun c => c.mapOp 4 o.seq fun _ => o).sendOn k

/-- Packets of a write of some bytes to a destination, cut at the destination's own boundaries; to a group they
are multicast writes (R279, R291). -/
def State.putPackets (s : State) (k : SiteId) (o : Op) (d : EDesc) (b : List Byte) : List Packet :=
  let plane := if d.plane then Plane.s else Plane.v
  let type := if s.isGroup d.dest then tMC_WR else tWR
  (cutAt (planeMax plane) b.length (d.dest.toNat % 256) b).map fun x =>
    s.toSend k o plane (d.dest + BitVec.ofNat 64 (x.1 - d.dest.toNat % 256)) type 0 x.2

/-- SIGNAL (R279, R291). -/
def seSignal (k : SiteId) (o : Op) (s : State) : State :=
  let d := eDesc o
  (s.modCore k fun c => c.startSend { o with left := s.putPackets k o d (leBytes 4 d.src) }).sendOn k

/-- PUT (R268, R291). -/
def sePut (k : SiteId) (o : Op) (s : State) : State :=
  let d := eDesc o
  s.withBytes k o d.src d.len fun b s =>
    (s.modCore k fun c => c.startSend { o with left := s.putPackets k o d b }).sendOn k

/-- RELEASE (R277). -/
def seRelease (k : SiteId) (o : Op) (s : State) : State :=
  let c := s.core k
  let d := eDesc o
  if c.chSend d.ch then s.sendFault k o (2, 0)
  else
    let rd := c.ch d.ch 0x20 + BitVec.ofNat 32 d.len
    let c := c.setChan (64 * d.ch + 0x20) rd
    let dest := c.chPeer d.ch + BitVec.ofNat 64 (0x200020 + 64 * wfld (c.ch d.ch 4) 0 6)
    let p := s.toSend k o .s dest tWR 0 (leBytes 4 rd.toNat)
    (s.setCore k (c.startSend { o with left := if c.chState d.ch = 1 then [p] else [] })).sendOn k

/-- CONTRIB (R281). -/
def seContrib (k : SiteId) (o : Op) (s : State) : State :=
  let d := eDesc o
  s.withBytes k o d.src (4 * d.len) fun b s =>
    let ps := (List.range (d.len / 16)).map fun i =>
      s.toSend k o .s (d.dest + BitVec.ofNat 64 (0x310000 + 0x4000 * d.cmb + 64 * i)) tCONTRIB
        (d.idx + (d.round <<< 6)) (slice b (64 * i) 64)
    (s.modCore k fun c => c.startSend { o with left := ps }).sendOn k

/-- A 32-bit word of a template. -/
def tw (b : List Byte) (off : Nat) : Word := BitVec.ofNat 32 (leAt b off 4)

/-- A channel template stands as R271 asks. -/
def Core.chTemplateOk (c : Core) (b : List Byte) : Bool :=
  let w0 := tw b 0
  let send := wbit w0 2
  let peer : DWord := tw b 0xC ++ tw b 8
  let size := (tw b 0x10).toNat
  (List.range 16).all (fun i => tw b (4 * i) &&& ~~~(chanMask (4 * i)) == 0) && wfld w0 0 2 != 3
    && !faM peer && decide (faEpid peer < coreCount) && faOff peer == 0
    && decide (2 ≤ size) && decide (size ≤ 1024) && leAt b 0x14 4 % 4 == 0
    && (send || (winValid (c.win (wfld w0 8 4)) && size == winSize (c.win (wfld w0 8 4)) && leAt b 0x18 4 == 0
        && leAt b 0x1C 4 == 0 && leAt b 0x24 4 == 0))

/-- CH_OPEN (R270, R271). -/
def seOpen (k : SiteId) (o : Op) (s : State) : State :=
  let d := eDesc o
  if (s.core k).chState d.ch = 1 then s.sendFault k o (2, 0)
  else s.withBytes k o d.src 64 fun b s =>
    if !((s.core k).chTemplateOk b) then s.sendFault k o (2, 0)
    else
      let c := (List.range 16).foldl (fun (c : Core) i => c.setChan (64 * d.ch + 4 * i) (tw b (4 * i))) (s.core k)
      (s.setCore k ((c.setChState d.ch 1).startSend o)).sendOn k

/-- CH_CLOSE (R278). -/
def seClose (k : SiteId) (o : Op) (s : State) : State :=
  let d := eDesc o
  (s.modCore k fun c => (c.setChState d.ch 0).startSend o).sendOn k

/-- A word of a combiner's descriptor, by its byte offset (R280). -/
def Core.cb (c : Core) (m w : Nat) : Word := c.cmbW (64 * m + w)

/-- A combiner's 64-bit field. -/
def Core.cb64 (c : Core) (m w : Nat) : DWord := c.cb m (w + 4) ++ c.cb m w

/-- A core with a combiner's 64-bit field set. -/
def Core.setCb64 (c : Core) (m w : Nat) (v : DWord) : Core :=
  (c.setCmb (64 * m + w) (v.setWidth 32)).setCmb (64 * m + w + 4) ((v >>> 32).setWidth 32)

/-- A combiner's STATE: 0 DISARMED, 1 COLLECTING, 2 FINISHING (R280). -/
def Core.cbState (c : Core) (m : Nat) : Nat := wfld (c.cb m 0) 0 2

/-- A core with a combiner's STATE set. -/
def Core.setCbState (c : Core) (m st : Nat) : Core := c.setCmb (64 * m) (setFld (c.cb m 0) 0 2 st)

/-- A combiner's LEN, ROUND and STAGE_SLOTS (R280). -/
def Core.cbLen (c : Core) (m : Nat) : Nat := wfld (c.cb m 4) 0 13
def Core.cbRound (c : Core) (m : Nat) : Nat := wfld (c.cb m 4) 16 16
def Core.cbSlots (c : Core) (m : Nat) : Nat := wfld (c.cb m 0x28) 0 4

/-- A combiner's round in progress. -/
def Core.round (c : Core) (m : Nat) : CmbRound := Tbl.get CmbRound.reset c.cmbRound m

/-- A core with a combiner's round set. -/
def Core.setRound (c : Core) (m : Nat) (r : CmbRound) : Core :=
  { c with cmbRound := Tbl.set CmbRound.reset c.cmbRound m r }

/-- Two byte ranges do not meet. -/
def apart (a n b m : Nat) : Bool := decide (a + n ≤ b) || decide (b + m ≤ a)

/-- A combiner template stands as R280 asks. -/
def cmbTemplateOk (b : List Byte) : Bool :=
  let w0 := leAt b 0 4
  let len := fld (leAt b 4 4) 0 13
  let acc := leAt b 0x20 4
  let stage := leAt b 0x24 4
  let slots := leAt b 0x28 4
  let res := leAt b 0x2C 4
  let stat := leAt b 0x30 4
  let n := 4 * len
  let m := slots * n
  fld w0 15 1 == 0 && fld w0 21 11 == 0 && fld w0 0 2 != 3 && fld (leAt b 4 4) 13 3 == 0 && len % 16 == 0
    && decide (16 ≤ len) && decide (len ≤ 4096) && leAt b 0x18 8 == 0 && decide (1 ≤ slots) && decide (slots ≤ 8)
    && acc % 64 == 0 && stage % 64 == 0 && res % 64 == 0 && stat % 4 == 0 && leAt b 0x34 4 / 2 ^ 14 == 0
    && leAt b 0x38 8 == 0 && decide (acc + n ≤ 0x40000) && decide (stage + m ≤ 0x40000)
    && decide (res + n ≤ 0x40000) && decide (stat + 4 ≤ 0x40000)
    && apart acc n stage m && apart acc n res n && apart acc n stat 4 && apart stage m res n
    && apart stage m stat 4 && apart res n stat 4

/-- `w / n` rounded to nearest even (R283). -/
def fdivNat (w : Word) (n : Nat) : Word :=
  match f32 w with
  | .fin neg m e =>
    let q := (m <<< 40) / n
    toF32 (.fin neg (2 * q + (if (m <<< 40) % n = 0 then 0 else 1)) (e - 41))
  | v => toF32 v

/-- FP32 words of SRAM read a codeword at a time, an uncorrectable one as four NaN (R160). -/
def Core.readWords (c : Core) (a : Nat) : Nat → Core × List Word
  | 0 => (c, [])
  | n + 1 =>
    let (c, b) := c.sramRead 2 a 16
    let ws := match b with
      | some b => [tw b 0, tw b 4, tw b 8, tw b 12]
      | none => [nan32, nan32, nan32, nan32]
    let (c, r) := c.readWords (a + 16) n
    (c, ws ++ r)

/-- FP32 words written to SRAM. -/
def Core.writeWords (c : Core) (a : Nat) (ws : List Word) : Core :=
  (c.sramWrite 2 a (ws.flatMap fun w => leBytes 4 w.toNat)).1

/-- The lowest contributor expected that is neither folded nor declared failed (R282). -/
def Core.cbNext (c : Core) (m : Nat) : Option Nat :=
  let mask := c.cb64 m 8 &&& ~~~(c.cb64 m 0x10) &&& ~~~(c.round m).folded
  (List.range 64).find? fun i => mask.getLsbD i

/-- A contributor folded: the accumulator takes the staged values in (R283). -/
def Core.foldOne (c : Core) (m i : Nat) : Core :=
  let n := c.cbLen m
  let r := c.round m
  let acc := (c.cb m 0x20).toNat
  let stage := (c.cb m 0x24).toNat + (i % c.cbSlots m) * 4 * n
  let (c, a) := if r.n = 0 then (c, List.replicate n 0) else c.readWords acc (n / 4)
  let (c, x) := c.readWords stage (n / 4)
  let c := c.writeWords acc (List.zipWith fadd a x)
  c.setRound m { r with folded := r.folded ||| (1 <<< i), n := r.n + 1, pieces := Tbl.set 0 r.pieces i 0 }

/-- The SRAM a combiner works in is up. -/
def Core.cbUp (c : Core) (m : Nat) : Bool :=
  let n := 4 * c.cbLen m
  c.sramUp (c.cb m 0x20).toNat n && c.sramUp (c.cb m 0x24).toNat (c.cbSlots m * n) && c.sramUp (c.cb m 0x2C).toNat n
    && c.sramUp (c.cb m 0x30).toNat 4

/-- The multicast writes of some bytes at an offset of a group's members (R283). -/
def State.groupWrite (s : State) (k : SiteId) (g off : Nat) (b : List Byte) : State :=
  (cutAt 256 b.length off b).foldl (fun (s : State) x =>
    let (s, p, _) := s.newRequest k .v (s.faOf (0x78000 + g) x.1) tMC_WR 0 0 x.2.length x.2
    s.enter k p) s

/-- A round completes: its result and status are written and sent, and the next begins or the combiner is
disarmed (R283). -/
def State.finishRound (s : State) (k : SiteId) (m : Nat) : State :=
  let c := s.core k
  let len := c.cbLen m
  let r := c.round m
  let w0 := c.cb m 0
  let g := wfld (c.cb m 0x34) 0 14
  let mc := wbit w0 6
  if mc && !(s.mayInject k (s.faOf (0x78000 + g) 0) .v) then s.setCore k (c.setCbState m 2)
  else
    let (c, a) := if r.n = 0 then (c, List.replicate len 0) else c.readWords (c.cb m 0x20).toNat (len / 4)
    let res := if wbit w0 2 then a.map fun x => if r.n = 0 then nan32 else fdivNat x r.n else a
    let resOff := (c.cb m 0x2C).toNat
    let statOff := (c.cb m 0x30).toNat
    let round := (c.cbRound m + 1) % 65536
    let status := leBytes 4 ((round <<< 16) + (if r.n = 0 then 2 ^ 15 else 0) + r.n)
    let c := c.writeWords resOff res
    let (c, _) := c.sramWrite 2 statOff status
    let c := if wbit w0 7 then c.setFlags (1 <<< wfld w0 8 4) else c
    let c := (c.setCmb (64 * m + 4) (setFld (c.cb m 4) 16 16 round)).setCb64 m 0x18 0
    let c := (c.setCbState m (if wbit w0 4 then 1 else 0)).setRound m CmbRound.reset
    let s := s.putCore k c
    if mc then (s.groupWrite k g resOff (res.flatMap fun w => leBytes 4 w.toNat)).groupWrite k g statOff status else s

/-- The links of a core's bypass chain with a mode bit set: bit 0 tap in, bit 1 tap out (R209, RGN_BYP of R247). -/
def Core.taps (c : Core) (bit : Nat) : List Nat :=
  (List.range 4).filter fun d => (wfld (c.reg 0x100644) (2 * d) 2).testBit bit

/-- The contributor a combiner of a bypass chain folds itself: the lowest of its MASK (R285). -/
def Core.chainOwn (c : Core) (m : Nat) : Option Nat := (List.range 64).find? fun i => (c.cb64 m 8).getLsbD i

/-- Whether a chain combiner's own values have arrived or have been declared failed. -/
def Core.chainReady (c : Core) (m : Nat) : Bool :=
  match c.chainOwn m with
  | some i => (c.cb64 m 0x18).getLsbD i || (c.cb64 m 0x10).getLsbD i
  | none => true

/-- Sixteen elements of the running sum of a chain, with the combiner's own folded in unless it has failed (R285). -/
def Core.chainFold (c : Core) (m e : Nat) (sum : List Word) : Core :=
  match c.chainOwn m with
  | none => c.writeWords ((c.cb m 0x20).toNat + 4 * e) sum
  | some i =>
    if (c.cb64 m 0x10).getLsbD i then c.writeWords ((c.cb m 0x20).toNat + 4 * e) sum
    else
      let (c, x) := c.readWords ((c.cb m 0x24).toNat + (i % c.cbSlots m) * 4 * c.cbLen m + 4 * e) 4
      c.writeWords ((c.cb m 0x20).toNat + 4 * e) (List.zipWith fadd sum x)

/-- A chain combiner has folded every element: the last of its chain completes the round, another passes the sum on
and begins its next (R283, R285). -/
def State.chainEnd (s : State) (k : SiteId) (m : Nat) : State :=
  let c := s.core k
  let last := (c.chainOwn m).getD 63
  let ok := (List.range (last + 1)).countP fun i => !((c.cb64 m 0x10).getLsbD i)
  if c.taps 1 = [] then (s.setCore k (c.setRound m { c.round m with n := ok })).finishRound k m
  else
    let c := (c.setCmb (64 * m + 4) (setFld (c.cb m 4) 16 16 ((c.cbRound m + 1) % 65536))).setCb64 m 0x18 0
    s.setCore k ((c.setCbState m (if wbit (c.cb m 0) 4 then 1 else 0)).setRound m CmbRound.reset)

/-- A chain combiner as far as it goes without a word of its chain: one with no tap-in begins the sum (R285). -/
def State.chainRun (s : State) (k : SiteId) (m : Nat) : State :=
  let c := s.core k
  if c.cbState m = 2 then s.finishRound k m
  else if c.cbState m = 1 ∧ c.taps 0 = [] ∧ c.chainReady m ∧ c.chainOwn m ≠ none then
    (s.putCore k ((List.range (c.cbLen m / 16)).foldl (fun (c : Core) j =>
      c.chainFold m (16 * j) (List.replicate 16 0)) c)).chainEnd k m
  else s

/-- A combiner folds what has arrived, in contributor order, and completes when nobody is awaited (R283). -/
def State.cmbAdvance (s : State) (k : SiteId) (m : Nat) : Nat → State
  | 0 => s
  | n + 1 =>
    let c := s.core k
    if c.cbState m = 0 ∨ !(c.cbUp m) then s
    else if wbit (c.cb m 0) 5 then s.chainRun k m
    else match c.cbNext m with
      | none => if c.cbState m = 1 ∧ c.cb64 m 8 = 0 ∧ c.cb64 m 0x10 = 0 ∧ wbit (c.cb m 0) 4 then s
                else s.finishRound k m
      | some i => if (c.cb64 m 0x18).getLsbD i then (s.putCore k (c.foldOne m i)).cmbAdvance k m n else s

/-- A combiner goes as far as it can. -/
def State.cmbRun (s : State) (k : SiteId) (m : Nat) : State := s.cmbAdvance k m 65

/-- CMB_ARM (R280). -/
def seArm (k : SiteId) (o : Op) (s : State) : State :=
  let d := eDesc o
  if (s.core k).cbState d.cmb ≠ 0 then s.sendFault k o (2, 0)
  else s.withBytes k o d.src 64 fun b s =>
    if !(cmbTemplateOk b) then s.sendFault k o (2, 0)
    else
      let c := (List.range 16).foldl (fun (c : Core) i => c.setCmb (64 * d.cmb + 4 * i) (tw b (4 * i))) (s.core k)
      let c := (c.setCbState d.cmb 1).setRound d.cmb CmbRound.reset
      ((s.setCore k (c.startSend o)).cmbRun k d.cmb).sendOn k

/-- CMB_FAIL (R284). -/
def seFail (k : SiteId) (o : Op) (s : State) : State :=
  let d := eDesc o
  ((s.modCore k fun c => (c.setCb64 d.cmb 0x10 (c.cb64 d.cmb 0x10 ||| d.dest)).startSend o).cmbRun k d.cmb).sendOn k

/-- The send engine dispatches its head operation of an opcode, once the one before has finished injecting
(R267, R268). -/
def seDispatch (opc : Nat) (body : SiteId → Op → State → State) (k : SiteId) (s : State) : State :=
  let e := (s.core k).engine 4
  match e.queue with
  | [] => s
  | o :: _ =>
    let d := eDesc o
    if 1 ≤ d.opc ∧ d.opc ≤ 9 ∧ d.opc ≠ opc then s
    else if e.run.any fun x => x.left != [] || x.waiting then s
    else if !(s.sendOk d) then s.sendFault k o (2, 0)
    else body k o s

/-- What a final answer to a packet of the send engine does, by the operation it serves (R269). -/
def State.sendAnswered (s : State) (k : SiteId) (r : Rtx) (code : Byte) : State :=
  let c := s.core k
  let op := (c.engine 4).run.find? fun o => o.seq == r.op
  let s := s.setCore k (c.mapOp 4 r.op fun o => { o with unacked := o.unacked - 1 })
  match op with
  | none => s
  | some o =>
    let d := eDesc o
    if code = rOK then s.sendOn k
    else if d.opc = 4 then (s.modCore k fun c => c.bump 0x100D14 1).sendOn k
    else if d.opc = 1 ∧ (code = rCLOSED ∨ code = rTIMEOUT) then
      (s.modCore k fun c =>
        let c := c.mapOp 4 r.op fun o => { o with left := [] }
        if c.chState d.ch = 1 then ((c.setChState d.ch 2).pend o.ctx.toNat 0).bump 0x100D10 1 else c).sendOn k
    else s.sendFault k o (3, code)

/-- A combiner's round times out, once while it is still COLLECTING (R284). -/
def cmbTimeout (k : SiteId) (m : Nat) (s : State) : State :=
  let c := s.core k
  if c.cbState m ≠ 1 || (c.round m).timed then s
  else
    let w0 := c.cb m 0
    let c := c.setRound m { c.round m with timed := true }
    let c := (c.pend (wfld w0 12 3) 1).bump 0x100D1C 1
    let missing := c.cb64 m 8 &&& ~~~(c.cb64 m 0x18) &&& ~~~(c.cb64 m 0x10)
    let c := if wbit w0 3 then c.setCb64 m 0x10 (c.cb64 m 0x10 ||| missing) else c
    (s.putCore k c).cmbRun k m

/-- SEND (R273). -/
def execSend (k : SiteId) (s : State) : Res := .next (seDispatch 1 seSend k s)

/-- SEND_CREDIT_RESUME (R273). -/
def execSendCreditResume (k : SiteId) (s : State) : Res := .next (sendResume k s)

/-- SIGNAL (R279). -/
def execSignal (k : SiteId) (s : State) : Res := .next (seDispatch 2 seSignal k s)

/-- PUT (R291). -/
def execPut (k : SiteId) (s : State) : Res := .next (seDispatch 3 sePut k s)

/-- RELEASE (R277). -/
def execRelease (k : SiteId) (s : State) : Res := .next (seDispatch 4 seRelease k s)

/-- CONTRIB (R281). -/
def execContrib (k : SiteId) (s : State) : Res := .next (seDispatch 5 seContrib k s)

/-- CH_OPEN (R270). -/
def execChOpen (k : SiteId) (s : State) : Res := .next (seDispatch 6 seOpen k s)

/-- CH_CLOSE (R278). -/
def execChClose (k : SiteId) (s : State) : Res := .next (seDispatch 7 seClose k s)

/-- CMB_ARM (R280). -/
def execCmbArm (k : SiteId) (s : State) : Res := .next (seDispatch 8 seArm k s)

/-- CMB_FAIL (R284). -/
def execCmbFail (k : SiteId) (s : State) : Res := .next (seDispatch 9 seFail k s)

/-- CMB_ROUND_TIMEOUT (R284). -/
def execCmbRoundTimeout (k : SiteId) (m : Fin 8) (s : State) : Res := .next (cmbTimeout k m s)

/-- CMB_FAILED_WRITE (R280, R284). -/
def execCmbFailedWrite (k : SiteId) (m : Fin 8) (hi : Bool) (v : Word) (s : State) : Res :=
  .next ((s.modCore k fun c => c.cmbWrite (64 * m.val + 0x10 + 4 * hi.toNat) v).cmbRun k m)

/-- TOKQ_POP_READ (R224). -/
def execTokqPopRead (k : SiteId) (n : Fin 16) (s : State) : Res := .next (s.coreRead k (0x100700 + 4 * n.val)).1

end Sys2Proof.Machine
end

