-- ==== Sys2Proof/Machine/Dest.lean ====
section
/-!
DEFINITION. What arrives at a core: its checks, reads and writes of the core's offset space, channel landings,
combiner contributions, multicast writes and dataflow tokens (R37, R142, R150, R160, R174-R178, R185, R198-R205,
R225, R275, R276, R282).
-/

namespace Sys2Proof.Machine

/-- The CRC and HCRC of a packet stand (R174, R199). -/
def crcGood (p : Packet) : Bool := p.crc == p.crcOf
def hcrcGood (p : Packet) : Bool := p.hcrc == p.hcrcOf

/-- A V or S packet belongs to VC1 (R176). -/
def onVc1 (p : Packet) : Bool := isResponse p.type

/-- The hold entry that stands against a packet's source, plane and VC (R199). -/
def NetIf.holdFor (n : NetIf) (p : Packet) : Option HoldEnt :=
  n.holds.find? fun h => h.engine == p.srcEngine && h.epid == p.srcEpid && h.plane == p.plane && h.vc == onVc1 p

/-- RT_CRC_CNT (R199). -/
def State.crcFail (s : State) (k : SiteId) : State := s.modCore k fun c => c.bump 0x100520 1

/-- A refusal by the core at a site (R176, R178). -/
def State.nakFrom (s : State) (k : SiteId) (p : Packet) (code : Byte) : State :=
  s.refuse k (s.answerEpid p.dest) p code

/-- The end-to-end check of a request: `go` acts on an accepted packet (R199). -/
def State.endCheck (s : State) (k : SiteId) (p : Packet) (go : State → State) : State :=
  let c := s.core k
  let ejected (s : State) : State := s.modCore k Core.progress
  if !(hcrcGood p) then (s.crcFail k).regionFault k 6 0
  else
    match c.net.holdFor p with
    | some h =>
      if crcGood p then
        if p.resend && p.seq == h.seq then
          go (ejected (s.modCore k fun c => { c with net := { c.net with holds := c.net.holds.erase h } }))
        else s.nakFrom k p rHELD
      else if p.seq == h.seq then (s.crcFail k).nakFrom k p rCRC
      else (s.crcFail k).nakFrom k p rHELD
    | none =>
      if crcGood p then go (ejected s)
      else if c.net.holds.length < 4 then
        let h : HoldEnt := { engine := p.srcEngine, epid := p.srcEpid, plane := p.plane, vc := onVc1 p, seq := p.seq }
        ((s.crcFail k).modCore k fun c => { c with net := { c.net with holds := c.net.holds ++ [h] } }).nakFrom k p rCRC
      else (s.crcFail k).regionFault k 6 0

/-- Whether the endpoint a packet names is a core of this engine. -/
def State.namesCore (s : State) (d : DWord) : Bool := faEngine d == s.ownId && !faM d && decide (faEpid d < coreCount)

/-- Whether the endpoint a packet names answers BAD_OFFSET to all requests: the cupola, and an MSD or a lantern by
its own EPID, for which no map of offsets is given (R37, R333). -/
def State.namesVoid (s : State) (d : DWord) : Bool :=
  let e := faEpid d
  faEngine d == s.ownId && !faM d && (e == 0x7FF00 || (decide (0x70000 ≤ e) && decide (e < 0x71030)))

/-- A request of a type received at a site; it waits at the router while the dome does not run (R392): an aborted or reserved one is dropped, a fenced core's router answers
FENCED and one in reset RESET; then the end-to-end check (R173, R176, R185, R199, R203). -/
def State.receive (s : State) (k : SiteId) (p : Packet) (type : Byte) (go : State → State) : State :=
  if (p.type ≠ type ∧ knownType p.type) ∨ (s.namesCore p.dest ∧ !(s.siteRuns k)) then s
  else
    let s := s.land k (.inl p)
    if p.aborted || p.type != type then s.dropAt k
    else if s.namesVoid p.dest then s.nakFrom k p rBADOFF
    else if !(s.namesCore p.dest) then s.routerRefuse k p rNOEND
    else if s.fenced k then s.routerRefuse k p rFENCED
    else if s.inReset k then s.routerRefuse k p rRESET
    else s.endCheck k p go

/-- The banks some SRAM bytes meet. -/
def banksOf (a n : Nat) : List Nat :=
  (List.range 4).filter fun b => decide (0 < n) && decide (a / 0x10000 ≤ b) && decide (b ≤ (a + n - 1) / 0x10000)

/-- Whether a bank refuses landings: not ON, or under a test of its own or of its area (R150, R410). -/
def State.bankShut (s : State) (k : SiteId) (b : Nat) : Bool :=
  !((s.core k).bankUp b) || (s.area (siteArea k)).borrowed

/-- Whether inbound accesses to some SRAM bytes are refused BUSY (R150, R231). -/
def State.sramBusy (s : State) (k : SiteId) (a n : Nat) : Bool :=
  (banksOf a n).any fun b => s.remoteClosed k b || s.bankShut k b

/-- A refusal BUSY on account of a bank, counted in MEM_BUSY_CNT (R150). -/
def State.bankBusy (s : State) (k : SiteId) (p : Packet) : State :=
  (s.modCore k fun c => c.bump 0x10048C 1).nakFrom k p rBUSY

/-- An access decodes to whole words of a core's registers (R37). -/
def wordsDecode (off n : Nat) : Bool :=
  off % 4 == 0 && n % 4 == 0 && decide (0 < n) && (List.range (n / 4)).all fun i => coreDecoded (off + 4 * i)

/-- Register words read in ascending order; none where a codeword behind one is uncorrectable. -/
def State.readRegs (s : State) (k : SiteId) (off : Nat) : Nat → State × Option (List Byte)
  | 0 => (s, some [])
  | n + 1 =>
    let (s, v) := s.coreRead k off
    let (s, r) := s.readRegs k (off + 4) n
    (s, match v, r with
      | some v, some r => some (leBytes 4 v.toNat ++ r)
      | _, _ => none)

/-- An inbound read of a core's offset space: the response code and the bytes (R37, R150, R160). -/
def State.coreFetch (s : State) (k : SiteId) (off n : Nat) : State × Byte × List Byte :=
  if off + n ≤ 0x40000 then
    if s.sramBusy k off n then (s.modCore k fun c => c.bump 0x10048C 1, rBUSY, [])
    else
      match (s.core k).sramRead 2 off n with
      | (c, some b) => (s.putCore k c, rOK, b)
      | (c, none) => (s.putCore k c, rUNCORR, [])
  else if wordsDecode off n then
    match s.readRegs k off (n / 4) with
    | (s, some b) => (s, rOK, b)
    | (s, none) => (s, rUNCORR, [])
  else (s, rBADOFF, [])

/-- A word written to a core's registers as a fabric write does; a declaration of failure lets its combiner go on
(R270, R280, R284). -/
def State.regStore (s : State) (k : SiteId) (off : Nat) (v : Word) : State :=
  let s := s.coreWrite k off v
  if inWords off 0x300000 128 then s.cmbRun k (off % 0x200 / 64) else s

/-- Register words written: a descriptor's words from the last to the first, so that its state changes last; other
registers in ascending order. -/
def State.writeRegs (s : State) (k : SiteId) (off : Nat) (b : List Byte) : State :=
  let ix := List.range (b.length / 4)
  (if 0x200000 ≤ off then ix.reverse else ix).foldl (fun (s : State) i => s.regStore k (off + 4 * i) (tw b (4 * i))) s

/-- An inbound write of a core's offset space: the response code (R37, R142, R150, R160). -/
def State.coreStore (s : State) (k : SiteId) (off : Nat) (b : List Byte) : State × Byte :=
  if off + b.length ≤ 0x40000 then
    if s.sramBusy k off b.length then (s.modCore k fun c => c.bump 0x10048C 1, rBUSY)
    else
      match (s.core k).sramWrite 2 off b with
      | (c, true) => (s.putCore k c, rOK)
      | (c, false) => (s.putCore k c, rUNCORR)
  else if wordsDecode off b.length then (s.writeRegs k off b, rOK)
  else (s, rBADOFF)

/-- The gathered acknowledgements of one source sent (R198). -/
def State.sendAck (s : State) (k : SiteId) (a : AckGather) : State :=
  let c := s.core k
  let s := s.setCore k { c with net := { c.net with acks := c.net.acks.erase a } }
  s.answer k c.net.epoch (s.epidOf k) a.engine a.epid a.plane tACK rOK a.base a.mask []

/-- Acknowledgements in a mask. -/
def ackCount (m : BitVec 16) : Nat := (List.range 16).countP fun i => m.getLsbD i

/-- An accepted packet acknowledged: gathered with the others of its source and plane, sent at sixteen; one that lies
too far from those gathered sends them first (R198). -/
def State.ackPacket (s : State) (k : SiteId) (p : Packet) : State :=
  let c := s.core k
  let fresh : AckGather := { engine := p.srcEngine, epid := p.srcEpid, plane := p.plane, base := p.seq, mask := 1 }
  let put (s : State) (x : AckGather) : State :=
    let c := s.core k
    let s := s.setCore k { c with net := { c.net with acks := c.net.acks ++ [x] } }
    if ackCount x.mask = 16 then s.sendAck k x else s
  match c.net.acks.find? fun a => a.engine == p.srcEngine && a.epid == p.srcEpid && a.plane == p.plane with
  | none => put s fresh
  | some a =>
    let drop : State := s.setCore k { c with net := { c.net with acks := c.net.acks.erase a } }
    let up := (p.seq - a.base).toNat
    let down := (a.base - p.seq).toNat
    if up < 16 then put drop { a with mask := a.mask ||| (1 <<< up) }
    else if down < 16 ∧ a.mask.toNat * 2 ^ down < 65536 then
      put drop { a with base := p.seq, mask := (a.mask <<< down) ||| 1 }
    else put (s.sendAck k a) fresh

/-- A request answered by its outcome: acknowledged, or refused with the code. -/
def State.ackOr (s : State) (k : SiteId) (p : Packet) (code : Byte) : State :=
  if code = rOK then s.ackPacket k p else s.nakFrom k p code

/-- RD_REQ at a core (R36, R37, R150, R176). -/
def rdReq (k : SiteId) (p : Packet) (s : State) : State :=
  s.receive k p tRD_REQ fun s =>
    match s.coreFetch k (faOff p.dest) p.bytes.toNat with
    | (s, code, b) => s.respond k (faEpid p.dest) p tRD_RESP code p.seq p.tag b

/-- WR at a core (R142, R150, R176). -/
def wrReq (k : SiteId) (p : Packet) (s : State) : State :=
  s.receive k p tWR fun s =>
    match s.coreStore k (faOff p.dest) p.payload with
    | (s, code) => s.ackOr k p code

/-- The ring bytes of a receiving channel: first byte and length (R271, R275). -/
def Core.ringOf (c : Core) (ch : Nat) : Nat × Nat :=
  let w := c.win (wfld (c.ch ch 0) 8 4)
  if winValid w then (winBase w, 64 * winSize w) else (0, 0)

/-- A status landing that has changed its word sets the flag and raises MSG (R276). -/
def Core.statusNotify (c : Core) (ch : Nat) : Core :=
  let w0 := c.ch ch 0
  let c := if wbit w0 16 then c.setFlags (1 <<< wfld w0 12 4) else c
  if wbit w0 20 then c.pend (wfld w0 17 3) 2 else c

/-- LAND at a core (R150, R160, R275, R276). -/
def landReq (k : SiteId) (p : Packet) (s : State) : State :=
  s.receive k p tLAND fun s =>
    let c := s.core k
    let ch := p.tag.toNat % 64
    let status := p.tag.getLsbD 6
    let off := faOff p.dest
    let n := p.payload.length
    let peer := c.chPeer ch
    let ring := c.ringOf ch
    if c.chState ch ≠ 1 ∨ c.chSend ch then (s.modCore k fun c => c.bump 0x100D08 1).nakFrom k p rCLOSED
    else if faEngine peer ≠ p.srcEngine.toNat ∨ faEpid peer ≠ p.srcEpid.toNat
        ∨ (status ∧ (off ≠ (c.ch ch 0x14).toNat ∨ n ≠ 4))
        ∨ (!status ∧ (off < ring.1 ∨ ring.1 + ring.2 < off + n)) ∨ 0x40000 < off + n then
      (s.modCore k fun c => c.bump 0x100D0C 1).nakFrom k p rBADOFF
    else if (banksOf off n).any fun b => s.bankShut k b then s.bankBusy k p
    else
      let old := memReads c.sram.data off 4
      match c.sramWrite 2 off p.payload with
      | (c, false) => (s.putCore k c).nakFrom k p rUNCORR
      | (c, true) =>
        let c := if status && old != p.payload then c.statusNotify ch else c
        (s.putCore k c).ackPacket k p

/-- COMBINER_CONTRIBUTION (R150, R282). -/
def contribReq (k : SiteId) (p : Packet) (s : State) : State :=
  s.receive k p tCONTRIB fun s =>
    let c := s.core k
    let off := faOff p.dest
    let m := off / 0x4000 - 196
    let e := off % 0x4000 / 4
    let i := p.tag.toNat % 64
    let behind := (p.tag.toNat / 64 + 1024 - c.cbRound m % 1024) % 1024
    let slots := c.cbSlots m
    let at_ := (c.cb m 0x24).toNat + (i % slots) * (4 * c.cbLen m) + 4 * e
    let len := c.cbLen m
    if off < 0x310000 ∨ 0x330000 ≤ off ∨ off % 64 ≠ 0 ∨ len ≤ e ∨ p.payload.length ≠ 64 then s.nakFrom k p rBADOFF
    else if c.cbState m = 0 ∨ (1 ≤ behind ∧ behind ≤ 511) ∨ (c.cbNext m).getD 64 + slots ≤ i then s.nakFrom k p rBUSY
    else if (banksOf (c.cb m 0x24).toNat (slots * (4 * len))).any fun b => s.bankShut k b then s.bankBusy k p
    else if 512 ≤ behind ∨ !((c.cb64 m 8).getLsbD i) ∨ (c.cb64 m 0x10).getLsbD i ∨ (c.round m).folded.getLsbD i then
      (s.modCore k fun c => c.bump 0x100D18 1).ackPacket k p
    else
      let (c, _) := c.sramWrite 2 at_ p.payload
      let r := c.round m
      let seen : BitVec 256 := Tbl.get 0 r.pieces i ||| BitVec.ofNat 256 (2 ^ (e / 16))
      let c := c.setRound m { r with pieces := Tbl.set 0 r.pieces i seen }
      let all := (List.range (len / 16)).all fun j => seen.getLsbD j
      let c := if all then c.setCb64 m 0x18 (c.cb64 m 0x18 ||| BitVec.ofNat 64 (2 ^ i)) else c
      (((s.putCore k c).ackPacket k p).cmbRun k m).sendOn k

/-- Intake data of a group at a member: they land in the first join of the group that still wants their slots; slots
that are not freed, and data nobody has joined for, are dropped and counted in MC_DROP (R104, R105). -/
def Core.mcIntake (c : Core) (g idx : Nat) (b : List Byte) : Core :=
  let n := (b.length + 63) / 64
  let wants (x : AccEng) (j : Join) : Bool :=
    j.group == g && decide (j.base + idx + n ≤ j.stop) && decide (x.ready ≤ j.base + idx)
      && !(x.landed.contains (j.base + idx))
  match (List.range 2).findSome? fun a => ((c.acc_ a).joins.find? (wants (c.acc_ a))).map fun j => (a, j) with
  | none => c.bump 0x100330 1
  | some (a, j) =>
    if winSize (c.landW a) + (c.acc_ a).taken / 64 < j.base + idx + n then c.bump 0x100330 1
    else c.landSlots a ((List.range n).map fun i => j.base + idx + i) b

/-- A multicast write ejected at a member: checked, and written or landed without an answer (R105, R205). -/
def State.mcEject (s : State) (k : SiteId) (p : Packet) : State :=
  if s.fenced k || s.inReset k then s.dropAt k
  else if p.aborted || !(hcrcGood p) || !(crcGood p) then (s.crcFail k).regionFault k 6 0
  else
    let s := s.modCore k Core.progress
    if p.tag = 0 then
      match s.coreStore k (faOff p.dest) p.payload with
      | (s, code) => if code = rOK then s else s.dropAt k
    else (s.modCore k fun c => c.mcIntake (faEpid p.dest % 0x4000) (faOff p.dest / 64) p.payload).pump k

/-- A multicast write at a router of its tree: copies on every link of the entry and one to the local member
(R205). -/
def State.mcTree (s : State) (k : SiteId) (hops : BitVec 4) (p : Packet) (t : TreeAt) : State :=
  let s := t.links.foldl (fun (s : State) d => s.crossP k d hops p) s
  if t.out.getLsbD 4 then s.mcEject k p else s

/-- A V or S packet that is not tree traffic, at a router: ejected, forwarded, or answered or dropped (R188, R189). -/
def State.routeP (s : State) (k : SiteId) (port : Port) (hops : BitVec 4) (p : Packet) : State :=
  match s.hop k p.epoch p.plane p.lane port p.dx.toNat p.dy.toNat with
  | .eject => s.fly { site := k, from_ := port, ejected := true, hold := none, hops := hops, body := .inl p }
  | .go d up => s.crossP k d hops { p with lane := p.lane || up }
  | .refuse code =>
    if isResponse p.type || p.type == tMC_WR then s.dropAt k else s.routerRefuse k p code

/-- A multicast write at a router: routed to its group's root, from there and from the port toward the root down the
tree; a tree router without an entry drops it (R205). -/
def mcArrive (k : SiteId) (port : Port) (hops : BitVec 4) (p : Packet) (s : State) : State :=
  let g := faEpid p.dest % 0x4000
  let here := p.dsite == k
  match s.treeAt p.epoch k g with
  | some t =>
    if here || (match port with
      | .link d => t.up == Dir.num d
      | .loc => false) then s.mcTree k hops p t
    else s.routeP k port hops p
  | none => if here then s.dropAt k else s.routeP k port hops p

/-- MC_WR at a router (R205). -/
def mcWrite (k : SiteId) (p : Packet) (port : Port) (s : State) : State :=
  if p.type ≠ tMC_WR then s else mcArrive k port 0 p (s.land k (.inl p))

/-- TOKEN at a core (R225, R241). -/
def tokenIn (k : SiteId) (c : CPacket) (s : State) : State :=
  if c.type ≠ 1 then s
  else
    let s := s.land k (.inr c)
    let x := s.core k
    let q := c.sub.toNat
    let cfg := x.tqCfg q
    if !(cGood c) || s.fenced k || s.inReset k then s.dropAt k
    else if 15 < q ∨ !(wbit cfg 31) then s.dropAt k
    else if (x.ctxAt (wfld cfg 28 3)).gen ≠ c.gen then s.modCore k fun x => x.progress.bump 0x10064C 1
    else
      let t := x.tq q
      if x.tqDepth q ≤ t.cnt then s.ejectC k c
      else
        match x.progress.sramWrite 2 (x.tqSlot q (t.rd + t.cnt)) (leBytes 4 c.arg.toNat) with
        | (x, true) => s.putCore k (x.setTq q { t with cnt := t.cnt + 1 })
        | (x, false) => (s.putCore k x).dropAt k

/-- RD_REQ (R176). -/
def execRdReq (k : SiteId) (p : Packet) (s : State) : Res := .next (rdReq k p s)

/-- WR (R176). -/
def execWr (k : SiteId) (p : Packet) (s : State) : Res := .next (wrReq k p s)

/-- LAND (R275). -/
def execLand (k : SiteId) (p : Packet) (s : State) : Res := .next (landReq k p s)

/-- COMBINER_CONTRIBUTION (R282). -/
def execCombinerContribution (k : SiteId) (p : Packet) (s : State) : Res := .next (contribReq k p s)

/-- MC_WR (R205). -/
def execMcWr (k : SiteId) (p : Packet) (port : Port) (s : State) : Res := .next (mcWrite k p port s)

/-- TOKEN (R225). -/
def execToken (k : SiteId) (c : CPacket) (s : State) : Res := .next (tokenIn k c s)

/-- ACK_FLUSH (R198). -/
def execAckFlush (k : SiteId) (i : Nat) (s : State) : Res :=
  .next (match (s.core k).net.acks[i]? with
    | some a => s.sendAck k a
    | none => s)

end Sys2Proof.Machine
end

