-- ==== Sys2Proof/Machine/Answers.lean ====
section
/-!
DEFINITION. What comes back to a source: read responses, acknowledgements and refusals, resends with their timers, and
a fenced source's settling (R99-R104, R194-R201, R203, R252, R260, R269).
-/

namespace Sys2Proof.Machine

/-- A source whose old-epoch packets are all answered or held, and that has been fenced, sends FENCE_DONE (R194). -/
def State.fenceCheck (s : State) (k : SiteId) : State :=
  let c := s.core k
  let n := c.net
  let settled := (n.rtx.all fun r => r.held) && (List.range 2).all fun a => (c.acc_ a).outs.all fun o => o.held
  if n.fenced && !n.fdSent && settled then
    (s.setCore k { c with net := { n with fdSent := true } }).injectC k .loc (mkC 8 0 (!s.curVer) 0 0 0 0)
  else s

/-- What is sent may be followed by more: engines and waiting combiners go on, and a fenced source looks whether it
has settled. -/
def State.goOn (s : State) (k : SiteId) : State := (s.sendOn k).fenceCheck k

/-- A packet of a flow as it is sent again: its place in the order of injection and the packet. -/
abbrev Again := Nat × Packet

/-- Whether a packet is of a flow: destination and plane (R196, R200). -/
def State.inFlow (s : State) (key : Nat) (plane : Plane) (p : Packet) : Bool :=
  s.destKey p.dest == key && p.plane == plane

/-- The unanswered packets of a flow from a place on, in their order (R200). -/
def State.flowFrom (s : State) (k : SiteId) (key : Nat) (plane : Plane) (ord : Nat) : List Again :=
  let c := s.core k
  let w := (c.net.rtx.map fun r => (r.ord, r.pkt))
    ++ (List.range 2).flatMap fun a => (c.acc_ a).outs.map fun o => (o.ord, o.pkt)
  (w.filter fun x => decide (ord ≤ x.1) && s.inFlow key plane x.2).mergeSort fun a b => decide (a.1 ≤ b.1)

/-- A packet's record changed wherever it is kept, found by its place in the order of injection. -/
def Core.mapSent (c : Core) (ord : Nat) (fr : Rtx → Rtx) (fo : Outstanding → Outstanding) : Core :=
  let c := { c with net := { c.net with rtx := c.net.rtx.map fun r => if r.ord = ord then fr r else r } }
  (List.range 2).foldl (fun (c : Core) a =>
    let x := c.acc_ a
    c.setAcc a { x with outs := x.outs.map fun o => if o.ord = ord then fo o else o }) c

/-- Some packets sent again in order, each counted, marked RESEND and resolved anew (R174, R200). -/
def State.resendAll (s : State) (k : SiteId) (l : List Again) : State :=
  l.foldl (fun (s : State) x =>
    let p : Packet := { x.2 with resend := true }
    let s := s.modCore k fun c => (c.mapSent x.1 (fun r => { r with pkt := p, held := false, gap := false })
      (fun o => { o with pkt := p, held := false, gap := false })).bump 0x100524 1
    s.enter k p) s

/-- A packet and every later unanswered packet of its flow sent again (R200). -/
def State.resendFrom (s : State) (k : SiteId) (p : Packet) (ord : Nat) : State :=
  s.resendAll k (s.flowFrom k (s.destKey p.dest) p.plane ord)

/-- A packet held for the next flip; a ninth destination stops the source (R196). -/
def State.holdSent (s : State) (k : SiteId) (p : Packet) (ord : Nat) : State :=
  let key := (s.destKey p.dest, p.plane)
  s.modCore k fun c =>
    let c := c.mapSent ord (fun r => { r with held := true, gap := false }) (fun o => { o with held := true, gap := false })
    let h := c.net.heldDest
    if h.contains key then c
    else if h.length < 8 then { c with net := { c.net with heldDest := h ++ [key] } }
    else { c with net := { c.net with stopped := true } }

/-- What becomes of a packet that has been refused or has timed out. -/
inductive Verdict where
  | finish (code : Byte)
  | again
  | wait
  | hold
  deriving DecidableEq, Repr

/-- The requester's action on a code, with the attempts made so far, and the attempts after it (R178, R200). -/
def verdict (code : Byte) (attempts : Nat) : Verdict × Nat :=
  if code = rBUSY then (.wait, attempts)
  else if code = rHELD then (.again, attempts)
  else if code = rHOLE then (.hold, attempts)
  else if code = rRESET then if attempts < 3 then (.wait, attempts + 1) else (.finish rTIMEOUT, attempts)
  else if code = rCRC then if attempts < 3 then (.again, attempts + 1) else (.finish rTIMEOUT, attempts)
  else (.finish code, attempts)

/-- RT_TIMEOUT_CNT when a request completes TIMEOUT (R200). -/
def Core.countTimeout (c : Core) (code : Byte) : Core := if code = rTIMEOUT then c.bump 0x100528 1 else c

/-- A packet of the retransmit buffer answered for good: it leaves the buffer and its operation goes on (R198,
R269). -/
def State.finishRtx (s : State) (k : SiteId) (r : Rtx) (code : Byte) : State :=
  let s := s.modCore k fun c =>
    ({ c with net := { c.net with rtx := c.net.rtx.filter fun x => x.ord != r.ord } } : Core).countTimeout code
  (s.sendAnswered k r code).goOn k

/-- A refusal or a timeout of a packet of the retransmit buffer (R200). -/
def State.judgeRtx (s : State) (k : SiteId) (r : Rtx) (v : Verdict × Nat) : State :=
  let s := s.modCore k fun c => c.mapSent r.ord (fun r => { r with attempts := v.2 }) id
  match v.1 with
  | .finish code => s.finishRtx k r code
  | .again => s.resendFrom k r.pkt r.ord
  | .wait => s.modCore k fun c => c.mapSent r.ord (fun r => { r with gap := true }) id
  | .hold => (s.holdSent k r.pkt r.ord).fenceCheck k

/-- A read that has failed for good: its engine faults FETCH with the code (R102). -/
def State.failRead (s : State) (k : SiteId) (a : Nat) (o : Outstanding) (code : Byte) : State :=
  let s := s.modCore k fun c =>
    let x := c.acc_ a
    (c.setAcc a { x with outs := x.outs.filter fun y => y.ord != o.ord }).countTimeout code
  let off := match ((s.core k).acc_ a).cur with
    | some t => t.op.off
    | none => 0
  (s.engineFault k (2 + a) 3 code off).fenceCheck k

/-- A refusal or a timeout of a read (R99, R201). -/
def State.judgeRead (s : State) (k : SiteId) (a : Nat) (o : Outstanding) (v : Verdict × Nat) : State :=
  let s := s.modCore k fun c => c.mapSent o.ord id (fun o => { o with attempts := v.2 })
  match v.1 with
  | .finish code => s.failRead k a o code
  | .again => s.resendFrom k o.pkt o.ord
  | .wait => s.modCore k fun c => c.mapSent o.ord id (fun o => { o with gap := true })
  | .hold => (s.holdSent k o.pkt o.ord).fenceCheck k

/-- The read an access engine awaits under a tag, with its engine. -/
def Core.readOf (c : Core) (tag : BitVec 16) : Option (Nat × Outstanding) :=
  (List.range 2).findSome? fun a => ((c.acc_ a).outs.find? fun o => o.pkt.tag == tag).map fun o => (a, o)

/-- Span headers taken into a stream's buffer, with what is bad in them counted and cut (R252, R260). -/
def Core.takeHeaders (c : Core) (a : Nat) (t : StreamSt) (at_ : Nat) (b : List Byte) : Core :=
  let d := sDesc t.op
  let blocks := d.slots
  (List.range (b.length / 8)).foldl (fun (c : Core) i =>
    let span := at_ % 32 + i
    if d.spans ≤ span then c
    else
      let h := leAt b (8 * i) 8
      let have_ := min 32 (blocks - 32 * span)
      let mask := h % 2 ^ 32
      let dense := h.testBit 32
      let bad := if dense then (if mask = 0 then 0 else 1)
        else ((List.range 32).countP fun j => decide (have_ ≤ j) && mask.testBit j)
      let hdr := BitVec.ofNat 64 ((h >>> 32 <<< 32) + mask % 2 ^ have_)
      match (c.acc_ a).cur with
      | none => c
      | some t => (c.setStream a { t with hdrs := Tbl.set 0 t.hdrs (at_ / 32 * 32 + span) hdr }).bump 0x100C04 bad) c

/-- A read's bytes: headers go to the buffer, a lead's slots go on as multicast writes, others land (R99, R104,
R252). -/
def State.landRead (s : State) (k : SiteId) (a : Nat) (o : Outstanding) (b : List Byte) : State :=
  let c := s.core k
  let x := c.acc_ a
  let c := c.setAcc a { x with outs := x.outs.filter fun y => y.ord != o.ord }
  match x.cur, o.header with
  | some t, some h => s.putCore k (c.takeHeaders a t h b)
  | some t, none =>
    let d := sDesc t.op
    if d.opc = 2 then
      let base := t.endSlot - d.runs * d.slots
      let ps := (o.slots.zip (List.range o.slots.length)).map fun i =>
        let q := mkPacket s .v (s.faOf (0x78000 + d.group) (64 * (i.1 - base))) (s.epidOf k) c.net.epoch tMC_WR 64
          (slice b (64 * i.2) 64)
        ({ q with tag := 1, gen := c.genOf t.op } : Packet)
      s.putCore k (c.setStream a { t with op := { t.op with left := t.op.left ++ ps } })
    else s.putCore k (c.landSlots a o.slots b)
  | none, _ => s.setCore k c

/-- RD_RESP at its requester (R99, R102, R199, R201). -/
def rdResp (k : SiteId) (p : Packet) (s : State) : State :=
  if p.type ≠ tRD_RESP then s
  else
    let s := s.land k (.inl p)
    if p.aborted || s.fenced k then s.dropAt k
    else if !(hcrcGood p && crcGood p) then s.crcFail k
    else
      let s := s.modCore k Core.progress
      match (s.core k).readOf p.tag with
      | none => s
      | some (a, o) =>
        if p.resp = rOK then (s.landRead k a o p.payload).goOn k
        else s.judgeRead k a o (verdict p.resp o.attempts)

/-- The packet of the retransmit buffer of a plane and sequence number (R198). -/
def Core.rtxOf (c : Core) (plane : Plane) (seq : Byte) : Option Rtx :=
  c.net.rtx.find? fun r => r.pkt.plane == plane && r.pkt.seq == seq

/-- The plane an answer speaks of. -/
def Packet.ofPlane (p : Packet) : Plane := if p.aplane then .s else .v

/-- An ACK or NAK received: dropped where it fails its check (R199, R201, R203). -/
def State.answerIn (s : State) (k : SiteId) (p : Packet) (type : Byte) (go : State → State) : State :=
  if p.type ≠ type then s
  else
    let s := s.land k (.inl p)
    if p.aborted || s.fenced k then s.dropAt k
    else if !(hcrcGood p && crcGood p) then s.crcFail k
    else go (s.modCore k Core.progress)

/-- ACK (R198, R267). -/
def ackIn (k : SiteId) (p : Packet) (s : State) : State :=
  s.answerIn k p tACK fun s =>
    (List.range 16).foldl (fun (s : State) j =>
      if p.tag.getLsbD j then
        match (s.core k).rtxOf (Packet.ofPlane p) (p.seq + BitVec.ofNat 8 j) with
        | some r => s.finishRtx k r rOK
        | none => s
      else s) s

/-- NAK (R178, R200, R269). -/
def nakIn (k : SiteId) (p : Packet) (s : State) : State :=
  s.answerIn k p tNAK fun s =>
    match (s.core k).rtxOf (Packet.ofPlane p) p.seq with
    | some r => if p.resp = rOK then s else s.judgeRtx k r (verdict p.resp r.attempts)
    | none => s

/-- What a resend timer's expiry asks for: a fenced source's packets are held; others are sent again or complete
TIMEOUT (R195, R200). -/
def timerVerdict (fenced : Bool) (attempts : Nat) : Verdict × Nat :=
  if fenced then (.hold, attempts) else if attempts < 3 then (.again, attempts + 1) else (.finish rTIMEOUT, attempts)

/-- RESEND_TIMEOUT (R195, R200, R201, R364). -/
def timerOut (k : SiteId) (w : Waiting) (s : State) : State :=
  let c := s.core k
  match w with
  | .packet plane seq =>
    match c.rtxOf plane seq with
    | some r => if r.held then s else s.judgeRtx k r (timerVerdict c.net.fenced r.attempts)
    | none => s
  | .read a1 tag =>
    match (c.acc_ a1.toNat).outs.find? fun o => o.pkt.tag == tag with
    | some o => if o.held then s else s.judgeRead k a1.toNat o (timerVerdict c.net.fenced o.attempts)
    | none => s

/-- BUSY_GAP_EXPIRY: the packet that waited is sent again with its later flow (R195, R200, R364). -/
def gapOut (k : SiteId) (w : Waiting) (s : State) : State :=
  let c := s.core k
  let go (p : Packet) (ord : Nat) (gap : Bool) : State :=
    if !gap then s
    else if c.net.fenced then (s.holdSent k p ord).fenceCheck k
    else s.resendFrom k p ord
  match w with
  | .packet plane seq =>
    match c.rtxOf plane seq with
    | some r => go r.pkt r.ord r.gap
    | none => s
  | .read a1 tag =>
    match (c.acc_ a1.toNat).outs.find? fun o => o.pkt.tag == tag with
    | some o => go o.pkt o.ord o.gap
    | none => s

/-- RD_RESP (R201). -/
def execRdResp (k : SiteId) (p : Packet) (s : State) : Res := .next (rdResp k p s)

/-- ACK (R198). -/
def execAck (k : SiteId) (p : Packet) (s : State) : Res := .next (ackIn k p s)

/-- NAK (R200). -/
def execNak (k : SiteId) (p : Packet) (s : State) : Res := .next (nakIn k p s)

/-- RESEND_TIMEOUT (R200). -/
def execResendTimeout (k : SiteId) (w : Waiting) (s : State) : Res := .next (timerOut k w s)

/-- BUSY_GAP_EXPIRY (R200). -/
def execBusyGapExpiry (k : SiteId) (w : Waiting) (s : State) : Res := .next (gapOut k w s)

end Sys2Proof.Machine
end

