-- ==== Sys2Proof/Machine/Approx.lean ====
section
/-!
DEFINITION. The approximations EXP2, RCP, RSQRT and LOG2: a fixed function of the input bits that the manual
bounds and does not fix (R69, R93). The engine's answer is `Config.approx` wherever that keeps the bound; where
it would not, an answer within the bound takes its place (log entry 5).
-/

namespace Sys2Proof.Machine

/-- The weight of the last place of a value's FP32 code, as its exponent. -/
def ulpExp : Val → Int
  | .fin _ m e => if m = 0 then -149 else max (ilog2 m e - 23) (-149)
  | _ => 104

/-- An FP32 word as a value, infinity read as the power of two above the largest finite value. -/
def bounded (w : Word) : Val :=
  match f32 w with
  | .inf n => .fin n 1 128
  | v => v

/-- Whether a value is not above another. -/
def Val.le (a b : Val) : Bool := !(b.lt a)

/-- `a - n * 2^q`. -/
def Val.minus (a : Val) (n : Nat) (q : Int) : Val := a.add (.fin true n q)

/-- `a + n * 2^q`. -/
def Val.plus (a : Val) (n : Nat) (q : Int) : Val := a.add (.fin false n q)

/-- RCP: `w` is within one unit in the last place of `1 / x` (R93). -/
def rcpOk (x w : Word) : Bool :=
  let v := bounded w
  let q := ulpExp v
  let err := ((v.mul (f32 x)).add (.fin true 1 0)).abs
  err.le ((Val.fin false 1 q).mul (f32 x).abs)

/-- `1 / x` to 80 bits, rounded to FP32. -/
def rcpRef (x : Word) : Word :=
  match f32 x with
  | .fin n m e =>
    let d := 2 ^ 104 / m
    toF32 (.fin n (2 * d + (if 2 ^ 104 % m = 0 then 0 else 1)) (-105 - e))
  | _ => nan32

/-- RSQRT: `w` is within two units in the last place of `1 / √x`, for a positive `x` (R93). -/
def rsqrtOk (x w : Word) : Bool :=
  let v := bounded w
  let q := ulpExp v
  let lo := v.minus 2 q
  let hi := v.plus 2 q
  (lo.lt (.fin false 0 0) || ((lo.mul lo).mul (f32 x)).le (.fin false 1 0))
    && !(hi.lt (.fin false 0 0)) && (Val.fin false 1 0).le ((hi.mul hi).mul (f32 x))

/-- `1 / √x` to about 70 bits, rounded to FP32. -/
def rsqrtRef (x : Word) : Word :=
  match f32 x with
  | .fin _ m e =>
    let m' := if e % 2 = 0 then m else 2 * m
    let e' := if e % 2 = 0 then e else e - 1
    toF32 (.fin false (Nat.sqrt (2 ^ 180 / m')) (-90 - e' / 2))
  | _ => nan32

/-- The fraction bits of log2 of a significand `y / 2^96` in [1, 2), from the most significant down; `up` is 1
where each square is rounded up. -/
def log2Bits (up : Nat) : Nat → Nat → Nat → Nat
  | 0, _, acc => acc
  | n + 1, y, acc =>
    let z := ((y * y) >>> 96) + up
    if 2 ^ 97 ≤ z then log2Bits up n ((z >>> 1) + up) (2 * acc + 1) else log2Bits up n z (2 * acc)

/-- Bounds of `log2 (m * 2^e)` in units of 2^-64, below and above. -/
def log2Range (m : Nat) (e : Int) : Int × Int :=
  let l := m.log2
  let y := (m <<< 96) >>> l
  let base : Int := ((l : Int) + e) * 2 ^ 64
  (base + log2Bits 0 64 y 0, base + log2Bits 1 64 (y + 1) 0 + 1)

/-- EXP2: `w` is certainly within two units in the last place of `2^x` (R93). -/
def exp2Ok (x w : Word) : Bool :=
  let v := bounded w
  let q := ulpExp v
  let below := match v.minus 2 q with
    | .fin false m e => if m = 0 then true else (Val.ofInt (log2Range m e).2 (-64)).le (f32 x)
    | _ => true
  let above := match v.plus 2 q with
    | .fin false m e => if m = 0 then false else (f32 x).le (Val.ofInt (log2Range m e).1 (-64))
    | _ => false
  below && above && !w.getLsbD 31

/-- `2^(f / 2^64)` with 96 fraction bits, from the bits of `f` down: `r` is the root that the next bit adds. -/
def exp2Frac : Nat → Nat → Nat → Nat → Nat
  | 0, _, _, y => y
  | n + 1, f, r, y =>
    let r := Nat.sqrt (r <<< 96)
    exp2Frac n f r (if f.testBit n then (y * r) >>> 96 else y)

/-- `2^x` to about 60 bits, rounded to FP32, for `x` in [-150, 128]. -/
def exp2Ref (x : Word) : Word :=
  match f32 x with
  | .fin n m e =>
    let t := truncAt (-64) (.fin n m e)
    let whole : Int := t / 2 ^ 64
    toF32 (.fin false (exp2Frac 64 (t - whole * 2 ^ 64).toNat (2 ^ 97) (2 ^ 96)) (whole - 96))
  | _ => nan32

/-- Whether a positive value lies in [0.5, 2). -/
def nearOne (v : Val) : Bool := (Val.fin false 1 (-1)).le v && v.lt (.fin false 1 1)

/-- LOG2: `w` is certainly within the bound of R93 for a positive finite `x`. -/
def log2Ok (x w : Word) : Bool :=
  match f32 x with
  | .fin _ m e =>
    let v := bounded w
    let b : Nat × Int := if nearOne (f32 x) then (1, -22) else (2, ulpExp v)
    let r := log2Range m e
    (v.minus b.1 b.2).le (Val.ofInt r.1 (-64)) && (Val.ofInt r.2 (-64)).le (v.plus b.1 b.2)
  | _ => false

/-- log2 of a positive finite value, rounded to FP32. -/
def log2Ref (x : Word) : Word :=
  match f32 x with
  | .fin _ m e => toF32 (Val.ofInt (log2Range m e).1 (-64))
  | _ => nan32

/-- The engine's answer where it keeps the bound; NaN never does. -/
def within (ok : Word → Bool) (w ref : Word) : Word := if f32 w ≠ .nan && ok w then w else ref

/-- EXP2 of an FP32 word (R93). -/
def vexp2 (x : Word) : Word :=
  match f32 x with
  | .nan => nan32
  | .inf n => if n then 0 else 0x7F800000
  | v =>
    if (Val.fin false 128 0).lt v then 0x7F800000
    else if v.lt (.fin true 150 0) then 0
    else within (exp2Ok x) (Config.approx 0x07 x) (exp2Ref x)

/-- RCP of an FP32 word (R93). -/
def vrcp (x : Word) : Word :=
  match f32 x with
  | .nan => nan32
  | .inf n => if n then 0x80000000 else 0
  | .fin n 0 _ => if n then 0xFF800000 else 0x7F800000
  | _ => within (rcpOk x) (Config.approx 0x08 x) (rcpRef x)

/-- RSQRT of an FP32 word (R93). -/
def vrsqrt (x : Word) : Word :=
  match f32 x with
  | .nan => nan32
  | .inf n => if n then nan32 else 0
  | .fin n 0 _ => if n then 0xFF800000 else 0x7F800000
  | .fin true _ _ => nan32
  | _ => within (rsqrtOk x) (Config.approx 0x09 x) (rsqrtRef x)

/-- LOG2 of an FP32 word (R93). -/
def vlog2 (x : Word) : Word :=
  match f32 x with
  | .nan => nan32
  | .inf n => if n then nan32 else 0x7F800000
  | .fin _ 0 _ => 0xFF800000
  | .fin true _ _ => nan32
  | _ => within (log2Ok x) (Config.approx 0x0A x) (log2Ref x)

end Sys2Proof.Machine
end

