-- ==== Sys2Proof/Machine/Vector.lean ====
section
/-!
DEFINITION. The vector unit: its opcodes, formats, operands, scale state blocks, the output compressor and the
completion of its operations (R53-R59, R90-R97, R255, R256).
-/

namespace Sys2Proof.Machine

/-- The fields of a vector descriptor (R97). -/
structure VDesc where
  opc   : Nat
  fin_  : Nat
  fout  : Nat
  rnd   : Nat
  ssbEn : Bool
  comp  : Bool
  sel   : Nat
  bcast : Bool
  count : Nat
  base  : Nat
  src1  : Nat
  src2  : Nat
  dst   : Nat
  dscl  : Nat
  tile  : Word
  ssb   : Nat
  rsv   : Bool
  deriving DecidableEq, Repr

/-- The fields of an operation's descriptor read as a vector descriptor (R97). -/
def vDesc (o : Op) : VDesc :=
  { opc := opFld o 0 0 8, fin_ := opFld o 0 8 8, fout := opFld o 0 16 8, rnd := opFld o 0 24 2
    ssbEn := opFld o 0 26 1 == 1, comp := opFld o 0 27 1 == 1, sel := opFld o 0 28 2
    bcast := opFld o 0 30 1 == 1, count := opFld o 4 0 16, base := opFld o 4 16 6
    src1 := opFld o 8 0 32, src2 := opFld o 0xC 0 32, dst := opFld o 0x10 0 32, dscl := opFld o 0x14 0 32
    tile := BitVec.ofNat 32 (opFld o 0x18 0 32), ssb := 32 * opFld o 0x1C 0 13
    rsv := opFld o 0 31 1 != 0 || opFld o 4 22 10 != 0 || opFld o 0x1C 13 19 != 0 }

/-- ADD to MIN: two operands at SRC1 and SRC2. -/
def VDesc.binary (d : VDesc) : Bool := d.opc ≤ 6

/-- RSUM and RMAX: one result. -/
def VDesc.reduce (d : VDesc) : Bool := d.opc == 0xB || d.opc == 0xC

/-- The elements an operation writes. -/
def VDesc.outs (d : VDesc) : Nat := if d.opc = 0xF then 0 else if d.reduce then 1 else d.count

/-- The fields of a descriptor stand as the tables of R91, R94, R97 and R255 allow: what faults with DESC
before a format is looked at (R80). -/
def VDesc.fieldsOk (d : VDesc) : Bool :=
  let drain := d.opc == 0xE
  let am := d.opc == 0xF
  decide (1 ≤ d.opc) && decide (d.opc ≤ 0xF) && !d.rsv && d.count != 0
    && (drain == (d.sel == 3)) && (drain || d.base == 0) && (d.sel == 0 || d.src1 == 0)
    && !(drain && (d.fin_ != 0 || d.count % 16 != 0 || decide (1024 < d.count) || decide (64 < d.base + d.count / 16)))
    && !(am && (d.fout != 0 || !d.ssbEn || d.dst != 0 || d.rnd != 0 || d.tile != 0))
    && !(((decide (7 ≤ d.opc) && decide (d.opc ≤ 0xC)) || drain) && d.src2 != 0)
    && !(d.bcast && !d.binary) && !((am || d.reduce) && (d.dscl != 0 || d.comp))

/-- The formats and the rounding mode are ones the opcode accepts (R60, R91). -/
def VDesc.formatsOk (d : VDesc) : Bool :=
  match Format.ofCode d.fout with
  | none => false
  | some fo =>
  let inOk := d.opc == 0xE || (match Format.ofCode d.fin_ with
    | none => false
    | some f => f != .e8m0 && (decide (0xD ≤ d.opc) || f == .fp32 || f == .bf16))
  decide (d.rnd ≤ 1) && fo != .e8m0 && (fo != .t2 || d.opc == 0xD) && inOk
    && (d.opc != 4 || d.fout == d.fin_) && (!d.reduce || fo == .fp32)

/-- Bytes that `n` elements of a format take. -/
def elemBytes (f : Format) (n : Nat) : Nat := (f.bits * n + 7) / 8

/-- Scale bytes of `n` elements of a format. -/
def scaleBytes (f : Format) (n : Nat) : Nat :=
  if n = 0 then 0 else match f.scaling with
    | .block => (n + 31) / 32
    | .tile => 1
    | .none => 0

/-- The input format; FP32 for DRAIN, which has none. -/
def VDesc.fi (d : VDesc) : Format := if d.opc = 0xE then .fp32 else (Format.ofCode d.fin_).getD .fp32

/-- The output format. -/
def VDesc.fo (d : VDesc) : Format := (Format.ofCode d.fout).getD .fp32

/-- Bytes SRC1 takes. -/
def VDesc.len1 (d : VDesc) : Nat := if d.opc = 0xE then 0 else elemBytes d.fi d.count

/-- Bytes SRC2 takes: the second operand, one element of it, or the input scales. -/
def VDesc.len2 (d : VDesc) : Nat :=
  if d.binary then (if d.bcast then elemBytes d.fi 1 else elemBytes d.fi d.count)
  else if d.opc = 0xD ∨ d.opc = 0xF then scaleBytes d.fi d.count else 0

/-- Spans and header bytes of a compressed output (R255). -/
def VDesc.headLen (d : VDesc) : Nat := 64 * (((elemBytes d.fo d.outs + 2047) / 2048 + 7) / 8)

/-- Bytes the output occupies from DST (R255). -/
def VDesc.lenD (d : VDesc) : Nat :=
  if d.outs = 0 then 0 else elemBytes d.fo d.outs + (if d.comp then d.headLen else 0)

/-- The landing window's bank where SRC1 is a landing stream. -/
def Core.landBank (c : Core) (sel : Nat) : BitVec 4 :=
  if sel = 1 ∨ sel = 2 then 1 <<< winBank (c.landW (sel - 1)) else 0

/-- Whether some byte lies in both of two sets of pieces. -/
def segsMeet (a b : List (Nat × Nat)) : Bool :=
  a.any fun x => b.any fun y =>
    decide (0 < x.2) && decide (0 < y.2) && decide (x.1 < y.1 + y.2) && decide (y.1 < x.1 + x.2)

/-- The operands of a vector operation, wrapped: SRC1, SRC2, DST, DSCL, SSB. -/
structure VSegs where
  s1  : List (Nat × Nat)
  s2  : List (Nat × Nat)
  d   : List (Nat × Nat)
  ds  : List (Nat × Nat)
  ssb : List (Nat × Nat)
  deriving DecidableEq, Repr

/-- The operands of a vector operation; none where one leaves SRAM or would wrap twice (R144, R153). -/
def Core.vSegs (c : Core) (d : VDesc) : Option VSegs := do
  let one (a n : Nat) : Option (List (Nat × Nat)) := if n = 0 then some [] else c.opSegs a 1 0 n
  let s1 ← one d.src1 (if d.sel = 0 then d.len1 else 0)
  let s2 ← one d.src2 d.len2
  let dd ← one d.dst d.lenD
  let ds ← one d.dscl (scaleBytes d.fo d.outs)
  let sb ← one d.ssb (if d.ssbEn then 96 else 0)
  pure { s1 := s1, s2 := s2, d := dd, ds := ds, ssb := sb }

/-- Every bank an operation needs and holds (R144). -/
def Core.vBanks (c : Core) (d : VDesc) (g : VSegs) : BitVec 4 :=
  segBanks g.s1 ||| segBanks g.s2 ||| segBanks g.d ||| segBanks g.ds ||| segBanks g.ssb ||| c.landBank d.sel

/-- Two sources and a destination overlap in a way R96 does not allow. -/
def badOverlap (src dst : List (Nat × Nat)) (inBits outBits : Nat) : Bool :=
  segsMeet src dst && !(decide (outBits ≤ inBits) && (src.head?.map (·.1) == dst.head?.map (·.1)))

/-- What stands against the operands of a vector operation at dispatch (R94, R96, R144, R145, R255). -/
def Core.vOperands (c : Core) (d : VDesc) : Option VSegs :=
  match c.vSegs d with
  | none => none
  | some g =>
    let fma := decide (d.opc = 4)
    let r1 := if d.sel = 0 then segBanks g.s1 else c.landBank d.sel
    let r2 := if d.bcast then 0 else segBanks g.s2
    let r3 := if fma then segBanks g.d else 0
    let len := elemBytes d.fo d.outs
    if (d.fo.scaling = .block ∧ d.outs % 32 ≠ 0) ∨ (d.comp ∧ (len % 64 ≠ 0 ∨ 65472 < len)) then none
    else if (r1 &&& r2) ≠ 0 ∨ (r1 &&& r3) ≠ 0 ∨ (r2 &&& r3) ≠ 0 then none
    else if !(c.owns 2 (c.vBanks d g)) then none
    else if badOverlap g.s1 g.d d.fi.bits d.fo.bits then none
    else if badOverlap g.s2 g.d (if d.binary then d.fi.bits else 8) d.fo.bits then none
    else some g

/-- Whether an SSB may be used: `out` is the output format it must be for, none where that is not asked
(R53-R55). -/
def ssbValid (b : List Byte) (out : Option Nat) : Bool :=
  let f := leAt b 1 1
  let pol := leAt b 2 1
  let fmtOk := [2, 3, 4, 5].contains f || ([0x10, 0x11, 0x12, 0x13, 0x14, 0x15, 0x20].contains f && (pol == 0 || pol == 3))
  leAt b 0 1 == 1 && fld (leAt b 3 1) 4 1 == 1 && fld (leAt b 3 1) 7 1 == 0 && decide (pol ≤ 3) && fmtOk
    && (out == none || out == some f) && leAt b 4 1 != 0x80
    && fld (leAt b 4 4) 12 4 == 0 && fld (leAt b 4 4) 21 11 == 0
    && decide (1 ≤ fld (leAt b 4 4) 16 5) && decide (fld (leAt b 4 4) 16 5 ≤ 16) && leAt b 0x50 16 == 0

/-- One merge into AMAX_CUR: a NaN stays, else the larger (R56). -/
def amaxMerge (cur new_ : Word) : Word :=
  if f32 cur = .nan ∨ f32 new_ = .nan then nan32 else if (f32 cur).lt (f32 new_) then new_ else cur

/-- The larger of two values: +0 above -0, a NaN gives NaN (R91). -/
def vmax (a b : Word) : Word :=
  if f32 a = .nan ∨ f32 b = .nan then nan32
  else if (f32 a).lt (f32 b) then b
  else if (f32 b).lt (f32 a) then a
  else a &&& b

/-- The smaller of two values: -0 below +0, a NaN gives NaN (R91). -/
def vmin (a b : Word) : Word :=
  if f32 a = .nan ∨ f32 b = .nan then nan32
  else if (f32 a).lt (f32 b) then a
  else if (f32 b).lt (f32 a) then b
  else a ||| b

/-- One lane of ADD to MIN, the exact result rounded once to FP32 or, on the BF16 lanes, to BF16 (R69, R91). -/
def lane (opc : Nat) (bf : Bool) (a b c : Word) : Word :=
  let fit (v : Val) : Word := if bf then toF32 (bf16.decode (bf16.encode .rne true v).code) else toF32 v
  match opc with
  | 1 => fit ((f32 a).add (f32 b))
  | 2 => fit ((f32 a).add (f32 b).neg)
  | 3 => fit ((f32 a).mul (f32 b))
  | 4 => fit (((f32 a).mul (f32 b)).add (f32 c))
  | 5 => vmax a b
  | _ => vmin a b

/-- One level of the pairwise tree: a value without a partner passes on (R70, R92). -/
def treeLevel (f : Word → Word → Word) : List Word → List Word
  | a :: b :: r => f a b :: treeLevel f r
  | l => l

/-- A group of at most sixteen reduced by the tree (R92). -/
def tree (f : Word → Word → Word) (l : List Word) : Word :=
  (treeLevel f (treeLevel f (treeLevel f (treeLevel f l)))).getD 0 0

/-- Elements cut into groups of 16. -/
def groups16 : Nat → List Word → List (List Word)
  | 0, _ => []
  | n + 1, l => if l = [] then [] else l.take 16 :: groups16 n (l.drop 16)

/-- RSUM: group results added in ascending order to a total that starts at +0 (R92). -/
def rsum (l : List Word) : Word := ((groups16 l.length l).map (tree fadd)).foldl fadd 0

/-- RMAX: the total begins as the first group's result (R92). -/
def rmax (l : List Word) : Word :=
  match (groups16 l.length l).map (tree vmax) with
  | [] => 0
  | g :: gs => gs.foldl vmax g

/-- Elements decoded to FP32 under their scales (R66, R91). -/
def decodeElems (f : Format) (n : Nat) (b scales : List Byte) : List Word :=
  (unpack f.bits n b).mapIdx fun i x =>
    let s := match f.scaling with
      | .block => (scales.getD (i / 32) 0).toNat
      | .tile => (scales.getD 0 0).toNat
      | .none => 127
    f.toFp32 s x

/-- The values of accumulator rows, an INT row under its combined exponent (R68, R95). -/
def Core.drainVals (c : Core) (base rows : Nat) : List Val :=
  (List.range rows).flatMap fun r =>
    let x := c.accRow (base + r)
    (List.range 16).map fun n =>
      let w := Tbl.get 0 x.v n
      if x.int then Val.ofInt w.toInt x.exp else f32 w

/-- The results of a vector operation before conversion: its inputs are the bytes of SRC1, SRC2 and of DST for
an FMA (R91-R93). -/
def Core.vResults (c : Core) (d : VDesc) (b1 b2 b3 : List Byte) : List Val :=
  let f := d.fi
  let a := decodeElems f d.count b1 (if d.binary then [] else b2)
  match d.opc with
  | 7 => a.map fun x => f32 (vexp2 x)
  | 8 => a.map fun x => f32 (vrcp x)
  | 9 => a.map fun x => f32 (vrsqrt x)
  | 0xA => a.map fun x => f32 (vlog2 x)
  | 0xB => [f32 (rsum a)]
  | 0xC => [f32 (rmax a)]
  | 0xD => a.map f32
  | 0xE => c.drainVals d.base (d.count / 16)
  | 0xF => a.map f32
  | opc =>
    let b := if d.bcast then List.replicate d.count ((decodeElems f 1 b2 []).getD 0 0) else decodeElems f d.count b2 []
    let z := if opc = 4 then decodeElems f d.count b3 [] else List.replicate d.count 0
    let bf := decide (f = .bf16) && decide (d.fo = .bf16)
    (List.zip a (List.zip b z)).map fun x => f32 (lane opc bf x.1 x.2.1 x.2.2)

/-- The rounding of element `e` of an operation (R60, R63, R94). -/
def rndOf (o : Op) (d : VDesc) (e : Nat) : Rnd := if d.rnd = 1 then .sr (srDraw o.seed o.step d.tile e) else .rne

/-- Values cut into blocks of 32. -/
def blocks32 {α : Type} : Nat → List α → List (List α)
  | 0, _ => []
  | n + 1, l => l.take 32 :: blocks32 n (l.drop 32)

/-- A converted output: codes, scale bytes, saturations and non-finite inputs (R48, R51, R52, R64, R65). -/
structure VOut where
  codes  : List Nat
  scales : List Byte
  sat    : Nat
  nf     : Nat
  deriving DecidableEq, Repr

/-- Values converted to an operation's output format. -/
def convertOut (o : Op) (d : VDesc) (ieee : Bool) (scaleExp : Int) (vs : List Val) : VOut :=
  let f := d.fo
  let rs := vs.mapIdx fun i v => (v, rndOf o d i)
  match f.scaling with
  | .block =>
    let bs := (blocks32 (vs.length / 32) rs).map fun b =>
      if f = .t2 then t2Block (b.map fun x => toF32 x.1) else mxBlock f b
    { codes := bs.flatMap (·.codes), scales := bs.map fun b => BitVec.ofNat 8 b.scale
      sat := (bs.map (·.sat)).sum, nf := (bs.map (·.nf)).sum }
  | s =>
    let k := if s = .tile then scaleExp else 0
    let cs := rs.map fun x => f.fromVal x.2 ieee (x.1.scale k)
    { codes := cs.map (·.code), scales := if s = .tile then [BitVec.ofNat 8 (127 - scaleExp).toNat] else []
      sat := cs.countP (·.sat), nf := cs.countP (·.nf) }

/-- The 64-byte sparse blocks of some bytes. -/
def sparseBlocks : Nat → List Byte → List (List Byte)
  | 0, _ => []
  | n + 1, b => b.take 64 :: sparseBlocks n (b.drop 64)

/-- Whether a sparse block is present (R248). -/
def present (b : List Byte) : Bool := b.any fun x => x != 0

/-- The compressor's writes for the spans from `t` on: the next data slot's offset from DST (R249, R250,
R256). -/
def compressSpans : Nat → Nat → Nat → List (List Byte) → List (Nat × List Byte)
  | 0, _, _, _ => []
  | n + 1, t, next, bs =>
    let span := bs.take 32
    let here := span.filter present
    let dense := decide (here.length = span.length)
    let mask := (span.mapIdx fun i b => if present b then 2 ^ i else 0).sum
    let hdr := (if dense then 2 ^ 32 else mask) + (((next - 64 * (t / 8)) / 64) <<< 40)
    (8 * t, leBytes 8 hdr) :: (next, here.flatten) :: compressSpans n (t + 1) (next + 64 * here.length) (bs.drop 32)

/-- What an operation writes from DST: its dense bytes, or the block-sparse form (R255, R256). -/
def VDesc.layout (d : VDesc) (b : List Byte) : List (Nat × List Byte) :=
  if d.comp then
    compressSpans ((b.length + 2047) / 2048) 0 d.headLen (sparseBlocks (b.length / 64) b)
  else [(0, b)]

/-- Bytes laid over pieces: what is written where. -/
def layOver : List (Nat × Nat) → List Byte → List (Nat × List Byte)
  | [], _ => []
  | x :: xs, b => (x.1, b.take x.2) :: layOver xs (b.drop x.2)

/-- The writes of an operand at `base` after wrapping. -/
def Core.wrapWrites (c : Core) (base : Nat) (ws : List (Nat × List Byte)) : List (Nat × List Byte) :=
  let w := c.wrapWin base
  ws.flatMap fun x => layOver ((wrapRun w (base + x.1) x.2.length).getD []) x.2

/-- A dispatched vector operation with what it owes at completion. -/
def Core.vRun (c : Core) (o : Op) (d : VDesc) (g : VSegs) : Core × Option Op × Check :=
  let (c, b1) := if d.sel = 1 ∨ d.sel = 2 then c.takeLand (d.sel - 1) d.len1 else c.readSegs 0 g.s1
  let (c, b2) := c.readSegs 0 g.s2
  let (c, b3) := if d.opc = 4 then c.readSegs 0 g.d else (c, some [])
  let (c, sb) := c.readSegs 1 g.ssb
  match b1, b2, b3, sb with
  | some b1, some b2, some b3, some sb =>
    if d.ssbEn && !(ssbValid sb (if d.opc = 0xF then none else some d.fout)) then (c, none, numFault)
    else
      let vs := c.vResults d b1 b2 b3
      let c := if (d.opc = 0xD ∨ d.opc = 0xF) ∧ d.fi = .t2 then
          c.bump 0x100228 ((unpack 2 d.count b1).countP (· == 2)) else c
      let exp : Int := if d.ssbEn then sgn 8 (leAt sb 4 1) else 0
      let out : VOut := if d.opc = 0xF then { codes := [], scales := [], sat := 0, nf := 0 }
        else convertOut o d (wbit (c.reg 0x100204) 0) exp vs
      let c := (c.bump 0x100220 out.sat).bump 0x100224 out.nf
      let bytes := pack d.fo.bits out.codes
      let writes := (if d.outs = 0 then [] else c.wrapWrites d.dst (d.layout bytes))
        ++ (if out.scales = [] then [] else c.wrapWrites d.dscl [(0, out.scales)])
      let ssb := if d.ssbEn then some (d.ssb, toF32 (absMax vs), decide (0 < out.sat)) else none
      (c, some { o with banks := c.vBanks d g, writes := writes, ssb := ssb
                        fold := if d.opc = 0xE then bytes else [] }, none)
  | _, _, _, _ => (c, none, fetchFault rUNCORR)

/-- A vector operation of one of the opcodes given dispatches: interlocks, checks, then its inputs are read and
its results formed; an opcode no command names faults (R78, R80, R90, R91). -/
def vuDispatch (opcs : List Nat) (k : SiteId) (s : State) : State :=
  let c := s.core k
  match (c.engine 1).queue with
  | [] => s
  | o :: _ =>
    let d := vDesc o
    if 1 ≤ d.opc ∧ d.opc ≤ 0xF ∧ !opcs.contains d.opc then s
    else if !d.fieldsOk then s.headFault k 1 o (2, 0)
    else if !d.formatsOk then s.headFault k 1 o (1, 0)
    else if !(c.rowsFree 1 o) || ((d.sel == 1 || d.sel == 2) && !(c.streamTurn d.sel o)) then s
    else match c.vOperands d with
      | none => s.headFault k 1 o (2, 0)
      | some g =>
        if (d.sel == 1 || d.sel == 2) && !(c.landHas (d.sel - 1) d.len1) then s
        else match c.vRun o d g with
          | (c, some o', _) => (s.putCore k (c.dispatch 1 o')).pump k
          | (c, none, f) => (s.putCore k c).headFault k 1 o (f.getD (1, 0))

/-- The SRAM writes an operation owes, in order; false where a merge finds an uncorrectable codeword. `side` are
the addresses written through the side path. -/
def Core.applyWrites (side : List Nat) (c : Core) : List (Nat × List Byte) → Core × Bool
  | [] => (c, true)
  | w :: ws =>
    let (c, ok) := c.sramWrite (if side.contains w.1 then 1 else 0) w.1 w.2
    let (c, oks) := c.applyWrites side ws
    (c, ok && oks)

/-- The merge of an operation's largest magnitude into its SSB (R56). -/
def Core.ssbMerge (c : Core) (off : Nat) (a : Word) (sat : Bool) : Core × Bool :=
  match c.opSegs off 1 0 96 with
  | none => (c, true)
  | some g =>
    let (c, b) := c.readSegs 1 g
    match b with
    | none => (c, false)
    | some b =>
      let cur := amaxMerge (BitVec.ofNat 32 (leAt b 8 4)) a
      let w0 := leAt b 0 4 ||| (if sat then 2 ^ 30 else 0)
      c.writeSegs 1 g (leBytes 4 w0 ++ slice b 4 4 ++ leBytes 4 cur.toNat ++ b.drop 12)

/-- The oldest vector operation completes: its writes and its SSB merge take effect, an armed checker folds a
DRAIN's bytes, and it retires (R56, R77, R90, R108). -/
def vuComplete (k : SiteId) (s : State) : State :=
  let c := s.core k
  match (c.engine 1).run with
  | [] => s
  | o :: _ =>
    let d := vDesc o
    let side := ((c.opSegs d.dscl 1 0 (scaleBytes d.fo d.outs)).getD []).map (·.1)
    let (c, ok) := c.applyWrites side o.writes
    let (c, ok2) := match o.ssb with
      | some x => c.ssbMerge x.1 x.2.1 x.2.2
      | none => (c, true)
    let c := if c.armed && o.fold != [] then
        { c with checker := { c.checker with misr := misrFold (o.fold.length / 8 + 1) c.checker.misr o.fold } }
      else c
    if ok && ok2 then (s.putCore k ((c.finishOp 1 o.seq).chkLate.progress)).checkDone k
    else (s.putCore k c).engineFault k 1 3 rUNCORR o.off

/-- VU_ADD (R91). -/
def execVuAdd (k : SiteId) (s : State) : Res := .next (vuDispatch [1] k s)

/-- VU_SUB (R91). -/
def execVuSub (k : SiteId) (s : State) : Res := .next (vuDispatch [2] k s)

/-- VU_MUL (R91). -/
def execVuMul (k : SiteId) (s : State) : Res := .next (vuDispatch [3] k s)

/-- VU_FMA (R91). -/
def execVuFma (k : SiteId) (s : State) : Res := .next (vuDispatch [4] k s)

/-- VU_MAX (R91). -/
def execVuMax (k : SiteId) (s : State) : Res := .next (vuDispatch [5] k s)

/-- VU_MIN (R91). -/
def execVuMin (k : SiteId) (s : State) : Res := .next (vuDispatch [6] k s)

/-- VU_EXP2 (R93). -/
def execVuExp2 (k : SiteId) (s : State) : Res := .next (vuDispatch [7] k s)

/-- VU_RCP (R93). -/
def execVuRcp (k : SiteId) (s : State) : Res := .next (vuDispatch [8] k s)

/-- VU_RSQRT (R93). -/
def execVuRsqrt (k : SiteId) (s : State) : Res := .next (vuDispatch [9] k s)

/-- VU_LOG2 (R93). -/
def execVuLog2 (k : SiteId) (s : State) : Res := .next (vuDispatch [0xA] k s)

/-- VU_RSUM (R92). -/
def execVuRsum (k : SiteId) (s : State) : Res := .next (vuDispatch [0xB] k s)

/-- VU_RMAX (R92). -/
def execVuRmax (k : SiteId) (s : State) : Res := .next (vuDispatch [0xC] k s)

/-- VU_CVT (R91). -/
def execVuCvt (k : SiteId) (s : State) : Res := .next (vuDispatch [0xD] k s)

/-- VU_DRAIN (R91). -/
def execVuDrain (k : SiteId) (s : State) : Res := .next (vuDispatch [0xE] k s)

/-- VU_AMAX (R91). -/
def execVuAmax (k : SiteId) (s : State) : Res := .next (vuDispatch [0xF] k s)

/-- VU_OP_COMPLETE (R90). -/
def execVuOpComplete (k : SiteId) (s : State) : Res := .next (vuComplete k s)

end Sys2Proof.Machine
end

