-- ==== Sys2Proof/Machine/Sequencer.lean ====
section
/-!
DEFINITION. The core sequencer: fetch, the scalar registers, loops, contexts, events, waits, the SSB commit and
every instruction (R57, R75, R109-R137).
-/

namespace Sys2Proof.Machine

/-- The fields of an instruction word (R113). -/
def insnOp (w : Word) : Nat := wfld w 26 6
def insnRd (w : Word) : Nat := wfld w 22 4
def insnRa (w : Word) : Nat := wfld w 18 4
def insnRb (w : Word) : Nat := wfld w 14 4
def insnImm (w : Word) : Nat := wfld w 0 14

/-- IMM14 read as signed (R113). -/
def insnSimm (w : Word) : Int := sgn 14 (insnImm w)

/-- The bits of an instruction that must be 0, by opcode; none for an opcode R114 does not list. An engine number,
mask or condition of fewer than 14 bits leaves the rest of IMM14 unused (R113-R116). -/
def insnUnused (op : Nat) : Option Nat :=
  let rd := 0x3C00000
  let ra := 0x3C0000
  let rb := 0x3C000
  if op = 0x01 ∨ op = 0x1D ∨ op = 0x38 ∨ op = 0x3A ∨ op = 0x3B then some (rd + ra + rb + 0x3FFF)
  else if 0x02 ≤ op ∧ op ≤ 0x0C then some 0x3FFF
  else if 0x10 ≤ op ∧ op ≤ 0x13 then some rb
  else if 0x14 ≤ op ∧ op ≤ 0x16 then some (rb + 0x3FE0)
  else if op = 0x17 ∨ op = 0x26 ∨ op = 0x29 then some 0
  else if op = 0x18 ∨ op = 0x19 then some rb
  else if op = 0x1C ∨ op = 0x27 then some (rd + rb + 0x3FFF)
  else if 0x20 ≤ op ∧ op ≤ 0x25 then some rd
  else if op = 0x28 then some (rd + rb)
  else if op = 0x2C then some (rb + 0x3FF8)
  else if op = 0x2D then some (rd + rb + 0x3FF8)
  else if op = 0x2E then some (rd + ra + rb + 0x3FE0)
  else if op = 0x30 then some (rd + 0x3FFC)
  else if op = 0x31 ∨ op = 0x3E then some (rd + ra + rb)
  else if op = 0x34 ∨ op = 0x35 then some (rd + ra + rb + 0x3FF0)
  else if op = 0x36 then some (rd + ra + rb + 0x3FE0)
  else if op = 0x37 then some (ra + rb + 0x3FF0)
  else if op = 0x39 ∨ op = 0x3C then some (rd + ra + rb + 0x3FF8)
  else if op = 0x3D then some (rd + ra + rb + 0x3FF0)
  else none

/-- The running context (R126). -/
def Core.cur (c : Core) : Ctx := c.ctxAt c.seqr.cur.toNat

/-- A core with its running context changed. -/
def Core.mapCur (c : Core) (f : Ctx → Ctx) : Core := c.setCtx c.seqr.cur.toNat (f c.cur)

/-- A scalar register of the running context; s0 reads 0 (R110). -/
def Core.sreg (c : Core) (n : Nat) : Word := if n = 0 then 0 else Tbl.get 0 c.cur.regs n

/-- A scalar register of the running context whose value is available after some cycles, counted from the issue of
the instruction that writes it (R118). -/
def Core.setLate (c : Core) (n cycles : Nat) : Core :=
  if n = 0 then c
  else { c with seqr := { c.seqr with avail := Tbl.set 0 c.seqr.avail (16 * c.seqr.cur.toNat + n) cycles } }

/-- A core with a scalar register of the running context written; s0 discards it (R110). -/
def Core.setSreg (c : Core) (n : Nat) (v : Word) : Core :=
  if n = 0 then c else (c.mapCur fun x => { x with regs := Tbl.set 0 x.regs n v }).setLate n 0

/-- Results come some cycles nearer (R118). -/
def ageAvail (n : Nat) (t : Tbl Nat) : Tbl Nat := t.filterMap fun x => if n < x.2 then some (x.1, x.2 - n) else none

/-- An enabled event is pending and no handler is active (R131). -/
def Core.eventDue (c : Core) : Bool := (c.cur.pend &&& c.cur.en) != 0 && !c.cur.evActive

/-- Cycles the sequencer spends: RUN and the running context's cycles count, and flags age (R118, R135, R136,
R247). -/
def Core.elapse (c : Core) (n : Nat) : Core :=
  let q := { c.seqr with avail := ageAvail n c.seqr.avail }
  let c := (c.add64 0x100020 n).add64 (0x100740 + 8 * q.cur.toNat) n
  if n = 0 then c
  else if n = 1 then { c with seqr := { q with flagsSeen := q.flagsOld, flagsOld := q.flags } }
  else { c with seqr := { q with flagsSeen := q.flags, flagsOld := q.flags } }

/-- A core whose sequencer waits. -/
def Core.setWait (c : Core) (w : Wait) : Core := { c with seqr := { c.seqr with wait := w } }

/-- What follows the instruction at `pc` in sequence, counting the levels whose bodies end there, innermost
first: the context with its next PC, or none where that would be 4,096 (R109, R123, R124). -/
def loopNext (pc : Nat) : Nat → Ctx → Option Ctx
  | 0, x => if pc = 4095 then none else some { x with pc := BitVec.ofNat 12 (pc + 1), ldepth := 0 }
  | d + 1, x =>
    let l := x.level d
    if l.fin.toNat = pc then
      if 1 < l.remain.toNat then
        some { x with pc := l.start, ldepth := BitVec.ofNat 3 (d + 1)
                      loops := Tbl.set LoopLevel.reset x.loops d { l with remain := l.remain - 1 } }
      else loopNext pc d x
    else if pc = 4095 then none
    else some { x with pc := BitVec.ofNat 12 (pc + 1), ldepth := BitVec.ofNat 3 (d + 1) }

/-- Whether the instruction at PC is the last of an active body (R125). -/
def Ctx.closesLoop (x : Ctx) : Bool := (List.range x.ldepth.toNat).any fun v => (x.level v).fin == x.pc

/-- The loop levels a jump to `t` keeps: those outside the first whose body does not hold it (R125). -/
def Ctx.keepLevels (x : Ctx) (t : Nat) : Nat :=
  ((List.range x.ldepth.toNat).find? fun v =>
    !(decide ((x.level v).start.toNat ≤ t) && decide (t ≤ (x.level v).fin.toNat))).getD x.ldepth.toNat

/-- The instruction at PC retires in sequence after some cycles (R109, R118, R123). -/
def State.retire (s : State) (k : SiteId) (w : Word) (cycles : Nat) : State :=
  let c := (s.core k).progress
  let c := c.setWait .none
  match loopNext c.cur.pc.toNat c.cur.ldepth.toNat c.cur with
  | some x => s.putCore k ((c.mapCur fun _ => x).elapse cycles)
  | none => (s.putCore k (c.elapse cycles)).seqException k 2 0 w

/-- The instruction at PC is a taken branch or jump (R118, R125, R133). -/
def State.jump (s : State) (k : SiteId) (w : Word) (t : Int) (cycles : Nat) : State :=
  let c := (s.core k).progress
  if t < 0 ∨ 4095 < t then s.seqException k 2 0 w
  else
    s.putCore k ((c.mapCur fun x =>
      { x with pc := BitVec.ofNat 12 t.toNat, ldepth := BitVec.ofNat 3 (x.keepLevels t.toNat) }).elapse cycles)

/-- The word at PC as fetched: none where it is uncorrectable (R109, R160). -/
def Core.fetch (c : Core) : Core × Option Word :=
  let r := c.seqr.istore.read (4 * c.cur.pc.toNat) 4
  (c.noteEcc 2 r.ce r.ue r.cw, if r.ue = 0 then some (BitVec.ofNat 32 (leNat r.bytes)) else none)

/-- The sequencer runs, waits for nothing, and has no event to take first (R120, R131). -/
def Core.ready (c : Core) : Bool := c.seqr.run && !c.quiesce && c.seqr.wait == .none && !c.eventDue

/-- The scalar registers an instruction reads (R114). -/
def insnSrcs (w : Word) : List Nat :=
  let op := insnOp w
  if (0x02 ≤ op ∧ op ≤ 0x0C) ∨ (0x20 ≤ op ∧ op ≤ 0x25) ∨ op = 0x30 then [insnRa w, insnRb w]
  else if op = 0x19 then [insnRa w, insnRd w]
  else if (0x10 ≤ op ∧ op ≤ 0x16) ∨ op = 0x18 ∨ op = 0x1C ∨ op = 0x27 ∨ op = 0x28 ∨ op = 0x2C ∨ op = 0x2D then [insnRa w]
  else []

/-- The cycles until the results an instruction reads are available (R118). -/
def Core.lateness (c : Core) (w : Word) : Nat :=
  ((insnSrcs w).map fun n => Tbl.get 0 c.seqr.avail (16 * c.seqr.cur.toNat + n)).foldl max 0

/-- An instruction stalls until the results it reads are available (R118, R136). -/
def Core.awaitSrcs (c : Core) (w : Word) : Core :=
  let n := c.lateness w
  if n = 0 then c else (c.elapse n).add64 0x100028 n

/-- The instruction at PC executed, if `takes` admits its opcode: fetch, the loop depth a context may hold,
unused fields, then its own operation (R113, R114, R133, R136). -/
def State.fetchRun (s : State) (k : SiteId) (takes : Nat → Bool) (body : Word → State → State) : State :=
  match (s.core k).fetch with
  | (c, none) => (s.putCore k c).seqException k 6 0 0
  | (c, some w) =>
    if !takes (insnOp w) then s
    else
      let s := s.putCore k (c.awaitSrcs w)
      if 4 < (s.core k).cur.ldepth.toNat then s.seqException k 3 0 w
      else match insnUnused (insnOp w) with
        | none => s.seqException k 1 0 w
        | some m => if w.toNat &&& m = 0 then body w s else s.seqException k 1 0 w

/-- The instruction at PC executed by a command of its opcode, when the sequencer is ready. -/
def seqStep (op : Nat) (body : Word → State → State) (k : SiteId) (s : State) : State :=
  if (s.core k).ready then s.fetchRun k (· == op) body else s

/-- An instruction that writes RD from RA and RB in one cycle. -/
def aluRR (k : SiteId) (f : Word → Word → Word) (w : Word) (s : State) : State :=
  let c := s.core k
  (s.setCore k (c.setSreg (insnRd w) (f (c.sreg (insnRa w)) (c.sreg (insnRb w))))).retire k w 1

/-- An instruction that writes RD from RA and its immediate in one cycle. -/
def aluRI (k : SiteId) (f : Word → Word → Word) (w : Word) (s : State) : State :=
  let c := s.core k
  (s.setCore k (c.setSreg (insnRd w) (f (c.sreg (insnRa w)) (BitVec.ofNat 32 (insnImm w))))).retire k w 1

/-- MUL: its result is available after two cycles (R114, R118). -/
def seqMul (k : SiteId) (w : Word) (s : State) : State :=
  let c := s.core k
  (s.setCore k ((c.setSreg (insnRd w) (c.sreg (insnRa w) * c.sreg (insnRb w))).setLate (insnRd w) 2)).retire k w 1

/-- A branch on RA and RB (R118, R125). -/
def branch (k : SiteId) (f : Word → Word → Bool) (w : Word) (s : State) : State :=
  let c := s.core k
  if c.cur.closesLoop then s.seqException k 1 0 w
  else if f (c.sreg (insnRa w)) (c.sreg (insnRb w)) then s.jump k w (c.cur.pc.toNat + insnSimm w) 2
  else s.retire k w 1

/-- The shift amount of a register or immediate shift. -/
def shamt (b : Word) : Nat := b.toNat % 32

/-- The offset an LD or ST names. -/
def Core.memOff (c : Core) (w : Word) : Nat := (c.sreg (insnRa w) + BitVec.ofInt 32 (insnSimm w)).toNat

/-- LD (R111, R133, R151). -/
def seqLd (k : SiteId) (w : Word) (s : State) : State :=
  let c := s.core k
  let a := c.memOff w
  if a % 4 ≠ 0 then s.seqException k 2 0 w
  else if a < 0x40000 then
    if !(c.sramUp a 4) then s.putCore k (c.wakeBytes a 4)
    else match c.sramRead 2 a 4 with
      | (c, some b) => (s.putCore k ((c.setSreg (insnRd w) (BitVec.ofNat 32 (leNat b))).setLate (insnRd w) 4)).retire k w 1
      | (c, none) => (s.putCore k c).seqException k 6 0 0
  else if coreDecoded a then
    let n := a % 0x40 / 4
    let slot := c.tqSlot n (c.tq n).rd
    if inWords a 0x100700 16 && (c.tq n).cnt != 0 && !(c.sramUp slot 4) then s.putCore k (c.wakeBytes slot 4)
    else match s.coreRead k a with
      | (s, some v) => (s.modCore k fun c => (c.setSreg (insnRd w) v).setLate (insnRd w) 4).retire k w 1
      | (s, none) => s.seqException k 6 0 0
  else s.seqException k 2 0 w

/-- The registers a ST may write (R111). -/
def stAllowed (a : Nat) : Bool :=
  coreDecoded a && ((decide (0x100200 ≤ a) && decide (a < 0x100600)) || (decide (0x100B00 ≤ a) && decide (a < 0x100C00)))

/-- ST (R111, R133, R142, R151). -/
def seqSt (k : SiteId) (w : Word) (s : State) : State :=
  let c := s.core k
  let a := c.memOff w
  let v := c.sreg (insnRd w)
  if a % 4 ≠ 0 then s.seqException k 2 0 w
  else if a < 0x40000 then
    if !(c.sramUp a 4) then s.putCore k (c.wakeBytes a 4)
    else match c.sramWrite 2 a (leBytes 4 v.toNat) with
      | (c, true) => (s.putCore k c).retire k w 1
      | (c, false) => (s.putCore k c).seqException k 6 0 0
  else if stAllowed a then (s.coreWrite k a v).retire k w 1
  else s.seqException k 2 0 w

/-- The history entries a commit examines that are finite and positive (R57). -/
def histEntries (b : List Byte) (head n : Nat) : List Val :=
  ((List.range n).map fun i => f32 (BitVec.ofNat 32 (leAt b (0x10 + 4 * ((head + 16 - i) % 16)) 4))).filter fun v =>
    match v with
    | .fin false m _ => m != 0
    | _ => false

/-- The SSB after a commit, and whether its amax was NaN or infinite (R57). -/
def ssbCommitted (b : List Byte) : List Byte × Bool :=
  let a := slice b 8 4
  let nf := (f32 (BitVec.ofNat 32 (leNat a))).nonFinite
  let w0 := BitVec.ofNat 32 (leAt b 0 4)
  let head := if nf then wfld w0 24 4 else (wfld w0 24 4 + 1) % 16
  let w0 := if nf then setBit w0 29 true else setFld w0 24 4 head
  let hist := if nf then slice b 0x10 64
    else slice b 0x10 (4 * head) ++ a ++ slice b (0x14 + 4 * head) (60 - 4 * head)
  let w1 := BitVec.ofNat 32 (leAt b 4 4)
  let pol := wfld w0 16 8
  let mk (w1 : Word) : List Byte :=
    leBytes 4 w0.toNat ++ leBytes 4 w1.toNat ++ leBytes 4 0 ++ leBytes 4 (leAt b 0xC 4 + 1) ++ hist ++ slice b 0x50 16
  match Format.ofCode (wfld w0 8 8) with
  | none => (mk w1, nf)
  | some f =>
    if pol = 0 ∨ pol = 3 ∨ f.scaling ≠ .tile then (mk w1, nf)
    else
      let vs := histEntries (mk w1) head (if pol = 2 then 1 else wfld w1 16 5)
      let h := absMax vs
      if vs = [] then (mk w1, nf)
      else
        let e := clampI (-127) 127 (tileExp f h - wfld w1 8 4)
        (mk (setFld w1 0 8 (unsgn 8 e)), nf)

/-- Operations that name an SSB and have not merged (R57). -/
def Core.ssbOwed (c : Core) (off : Nat) : Bool :=
  let e := c.engine 1
  (e.queue ++ e.run).any fun o => opFld o 0 26 1 == 1 && 32 * opFld o 0x1C 0 13 == off

/-- The commit of an SSB whose operations have all merged: it retires the SSBC, or raises SSB or ECC (R57,
R133). -/
def State.ssbCommit (s : State) (k : SiteId) (w : Word) (off : Nat) : State :=
  match (s.core k).sramRead 2 off 96 with
  | (c, none) => (s.putCore k c).seqException k 6 0 0
  | (c, some b) =>
    if !(ssbValid b none) then (s.putCore k c).seqException k 7 0 w
    else
      let r := ssbCommitted b
      let (c, _) := c.sramWrite 2 off r.1
      (s.putCore k (if r.2 then c.bump 0x10022C 1 else c)).retire k w 4

/-- SSBC (R57, R133). -/
def seqSsbc (k : SiteId) (w : Word) (s : State) : State :=
  let c := s.core k
  let off := (c.sreg (insnRa w)).toNat
  if off % 32 ≠ 0 ∨ 0x40000 < off + 96 then s.seqException k 2 0 w
  else if !(c.sramUp off 96) then s.putCore k (c.wakeBytes off 96)
  else if c.ssbOwed off then s.setCore k (c.setWait (.commit off))
  else s.ssbCommit k w off

/-- LOOP and LOOPI (R123-R125). -/
def loopPush (k : SiteId) (w : Word) (len : Nat) (count : Word) (s : State) : State :=
  let x := (s.core k).cur
  let pc := x.pc.toNat
  if len = 0 ∨ x.closesLoop then s.seqException k 1 0 w
  else if 4095 < pc + len then s.seqException k 2 0 w
  else if count = 0 then
    match loopNext (pc + len) x.ldepth.toNat x with
    | some y => s.putCore k (((s.core k).progress.mapCur fun _ => y).elapse 1)
    | none => s.seqException k 2 0 w
  else if x.ldepth.toNat = 4 then s.seqException k 3 0 w
  else
    let l : LoopLevel := { start := BitVec.ofNat 12 (pc + 1), fin := BitVec.ofNat 12 (pc + len), remain := count }
    let y := { x with pc := BitVec.ofNat 12 (pc + 1), ldepth := x.ldepth + 1
                      loops := Tbl.set LoopLevel.reset x.loops x.ldepth.toNat l }
    s.putCore k (((s.core k).progress.mapCur fun _ => y).elapse 1)

/-- Operations outstanding on an engine (R122). -/
def Engine.outstanding (e : Engine) : Nat := (e.issued - e.done).toNat

/-- An operation as issued (R76, R63). -/
def Core.newOp (c : Core) (off : Nat) (b : List Byte) : Op :=
  { desc := BitVec.ofNat 256 (leNat b), off := off, ctx := c.seqr.cur, seq := c.opSeq
    seed := c.reg 0x10020C ++ c.reg 0x100208, step := c.reg 0x100210, banks := 0, writes := [], ssb := none
    fold := [], finished := false, left := [], unacked := 0, waiting := false }

/-- ISSUE (R75, R76, R115, R119, R121, R122). -/
def seqIssue (k : SiteId) (w : Word) (s : State) : State :=
  let c := s.core k
  let eng := insnImm w
  let off := (c.sreg (insnRa w)).toNat
  if 4 < eng then s.seqException k 1 0 w
  else if off % 32 ≠ 0 ∨ 0x40000 < off + 32 then s.seqException k 2 0 w
  else
    let e := c.engine eng
    if 4 ≤ e.queue.length ∨ 64 ≤ e.outstanding then s.setCore k (c.setWait (.queueFull eng))
    else if !(c.sramUp off 32) then s.putCore k (c.wakeBytes off 32)
    else match c.sramRead 2 off 32 with
      | (c, none) => (s.putCore k c).seqException k 6 0 0
      | (c, some b) =>
        let o := c.newOp off b
        let t := e.issued + 1
        let c := { c.setEngine eng { e with queue := e.queue ++ [o], issued := t } with opSeq := c.opSeq + 1 }
        (s.putCore k (c.setSreg (insnRd w) (t.setWidth 32))).retire k w 1

/-- Whether the operation with a ticket has completed (R122). -/
def Engine.reached (e : Engine) (t : BitVec 16) : Bool := decide ((e.issued - e.done).toNat ≤ (e.issued - t).toNat)

/-- A wait that retires when its condition holds and otherwise waits (R119, R122). -/
def seqWait (k : SiteId) (w : Word) (cond : Bool) (wt : Wait) (s : State) : State :=
  if cond then s.retire k w 1 else s.setCore k ((s.core k).setWait wt)

/-- WAITC (R115, R122). -/
def seqWaitc (k : SiteId) (w : Word) (s : State) : State :=
  let c := s.core k
  let t : BitVec 16 := (c.sreg (insnRa w)).setWidth 16
  if 4 < insnImm w then s.seqException k 1 0 w
  else seqWait k w ((c.engine (insnImm w)).reached t) (.ticket (insnImm w) t) s

/-- Every engine of a mask has counted all it was issued (R122). -/
def Core.allDone (c : Core) (m : Nat) : Bool :=
  (List.range 5).all fun e => !m.testBit e || (c.engine e).issued == (c.engine e).done

/-- WAITI (R115, R122). -/
def seqWaiti (k : SiteId) (w : Word) (s : State) : State :=
  seqWait k w ((s.core k).allDone (insnImm w)) (.idle (BitVec.ofNat 5 (insnImm w))) s

/-- The condition of WAITW (R116). -/
def waitCond (cond : Nat) (word rb : Word) : Bool :=
  match cond with
  | 0 => word == rb
  | 1 => word != rb
  | _ => decide (0 ≤ (word - rb).toInt)

/-- WAITW (R116, R151). -/
def seqWaitw (k : SiteId) (w : Word) (s : State) : State :=
  let c := s.core k
  let a := (c.sreg (insnRa w)).toNat
  let rb := c.sreg (insnRb w)
  let wt := Wait.word a (BitVec.ofNat 2 (insnImm w)) rb
  if insnImm w = 3 then s.seqException k 1 0 w
  else if a % 4 ≠ 0 then s.seqException k 2 0 w
  else if a < 0x40000 then
    if !(c.sramUp a 4) then s.putCore k ((c.wakeBytes a 4).setWait wt)
    else match c.sramRead 2 a 4 with
      | (c, some b) => seqWait k w (waitCond (insnImm w) (BitVec.ofNat 32 (leNat b)) rb) wt (s.putCore k c)
      | (c, none) => (s.putCore k c).seqException k 6 0 0
  else if coreDecoded a then
    if inWords a 0x104000 4096 then
      match s.coreRead k a with
      | (s, some v) => seqWait k w (waitCond (insnImm w) v rb) wt s
      | (s, none) => s.seqException k 6 0 0
    else seqWait k w (waitCond (insnImm w) (s.coreView k a) rb) wt s
  else s.seqException k 2 0 w

/-- A core's sense bit for a barrier (R286). -/
def Core.senseOf (c : Core) (b : Nat) : Bool := Tbl.get false c.sense b

/-- A core's arrival at a barrier, sent into its own router (R286, R287). -/
def State.sendArrival (s : State) (k : SiteId) (b : Nat) (sense : Bool) : State :=
  s.injectC k .loc (mkC 2 0 (s.core k).net.epoch 0 0 (b + (sense.toNat <<< 15)) 0)

/-- BARRIER: it waits for the send engine, flips the sense, arrives and waits for the release (R287). -/
def seqBarrier (k : SiteId) (w : Word) (s : State) : State :=
  let c := s.core k
  let b := insnImm w
  let bb : BitVec 14 := BitVec.ofNat 14 b
  if !(c.allDone 16) then s.setCore k (c.setWait (.barrier bb (c.senseOf b) false))
  else
    let sn := !(c.senseOf b)
    let c := { c with sense := Tbl.set false c.sense b sn }
    (s.setCore k (c.setWait (.barrier bb sn true))).sendArrival k b sn

/-- FWAIT (R135). -/
def seqFwait (k : SiteId) (w : Word) (s : State) : State :=
  let c := s.core k
  let f := insnImm w % 16
  let clr := decide (16 ≤ insnImm w)
  if c.flagSeen f then (s.setCore k (if clr then c.clrFlags (1 <<< f) else c)).retire k w 1
  else s.setCore k (c.setWait (.flag f clr))

/-- The first READY context after the running one (R127). -/
def Core.nextReady (c : Core) : Option Nat :=
  ((List.range 7).map fun i => (c.seqr.cur.toNat + 1 + i) % 8).find? fun i => (c.ctxAt i).st == 1

/-- A context starts issuing; one that was halted at a barrier it has arrived at waits for its release (R127,
R134). -/
def Core.startCtx (c : Core) (n : Nat) : Core :=
  let x := c.ctxAt n
  let c := c.setCtx n { x with st := 2, bwait := false }
  { c with seqr := { c.seqr with cur := BitVec.ofNat 3 n, run := true, done := false
                                 wait := if x.bwait then .barrier x.bar x.sense true else .none } }

/-- A switch to another context in three cycles (R127). -/
def State.switchTo (s : State) (k : SiteId) (w : Word) (n : Nat) (halting : Bool) : State :=
  let c := s.core k
  if c.cur.pc = 4095 ∧ !halting then s.seqException k 2 0 w
  else
    let c := (c.progress.elapse 3).mapCur fun x => { x with pc := x.pc + 1, st := if halting then 3 else 1 }
    s.putCore k (c.startCtx n)

/-- YIELD (R125, R127). -/
def seqYield (k : SiteId) (w : Word) (s : State) : State :=
  let c := s.core k
  if c.cur.closesLoop then s.seqException k 1 0 w
  else match c.nextReady with
    | some n => s.switchTo k w n false
    | none => s.retire k w 1

/-- CTX (R125, R127). -/
def seqCtx (k : SiteId) (w : Word) (s : State) : State :=
  let c := s.core k
  let n := insnImm w
  if c.cur.closesLoop then s.seqException k 1 0 w
  else if n = c.seqr.cur.toNat then s.retire k w 1
  else if (c.ctxAt n).st = 1 then s.switchTo k w n false
  else s.seqException k 4 0 w

/-- HALT (R125, R127, R129). -/
def seqHalt (k : SiteId) (w : Word) (s : State) : State :=
  let c := s.core k
  if c.cur.closesLoop then s.seqException k 1 0 w
  else match c.nextReady with
    | some n => s.switchTo k w n true
    | none =>
      let c := (c.progress.elapse 1).mapCur fun x => { x with pc := x.pc + 1, st := 3 }
      (s.putCore k { c with seqr := { c.seqr with run := false, done := true } }).checkDone k

/-- RETE (R125, R131). -/
def seqRete (k : SiteId) (w : Word) (s : State) : State :=
  let c := s.core k
  if c.cur.closesLoop ∨ !c.cur.evActive then s.seqException k 1 0 w
  else s.putCore k ((c.progress.mapCur fun x => { x with pc := x.epc, evActive := false }).elapse 2)

/-- EVSET (R130). -/
def seqEvset (k : SiteId) (w : Word) (s : State) : State :=
  let c := s.core k
  if (c.ctxAt (insnImm w)).st = 0 then s.seqException k 4 0 w
  else (s.setCore k (c.pend (insnImm w) 3)).retire k w 1

/-- EVCLR (R130). -/
def seqEvclr (k : SiteId) (w : Word) (s : State) : State :=
  (s.modCore k fun c => c.mapCur fun x => { x with pend := x.pend &&& ~~~(BitVec.ofNat 4 (insnImm w)) }).retire k w 1

/-- JAL (R114, R125). -/
def seqJal (k : SiteId) (w : Word) (s : State) : State :=
  let c := s.core k
  let pc := c.cur.pc.toNat
  let t : Int := pc + sgn 22 (wfld w 0 22)
  if c.cur.closesLoop then s.seqException k 1 0 w
  else if t < 0 ∨ 4095 < t then s.seqException k 2 0 w
  else (s.setCore k (c.setSreg (insnRd w) (BitVec.ofNat 32 (pc + 1)))).jump k w t 2

/-- JR (R114, R125). -/
def seqJr (k : SiteId) (w : Word) (s : State) : State :=
  let c := s.core k
  if c.cur.closesLoop then s.seqException k 1 0 w else s.jump k w (c.sreg (insnRa w)).toNat 2

/-- FTST (R135). -/
def seqFtst (k : SiteId) (w : Word) (s : State) : State :=
  (s.modCore k fun c => c.setSreg (insnRd w) (if c.flagSeen (insnImm w) then 1 else 0)).retire k w 1

/-- A wait an event ends: WAITC, WAITI, WAITW, FWAIT (R132). -/
def Wait.yields : Wait → Bool
  | .ticket _ _ => true
  | .idle _ => true
  | .word _ _ _ => true
  | .flag _ _ => true
  | _ => false

/-- The operation of a stalled or waiting instruction tried again (R119). -/
def stalledBody (k : SiteId) (w : Word) (s : State) : State :=
  match insnOp w with
  | 0x2C => seqIssue k w s
  | 0x2D => seqWaitc k w s
  | 0x2E => seqWaiti k w s
  | 0x30 => seqWaitw k w s
  | 0x36 => seqFwait k w s
  | 0x31 => seqBarrier k w s
  | 0x1C => seqSsbc k w s
  | _ => s

/-- A stalled ISSUE or an unmet wait retires once its condition holds; a barrier that has been arrived at waits
for its release (R119, R287). -/
def stallRetire (k : SiteId) (s : State) : State :=
  let c := s.core k
  let go : State := (s.setCore k (c.setWait .none)).fetchRun k (fun _ => true) (stalledBody k)
  if !c.seqr.run ∨ (c.seqr.wait.yields ∧ c.eventDue) then s
  else match c.seqr.wait with
    | .none => s
    | .barrier _ _ true => s
    | _ => go

/-- The running context takes its pending event at an instruction boundary or in a wait the event ends; an event that
no EVSET has raised counts as slip (R131, R132, R234). -/
def eventEntry (k : SiteId) (s : State) : State :=
  let c := s.core k
  if c.seqr.run && c.eventDue && (c.seqr.wait == .none || c.seqr.wait.yields) then
    let others := (c.cur.pend &&& c.cur.en) &&& 7
    let s := s.putCore k (((c.setWait .none).mapCur fun x => { x with epc := x.pc, evActive := true, pc := x.vec }).elapse 3)
    if others = 0 then s else s.slip k 3 3
  else s

/-- An instruction whose opcode is 0 or unlisted raises ILLEGAL (R114, R133). -/
def illegalInsn (k : SiteId) (s : State) : State :=
  if (s.core k).ready then s.fetchRun k (fun op => (insnUnused op).isNone) (fun _ s => s) else s

/-- NOP (R114). -/
def execNop (k : SiteId) (s : State) : Res := .next (seqStep 0x01 (fun w s => s.retire k w 1) k s)

/-- ADD (R114). -/
def execAdd (k : SiteId) (s : State) : Res := .next (seqStep 0x02 (aluRR k (· + ·)) k s)

/-- SUB (R114). -/
def execSub (k : SiteId) (s : State) : Res := .next (seqStep 0x03 (aluRR k (· - ·)) k s)

/-- AND (R114). -/
def execAnd (k : SiteId) (s : State) : Res := .next (seqStep 0x04 (aluRR k (· &&& ·)) k s)

/-- OR (R114). -/
def execOr (k : SiteId) (s : State) : Res := .next (seqStep 0x05 (aluRR k (· ||| ·)) k s)

/-- XOR (R114). -/
def execXor (k : SiteId) (s : State) : Res := .next (seqStep 0x06 (aluRR k (· ^^^ ·)) k s)

/-- SHL (R114). -/
def execShl (k : SiteId) (s : State) : Res := .next (seqStep 0x07 (aluRR k fun a b => a <<< shamt b) k s)

/-- SHR (R114). -/
def execShr (k : SiteId) (s : State) : Res := .next (seqStep 0x08 (aluRR k fun a b => a >>> shamt b) k s)

/-- SRA (R114). -/
def execSra (k : SiteId) (s : State) : Res := .next (seqStep 0x09 (aluRR k fun a b => a.sshiftRight (shamt b)) k s)

/-- MUL (R114). -/
def execMul (k : SiteId) (s : State) : Res := .next (seqStep 0x0A (seqMul k) k s)

/-- SLT (R114). -/
def execSlt (k : SiteId) (s : State) : Res := .next (seqStep 0x0B (aluRR k fun a b => if a.slt b then 1 else 0) k s)

/-- SLTU (R114). -/
def execSltu (k : SiteId) (s : State) : Res := .next (seqStep 0x0C (aluRR k fun a b => if a.ult b then 1 else 0) k s)

/-- ADDI (R114). -/
def execAddi (k : SiteId) (s : State) : Res :=
  .next (seqStep 0x10 (aluRI k fun a i => a + BitVec.ofInt 32 (sgn 14 i.toNat)) k s)

/-- ANDI (R114). -/
def execAndi (k : SiteId) (s : State) : Res := .next (seqStep 0x11 (aluRI k (· &&& ·)) k s)

/-- ORI (R114). -/
def execOri (k : SiteId) (s : State) : Res := .next (seqStep 0x12 (aluRI k (· ||| ·)) k s)

/-- XORI (R114). -/
def execXori (k : SiteId) (s : State) : Res := .next (seqStep 0x13 (aluRI k (· ^^^ ·)) k s)

/-- SHLI (R114). -/
def execShli (k : SiteId) (s : State) : Res := .next (seqStep 0x14 (aluRI k fun a i => a <<< shamt i) k s)

/-- SHRI (R114). -/
def execShri (k : SiteId) (s : State) : Res := .next (seqStep 0x15 (aluRI k fun a i => a >>> shamt i) k s)

/-- SRAI (R114). -/
def execSrai (k : SiteId) (s : State) : Res :=
  .next (seqStep 0x16 (aluRI k fun a i => a.sshiftRight (shamt i)) k s)

/-- LUI (R114). -/
def execLui (k : SiteId) (s : State) : Res :=
  .next (seqStep 0x17 (fun w s =>
    (s.modCore k fun c => c.setSreg (insnRd w) (BitVec.ofNat 32 (wfld w 0 22 <<< 10))).retire k w 1) k s)

/-- LD (R111). -/
def execLd (k : SiteId) (s : State) : Res := .next (seqStep 0x18 (seqLd k) k s)

/-- ST (R111). -/
def execSt (k : SiteId) (s : State) : Res := .next (seqStep 0x19 (seqSt k) k s)

/-- SSBC (R57). -/
def execSsbc (k : SiteId) (s : State) : Res := .next (seqStep 0x1C (seqSsbc k) k s)

/-- STEP (R114). -/
def execStep (k : SiteId) (s : State) : Res :=
  .next (seqStep 0x1D (fun w s => (s.modCore k fun c => c.setReg 0x100210 (c.reg 0x100210 + 1)).retire k w 1) k s)

/-- BEQ (R114). -/
def execBeq (k : SiteId) (s : State) : Res := .next (seqStep 0x20 (branch k fun a b => a == b) k s)

/-- BNE (R114). -/
def execBne (k : SiteId) (s : State) : Res := .next (seqStep 0x21 (branch k fun a b => a != b) k s)

/-- BLT (R114). -/
def execBlt (k : SiteId) (s : State) : Res := .next (seqStep 0x22 (branch k fun a b => a.slt b) k s)

/-- BGE (R114). -/
def execBge (k : SiteId) (s : State) : Res := .next (seqStep 0x23 (branch k fun a b => !a.slt b) k s)

/-- BLTU (R114). -/
def execBltu (k : SiteId) (s : State) : Res := .next (seqStep 0x24 (branch k fun a b => a.ult b) k s)

/-- BGEU (R114). -/
def execBgeu (k : SiteId) (s : State) : Res := .next (seqStep 0x25 (branch k fun a b => !a.ult b) k s)

/-- JAL (R114). -/
def execJal (k : SiteId) (s : State) : Res := .next (seqStep 0x26 (seqJal k) k s)

/-- JR (R114). -/
def execJr (k : SiteId) (s : State) : Res := .next (seqStep 0x27 (seqJr k) k s)

/-- LOOP (R123). -/
def execLoop (k : SiteId) (s : State) : Res :=
  .next (seqStep 0x28 (fun w s => loopPush k w (insnImm w) ((s.core k).sreg (insnRa w)) s) k s)

/-- LOOPI (R123). -/
def execLoopi (k : SiteId) (s : State) : Res :=
  .next (seqStep 0x29 (fun w s => loopPush k w (insnImm w) (BitVec.ofNat 32 (wfld w 14 12)) s) k s)

/-- ISSUE (R75). -/
def execIssue (k : SiteId) (s : State) : Res := .next (seqStep 0x2C (seqIssue k) k s)

/-- WAITC (R122). -/
def execWaitc (k : SiteId) (s : State) : Res := .next (seqStep 0x2D (seqWaitc k) k s)

/-- WAITI (R122). -/
def execWaiti (k : SiteId) (s : State) : Res := .next (seqStep 0x2E (seqWaiti k) k s)

/-- WAITW (R116). -/
def execWaitw (k : SiteId) (s : State) : Res := .next (seqStep 0x30 (seqWaitw k) k s)

/-- BARRIER (R287). -/
def execBarrier (k : SiteId) (s : State) : Res := .next (seqStep 0x31 (seqBarrier k) k s)

/-- FSET (R135). -/
def execFset (k : SiteId) (s : State) : Res :=
  .next (seqStep 0x34 (fun w s => (s.modCore k fun c => c.setFlags (1 <<< insnImm w)).retire k w 1) k s)

/-- FCLR (R135). -/
def execFclr (k : SiteId) (s : State) : Res :=
  .next (seqStep 0x35 (fun w s => (s.modCore k fun c => c.clrFlags (1 <<< insnImm w)).retire k w 1) k s)

/-- FWAIT (R135). -/
def execFwait (k : SiteId) (s : State) : Res := .next (seqStep 0x36 (seqFwait k) k s)

/-- FTST (R135). -/
def execFtst (k : SiteId) (s : State) : Res := .next (seqStep 0x37 (seqFtst k) k s)

/-- YIELD (R127). -/
def execYield (k : SiteId) (s : State) : Res := .next (seqStep 0x38 (seqYield k) k s)

/-- CTX (R127). -/
def execCtx (k : SiteId) (s : State) : Res := .next (seqStep 0x39 (seqCtx k) k s)

/-- HALT (R127). -/
def execHalt (k : SiteId) (s : State) : Res := .next (seqStep 0x3A (seqHalt k) k s)

/-- RETE (R131). -/
def execRete (k : SiteId) (s : State) : Res := .next (seqStep 0x3B (seqRete k) k s)

/-- EVSET (R130). -/
def execEvset (k : SiteId) (s : State) : Res := .next (seqStep 0x3C (seqEvset k) k s)

/-- EVCLR (R130). -/
def execEvclr (k : SiteId) (s : State) : Res := .next (seqStep 0x3D (seqEvclr k) k s)

/-- TRAP (R133). -/
def execTrap (k : SiteId) (s : State) : Res :=
  .next (seqStep 0x3E (fun w s => s.seqException k 5 (insnImm w) w) k s)

/-- ILLEGAL_INSTRUCTION (R114). -/
def execIllegalInstruction (k : SiteId) (s : State) : Res := .next (illegalInsn k s)

/-- STALL_RETIRE (R119). -/
def execStallRetire (k : SiteId) (s : State) : Res := .next (stallRetire k s)

/-- EVENT_ENTRY (R131). -/
def execEventEntry (k : SiteId) (s : State) : Res := .next (eventEntry k s)

end Sys2Proof.Machine
end

