-- ==== Sys2Proof/Machine/Fabric.lean ====
section
/-!
DEFINITION. What a router does with what reaches it: packets, barrier and release tokens, halts, links that fail and
retrain (R134, R173, R188-R190, R196, R204-R206, R236, R286-R289, R374).
-/

namespace Sys2Proof.Machine

/-- What a lantern that is QUIESCING still forwards: responses, ACKs, NAKs and its notice (R375). -/
def LinkOut.late : LinkOut → Bool
  | .packet _ p => isResponse p.type
  | .quiesce _ => true
  | .nak _ => true
  | _ => false

/-- A Jendex packet or a control record queued at a lantern that is UP, or that is QUIESCING and still forwards it
(R357, R368, R375). -/
def State.lntSend (s : State) (l : Nat) (x : LinkOut) : State :=
  let n := s.lantern l
  if n.st = 3 ∨ (n.st = 4 ∧ x.late) then s.setLantern l { n with out := n.out ++ [x] } else s

/-- The lanterns to the children of the system tree (R369). -/
def State.treeDown (s : State) : List Nat :=
  let m := (s.bar (sysBase + 0x10)).toNat + (wfld (s.bar (sysBase + 0x14)) 0 16 <<< 32)
  (List.range 48).filter fun l => m.testBit l

/-- Whether a barrier is registered as a system barrier (R374). -/
def State.sbarOn (s : State) (b : Nat) : Bool :=
  (List.range 16).any fun n =>
    let w := s.bar (sysBase + 0x20 + 4 * n)
    wbit w 31 && wfld w 0 14 == b

/-- ARG of a barrier packet (R286). -/
def barArg (b : Nat) (sense : Bool) : Nat := b + (sense.toNat <<< 15)

/-- A barrier released at its group's root on this engine (R287). -/
def State.releaseTree (s : State) (v : Bool) (b : Nat) (sense : Bool) : State :=
  let g := s.fab.groupRoot v b
  if wbit g 31 then s.injectC (mkSite (wfld g 0 10) (wfld g 10 9)) .loc (mkC 3 0 v 0 0 (barArg b sense) 0) else s

/-- A system release: to the children, and down the local tree (R374). -/
def State.sbarFree (s : State) (b : Nat) (sense : Bool) : State :=
  (s.treeDown.foldl (fun (s : State) l => s.lntSend l (.sbarRelease (BitVec.ofNat 14 b) sense)) s).releaseTree s.curVer b sense

/-- An arrival at a system barrier marked: bit 48 the local one, the rest by lantern. When all have arrived the
marks clear and the arrival goes up, or the root releases. With no way up it waits (R369, R374). -/
def State.sbarMark (s : State) (b : Nat) (sense : Bool) (bit : Nat) : State :=
  let key := 2 * b + sense.toNat
  let m : BitVec 49 := Tbl.get 0 s.lnts.marks key ||| (1 <<< bit)
  let put (s : State) (m : BitVec 49) : State := { s with lnts := { s.lnts with marks := Tbl.set 0 s.lnts.marks key m } }
  let up := s.bar (sysBase + 0xC)
  let upL := wfld up 0 6
  if !(m.getLsbD 48 && s.treeDown.all fun l => m.getLsbD l) || !(wbit up 31) then put s m
  else if wbit up 6 then (put s 0).sbarFree b sense
  else if (s.lantern upL).st ≠ 3 then put s m
  else (put s 0).lntSend upL (.sbarArrive (BitVec.ofNat 14 b) sense)

/-- A barrier arrival at a router (R287, R289). -/
def barArriveAt (k : SiteId) (c : CPacket) (port : Port) (s : State) : State :=
  let b := c.arg.toNat % 2 ^ 14
  let sense := c.arg.getLsbD 15
  match s.treeAt c.epoch k b with
  | none => s.dropAt k
  | some t =>
    if (t.out &&& Port.bit port) = 0 then s.dropAt k
    else
      let r := s.router k
      let key := 2 * b + sense.toNat
      let a : BitVec 5 := Tbl.get 0 r.arr key ||| Port.bit port
      if (t.out &&& ~~~a) ≠ 0 then s.setRouter k { r with arr := Tbl.set 0 r.arr key a }
      else
        let s := s.setRouter k { r with arr := Tbl.set 0 r.arr key 0 }
        if t.up = 7 then
          if s.sbarOn b then s.sbarMark b sense 48
          else s.injectC k .loc (mkC 3 0 c.epoch 0 0 (barArg b sense) 0)
        else s.crossC k port (Dir.ofNum t.up) c

/-- The word at PC, for the record of an exception. -/
def Core.insn (c : Core) : Word := c.fetch.2.getD 0

/-- A release at a member: it ends the wait of a core that waits for it, or what a halted context would wait for
(R134, R287). -/
def State.barFree (s : State) (k : SiteId) (b : BitVec 14) (sense : Bool) : State :=
  let c := s.core k
  let c' := (List.range 8).foldl (fun (c : Core) i =>
    let x := c.ctxAt i
    if x.bwait && x.bar == b && x.sense == sense then c.setCtx i { x with bwait := false } else c) c
  let s := s.setCore k c'.progress
  if c.seqr.run && c.seqr.wait == .barrier b sense true then s.retire k c.insn 1 else s

/-- A barrier release at a router (R287). -/
def barReleaseAt (k : SiteId) (port : Port) (c : CPacket) (s : State) : State :=
  match s.treeAt c.epoch k (c.arg.toNat % 2 ^ 14) with
  | none => s.dropAt k
  | some t =>
    let s := s.forwardC k port t c
    if t.out.getLsbD 4 then s.barFree k (BitVec.ofNat 14 c.arg.toNat) (c.arg.getLsbD 15) else s

/-- Slots of a group returned to its lead, the core at the root (R104, R206, R207). -/
def Core.mcCredit (c : Core) (g n : Nat) : Core :=
  (List.range 2).foldl (fun (c : Core) a =>
    let x := c.acc_ a
    if Tbl.get 0 x.mcSent g = 0 then c
    else c.setAcc a { x with mcFreed := Tbl.set 0 x.mcFreed g (Tbl.get 0 x.mcFreed g + n) }) c

/-- A release token at a tree router (R206). -/
def mcReleaseAt (k : SiteId) (c : CPacket) (port : Port) (s : State) : State :=
  let g := c.dx.toNat + ((c.dy.toNat % 16) <<< 10)
  match s.treeAt c.epoch k g with
  | none => s.dropAt k
  | some t =>
    let r := s.router k
    let slot : Nat := match port with
      | .link d => Dir.num d
      | .loc => 4
    let kept := Tbl.set 0 r.rel (8 * g + slot) c.arg
    let base : BitVec 16 := Tbl.get 0 r.relSent g
    let ports := (List.range 5).filter fun p => t.out.getLsbD p
    let least := ports.foldl (fun (m : Nat) p => min m (Tbl.get 0 kept (8 * g + p) - base).toNat) 65535
    let n := if ports = [] then 0 else least
    let pos := base + BitVec.ofNat 16 n
    let s := s.setRouter k { r with rel := kept, relSent := if n = 0 then r.relSent else Tbl.set 0 r.relSent g pos }
    if n = 0 then s
    else if t.up = 7 then (s.modCore k fun c => c.mcCredit g n).pump k
    else s.crossC k port (Dir.ofNum t.up) (mkC 5 0 c.epoch c.dx.toNat c.dy.toNat pos.toNat 0)

/-- A C packet that a router takes up: one that fails its check is dropped and counted (R177). -/
def State.cIn (s : State) (k : SiteId) (c : CPacket) (type : Nat) (go : State → State) : State :=
  if c.type.toNat ≠ type then s
  else
    let s := s.land k (.inr c)
    if cGood c then go s else s.dropAt k

/-- A halted core: nothing runs (R134, R236). -/
def Core.halted (c : Core) : Bool :=
  !c.seqr.run && c.enginesIdle && (List.range 2).all fun a => (c.acc_ a).cur.isNone

/-- The sequencer stopped by a halt at an instruction boundary (R134). -/
def Core.stopSeq (c : Core) : Core :=
  if !c.seqr.run then c
  else
    let stop (c : Core) : Core := { c with seqr := { c.seqr with run := false, wait := .none } }
    match c.seqr.wait with
    | .barrier b sense true =>
      match loopNext c.cur.pc.toNat c.cur.ldepth.toNat c.cur with
      | some x => stop (c.mapCur fun _ => { x with bwait := true, bar := b, sense := sense })
      | none => stop (c.mapCur fun x => { x with bwait := true, bar := b, sense := sense })
    | _ => stop c

/-- A region whose stop is under way is STOPPED once every core has halted (R236). -/
def State.stopCheck (s : State) (id : Nat) : State :=
  let r := s.region id
  match r.stopReq with
  | none => s
  | some q =>
    if r.live then
      if (s.regionCores id).all fun e => (s.core e.2).halted then
        (((s.leaveRunning id 5).setRegion id { (s.leaveRunning id 5).region id with stopReq := none })).complete q stOK
      else s
    else (s.setRegion id { r with stopReq := none }).complete q stOK

/-- A halt at a core: of a region that is being scanned out only the sequencer stops (R134, R236, R238). -/
def State.haltCore (s : State) (k : SiteId) : State :=
  let c := s.core k
  let id := c.rgnId
  if (s.region id).scanReq.isSome then
    match c.seqr.wait with
    | .commit _ => s.setCore k { c with quiesce := true }
    | _ => s.setCore k { c.stopSeq with quiesce := true }
  else
    let s := s.setCore k c.stopEngines
    let s := match c.seqr.run, c.seqr.wait with
      | true, .commit off => s.ssbCommit k c.insn off
      | _, _ => s
    (s.modCore k Core.stopSeq).stopCheck id

/-- HALT_BROADCAST: a halt for another region or generation passes by (R177, R236). -/
def haltIn (k : SiteId) (c : CPacket) (s : State) : State :=
  s.cIn k c 4 fun s =>
    let id := (s.core k).rgnId
    if id = c.arg.toNat ∧ (s.region id).gen = c.gen then s.haltCore k else s

/-- A Jendex packet that has reached an attachment of its lantern: it leaves by a lantern that is UP; else a
request is answered HOLE and a response dropped (R361). -/
def State.egress (s : State) (k : SiteId) (l : Nat) (hops : BitVec 4) (p : Packet) : State :=
  let st := (s.lantern l).st
  if st = 3 ∨ (st = 4 ∧ isResponse p.type) then s.lntSend l (.packet hops p)
  else if isResponse p.type || p.type == tMC_WR then s.dropAt k
  else (s.modCore k fun c => c.bump 0x10052C 1).routerRefuse k p rHOLE

/-- A packet at a router (R188-R190, R205, R361). -/
def arriveP (x : Flight) (p : Packet) (s : State) : State :=
  let k := x.site
  if faEngine p.dest ≠ s.ownId ∧ p.dsite = k then
    match s.fwdLantern p.epoch p.dest p.srcEpid.toNat with
    | some l => s.egress k l x.hops p
    | none => if isResponse p.type || p.type == tMC_WR then s.dropAt k else s.routerRefuse k p rUNREACH
  else if p.type = tMC_WR then mcArrive k x.from_ x.hops p s
  else s.routeP k x.from_ x.hops p

/-- FENCE_DONE at a router of the fence's tree: sent on toward the root once every child and the local source have
sent their own; at the root the version is switched and FLIP sent (R194). -/
def fenceDoneAt (k : SiteId) (c : CPacket) (port : Port) (s : State) : State :=
  if !(wbit s.epochReg 2) then s
  else
    let t := s.fenceTree c.epoch k
    let r := s.router k
    let d := r.fdone ||| Port.bit port
    let s := s.setRouter k { r with fdone := d }
    if (t.out &&& ~~~d) ≠ 0 then s
    else if t.up = 7 then
      match s.fab.flip with
      | some f => s.switchVersion.sendFlip.afterFlip f
      | none => s
    else s.crossC k .loc (Dir.ofNum t.up) c

/-- A C packet at a router (R177, R188, R194, R205, R206, R236, R287). -/
def arriveC (x : Flight) (c : CPacket) (s : State) : State :=
  let k := x.site
  match c.type.toNat with
  | 1 =>
    match s.hop k c.epoch .c c.lane x.from_ c.dx.toNat c.dy.toNat with
    | .eject => s.ejectC k c
    | .go d up => s.crossC k x.from_ d { c with lane := c.lane || up }
    | .refuse _ => s.dropAt k
  | 2 => if cGood c then barArriveAt k c x.from_ s else s.dropAt k
  | 3 => if cGood c then barReleaseAt k x.from_ c s else s.dropAt k
  | 5 => if cGood c then mcReleaseAt k c x.from_ s else s.dropAt k
  | 4 => s.broadcast k x.from_ c
  | 6 => s.broadcast k x.from_ c
  | 7 => s.broadcast k x.from_ c
  | 8 => if cGood c then fenceDoneAt k c x.from_ s else s.dropAt k
  | _ => s.dropAt k

/-- The flights without one. -/
def State.takeFlight (s : State) (n : Nat) : State :=
  { s with fab := { s.fab with flights := s.fab.flights.eraseIdx n } }

/-- ROUTER_PACKET_ARRIVE: the `n`-th of the packets in the fabric at the router it has reached (R188). -/
def routerArrive (n : Nat) (s : State) : State :=
  match s.fab.flights[n]? with
  | none => s
  | some x =>
    if x.ejected then s
    else match x.body, x.hold with
      | .inl p, _ => arriveP x p (s.takeFlight n)
      | .inr c, some d => if s.linkUp x.site d then (s.takeFlight n).crossC x.site x.from_ d c else s
      | .inr c, none => arriveC x c (s.takeFlight n)

/-- A link marked down in both directions (R173). -/
def State.markDown (s : State) (k : SiteId) (d : Dir) : State :=
  let put (s : State) (k : SiteId) (d : Dir) : State :=
    let r := s.router k
    s.setRouter k { r with down := r.down ||| ((1 : BitVec 4) <<< Dir.num d) }
  let s := put s k d
  match neighbour k d with
  | some n => put s n (Dir.back d)
  | none => s

/-- The number of the plane a flight travels on. -/
def Flight.plane (x : Flight) : Nat :=
  match x.body with
  | .inl p => Plane.num p.plane
  | .inr _ => 2

/-- LINK_UE: an uncorrectable flit of the `n`-th packet in the fabric, which has come over a link (R173). -/
def linkUe (n : Nat) (s : State) : State :=
  match s.fab.flights[n]? with
  | none => s
  | some x =>
    match x.from_, x.ejected with
    | .link d, false =>
      let k := x.site
      let s := (s.takeFlight n).modCore k fun c => c.bump 0x100534 1
      (((s.markDown k d).epochBit 4 true).logRec 8 [siteCode k, Dir.num d, x.plane]).noteRisk 0 0 1
    | _, _ => s

/-- LINK_RETRAIN_DONE: a link in service again waits for a version that uses it; one that is not stays down
(R173). -/
def linkRetrained (k : SiteId) (d : Dir) (ok : Bool) (s : State) : State :=
  let l := linkName k d
  if !(s.downLinks.contains l) || s.fab.lost.contains l then s
  else if ok then { s with fab := { s.fab with retrained := (s.fab.retrained ++ [l]).eraseDups } }
  else { s with fab := { s.fab with lost := s.fab.lost ++ [l] } }.logRec 8 [siteCode k, Dir.num d, 0]

/-- STALL_DETECT: a core's count reaches its limit and its region faults (R195, R196, R210). -/
def stallDetect (k : SiteId) (s : State) : State :=
  let c := s.core k
  let w := c.reg 0x100504
  let id := c.rgnId
  let held := c.net.heldDest != [] || c.net.rtx.any fun r => r.held
  if id ≠ 0 ∧ (s.region id).live ∧ wbit w 31 ∧ !c.isDone ∧ !(s.fenced k) ∧ !held ∧ !c.net.fenced then
    (s.setCore k { c with net := { c.net with stall := 2 ^ max 10 (wfld w 0 5) } }).regionFault k 5 0
  else s

/-- ROUTER_PACKET_ARRIVE (R188). -/
def execRouterPacketArrive (n : Nat) (s : State) : Res := .next (routerArrive n s)

/-- LINK_UE (R173). -/
def execLinkUe (n : Nat) (s : State) : Res := .next (linkUe n s)

/-- BAR_ARRIVE (R287). -/
def execBarArrive (k : SiteId) (c : CPacket) (port : Port) (s : State) : Res :=
  .next (s.cIn k c 2 (barArriveAt k c port))

/-- BAR_RELEASE (R287). -/
def execBarRelease (k : SiteId) (c : CPacket) (s : State) : Res := .next (s.cIn k c 3 (barReleaseAt k .loc c))

/-- HALT_BROADCAST (R236). -/
def execHaltBroadcast (k : SiteId) (c : CPacket) (s : State) : Res := .next (haltIn k c s)

/-- MC_RELEASE (R206). -/
def execMcRelease (k : SiteId) (c : CPacket) (port : Port) (s : State) : Res :=
  .next (s.cIn k c 5 (mcReleaseAt k c port))

/-- FENCE_DONE (R194). -/
def execFenceDone (k : SiteId) (c : CPacket) (port : Port) (s : State) : Res :=
  .next (s.cIn k c 8 (fenceDoneAt k c port))

/-- LINK_RETRAIN_DONE (R173). -/
def execLinkRetrainDone (k : SiteId) (d : Dir) (ok : Bool) (s : State) : Res := .next (linkRetrained k d ok s)

/-- STALL_DETECT (R210). -/
def execStallDetect (k : SiteId) (s : State) : Res := .next (stallDetect k s)

end Sys2Proof.Machine
end

