-- ==== Sys2Proof/Machine/HostOps.lean ====
section
/-!
DEFINITION. How a command takes up a descriptor that has started, and whether a BAR0 access reaches its block (R320,
R321, R327, R330).
-/

namespace Sys2Proof.Machine

/-- The `j`-th started descriptor of a ring taken up by the command of its opcode; one already in progress is
not. -/
def State.hostOp (s : State) (r : Fin 256) (j opc : Nat) (go : Nat × Nat → Desc → State → State) : State :=
  match s.startedAt r j with
  | some d => if d.f 0 1 = opc ∧ !d.busy then go (r.val, d.uid) d s else s
  | none => s

/-- ENG_STATUS.READY (R343). -/
def State.ready (s : State) : Bool := wbit (s.bar 0x100) 0

/-- A bit of GATE_EN (R344). -/
def State.gate (s : State) (i : Nat) : Bool := wbit (s.bar 0x10004) i

/-- The GATE_EN bit of the block a BAR0 offset lies in; none for a block that is always enabled (R321). -/
def gateBit (off : Nat) : Option Nat :=
  if off < 0x20000 then none
  else if off < 0x30000 then some 0
  else if off < 0x100000 then none
  else if off < 0x110000 then some 1
  else if off < 0x200000 then some 2
  else if off < 0x300000 then some 3
  else if off < 0x400000 then some 4
  else if off < 0x500000 then some 5
  else if off < 0x600000 then some 6
  else none

/-- Whether a BAR0 offset lies in a gated block (R320). -/
def State.gated (s : State) (off : Nat) : Bool :=
  match gateBit off with
  | some i => !(s.gate i)
  | none => false

/-- A write to a gated block is dropped, flagged, and the first one's offset recorded (R320, R343). -/
def State.gatedWrite (s : State) (off : Nat) : State :=
  let s := s.setBar 0x10C (setBit (s.bar 0x10C) 0 true)
  if wbit (s.bar 0x110) 31 then s else s.setBar 0x110 (BitVec.ofNat 32 (2 ^ 31 + off % 2 ^ 26))

/-- A BAR0 write that acts only where its block is enabled. -/
def State.barAccess (s : State) (off : Nat) (go : State → State) : State :=
  if s.gated off then s.gatedWrite off else go s

/-- A request that names a gated block completes GATED (R330). -/
def State.gateOp (s : State) (bit : Nat) (req : Nat × Nat) (go : State → State) : State :=
  if s.gate bit then go s else s.complete req stGATED

/-- An IDLE dome woken: counted in CLK_WAKES (R392, R405). -/
def State.wakeDome (s : State) (d : Nat) : State :=
  if s.domeState d = 1 then (s.setDome d 2).bumpBar (clkBase + 0x24) (clkBase + 0x28) 0 1 else s

/-- A host command that names cores of some domes waits until they run, and wakes those that are IDLE (R392). -/
def State.wakeFor (s : State) (ds : List Nat) (go : State → State) : State :=
  if ds.all fun d => s.domeState d == 0 then go s else ds.foldl (fun (s : State) d => s.wakeDome d) s

end Sys2Proof.Machine
end

