-- ==== Sys2Proof/Machine/Epoch.lean ====
section
/-!
DEFINITION. The table versions: copying, checking, flips with their fences, and what the cupola stages after a loss
(R173, R190-R197, R211, R288).
-/

namespace Sys2Proof.Machine

/-- EPOCH_FENCE at a source: it stops injecting and reports once it has settled (R194). -/
def fenceIn (k : SiteId) (c : CPacket) (s : State) : State :=
  s.cIn k c 6 fun s =>
    if !(wbit s.epochReg 2) then s
    else (s.modCore k fun c => { c with net := { c.net with fenced := true, stall := 0 } }).fenceCheck k

/-- What a source sends again at a flip: of every flow with a held packet, that packet and all unanswered later
ones, in their order (R194, R196). -/
def State.heldFlows (s : State) (k : SiteId) : List Again :=
  let c := s.core k
  let all : List (Nat × Packet × Bool) := (c.net.rtx.map fun r => (r.ord, r.pkt, r.held))
    ++ (List.range 2).flatMap fun a => (c.acc_ a).outs.map fun o => (o.ord, o.pkt, o.held)
  let held := all.filter fun x => x.2.2
  let again := all.filter fun x => held.any fun h => decide (h.1 ≤ x.1)
    && s.inFlow (s.destKey h.2.1.dest) h.2.1.plane x.2.1
  (again.map fun x => (x.1, x.2.1)).mergeSort fun a b => decide (a.1 ≤ b.1)

/-- A core that waits at a barrier whose tree the flip has rebuilt arrives again (R288). -/
def State.arriveAgain (s : State) (k : SiteId) : State :=
  let c := s.core k
  match c.seqr.run, c.seqr.wait with
  | true, .barrier b sense true =>
    if s.fab.rebuilt.contains b.toNat then s.sendArrival k b.toNat sense else s
  | _, _ => s

/-- FLIP at a source: it injects in the new version, what it held first (R194, R196). -/
def flipIn (k : SiteId) (c : CPacket) (s : State) : State :=
  s.cIn k c 7 fun s =>
    let again := s.heldFlows k
    let s := s.modCore k fun x =>
      { x with net := { x.net with epoch := c.epoch, fenced := false, stopped := false, fdSent := false
                                   heldDest := [], stall := 0 } }
    let s := (s.resendAll k again).arriveAgain k
    let s := (List.range 8).foldl (fun (s : State) m =>
      if (s.core k).cbState m = 2 then s.cmbRun k m else s) s
    s.sendOn k

/-- FAB_COPY: ignored while STAGING, FENCING or SETTLING (R193, R211). -/
def fabCopy (s : State) : State :=
  s.barAccess (fabBase + 0x10) fun s =>
    if s.fab.staging != 0 || s.flipBusy then s else (s.setResult 1).setStaging 1

/-- FAB_CHECK: ignored while STAGING (R193, R211). -/
def fabCheck (s : State) : State :=
  s.barAccess (fabBase + 0x10) fun s => if s.fab.staging != 0 then s else (s.setResult 2).setStaging 2

/-- Flips that wait for the staging hardware go on. -/
def State.flipsOn (s : State) : State := s.nextFlips s.fab.waiting.length

/-- FAB_COPY_DONE (R193). -/
def fabCopyDone (s : State) : State :=
  if s.fab.staging ≠ 1 then s else ((s.copyTables.setResult 0).setStaging 0).flipsOn

/-- FAB_CHECK_DONE: sites whose inactive version disagrees. A check overtaken by a change of the version counts for
nothing; a flip that has run it goes on or completes INTEGRITY (R193, R194). -/
def fabCheckDone (bad : List SiteId) (s : State) : State :=
  if s.fab.staging ≠ 2 then s
  else
    let s := s.setStaging 0
    let s := if s.stageResult = 2 then s.setResult (if bad = [] then 3 else 4) else s
    let s := s.setBar (fabBase + 0x14) (setFld (s.bar (fabBase + 0x14)) 4 20 bad.length)
    let s := s.setBar (fabBase + 0x18) (match bad with
      | k :: _ => BitVec.ofNat 32 (2 ^ 31 + siteX k + (siteY k <<< 10))
      | [] => 0)
    match s.fab.flip with
    | none => s.flipsOn
    | some f =>
      let s := { s with fab := { s.fab with flip := none } }
      if s.stageResult = 3 then s.beginFence f else (s.failFlip f stINTEGRITY).flipsOn

/-- EPOCH_FLIP (R194, R330). -/
def epochFlip (r : Fin 256) (j : Nat) (s : State) : State :=
  s.hostOp r j 0x12 fun req d s =>
    s.gateOp 3 req fun s => (s.setBusy req).askFlip { req := some req, why := .host, check := d.bits 8 0 1 == 1 }

/-- SETTLE_END (R194). -/
def settleEnd (s : State) : State := if wbit s.epochReg 3 then (s.epochBit 3 false).flipsOn else s

/-- Whether a group's tree of a version meets a hole or an avoided link. -/
def State.treeBroken (s : State) (v : Bool) (g : Nat) : Bool :=
  s.routers.any fun x =>
    let k : SiteId := Fin.ofNat 294912 x.1
    match x.2.mcIndex v g with
    | none => false
    | some i =>
      let t : TreeAt := { out := BitVec.ofNat 5 (wfld (x.2.mcAt v i) 15 5), up := wfld (x.2.mcAt v i) 20 3 }
      (s.fab.holesOf v).getLsbD (siteArea k) || t.links.any fun d => s.fab.blocked v k d

/-- A tree to as many of some members as can be reached. -/
def Fab.treeToAll (f : Fab) (v : Bool) (root : SiteId) : Nat → List SiteId → TreeMap
  | 0, _ => []
  | n + 1, ms =>
    match f.buildTree v root ms with
    | .inl t => t
    | .inr i => f.treeToAll v root n (ms.eraseIdx i)

/-- A group's tree built anew around what is lost; a group whose root is lost is taken out (R197). -/
def State.rebuildTree (s : State) (v : Bool) (g : Nat) : State :=
  let e := s.fab.groupRoot v g
  let root := mkSite (wfld e 0 10) (wfld e 10 9)
  if (s.fab.holesOf v).getLsbD (siteArea root) then s.dropGroup v g
  else
    let ms := s.members v g
    (s.putTree v g root (s.fab.treeToAll v root (ms.length + 1) ms)).getD (s.dropGroup v g)

/-- The groups of a version. -/
def State.groupsOf (s : State) (v : Bool) : List Nat :=
  s.fab.group.filterMap fun x => if x.1 / 16384 = verNum v ∧ wbit x.2 31 then some (x.1 % 16384) else none

/-- The site of an attachment of an endpoint entry (R186). -/
def attachSite (e : BitVec 128) (i : Nat) : SiteId :=
  let v := e.toNat
  if fld v 19 1 = 0 then mkSite (fld v 0 10 + i) (fld v 10 9) else mkSite (fld v 0 10) (fld v 10 9 + i)

/-- The USABLE bits of the attachments in some areas set or cleared in a version (R196). -/
def Fab.setUsable (f : Fab) (v : Bool) (areas : BitVec 288) (b : Bool) : Fab :=
  (List.range 66).foldl (fun (f : Fab) i =>
    let e := f.endpoint v i
    let hit := (List.range (fld e.toNat 23 7)).filter fun j => j < 64 && areas.getLsbD (siteArea (attachSite e j))
    let m : BitVec 128 := BitVec.ofNat 128 (hit.map fun j => 2 ^ (64 + j)).sum
    if m = 0 then f else f.setEndpoint v i (if b then e ||| m else e &&& ~~~m)) f

/-- The version the cupola stages after a loss or a return: the active one copied, led around the areas that are
off and the links that stay down, its trees built anew and its attachments in restored areas usable (R173, R196,
R197). -/
def State.stageDetours (s : State) : State :=
  let back := s.fab.holesOf s.curVer &&& ~~~s.offAreas
  let s := s.copyTables
  let v := !s.curVer
  let avoid := s.downLinks.filter fun l => !s.fab.retrained.contains l
  let s := { s with fab := ({ s.fab with
    holes := Tbl.set 0 s.fab.holes (verNum v) s.offAreas
    avoid := Tbl.set [] s.fab.avoid (verNum v) avoid } : Fab).setUsable v back true }
  (s.groupsOf v).foldl (fun (s : State) g => if s.treeBroken v g then s.rebuildTree v g else s) s

/-- CUPOLA_RESTAGE: `check` is what the cupola's own CHECK of its version finds (R173, R194, R197). -/
def cupolaRestage (check : Bool) (s : State) : State :=
  let due := wbit s.epochReg 4 || s.fab.retrained != [] || s.fab.holesOf s.curVer != s.offAreas
  if !due || s.flipBusy || s.fab.staging != 0 then s
  else
    let s := s.stageDetours
    if check then (s.setResult 3).beginFence { req := none, why := .cupola, check := true } else s.setResult 4

/-- EPOCH_FENCE (R194). -/
def execEpochFence (k : SiteId) (c : CPacket) (s : State) : Res := .next (fenceIn k c s)

/-- FLIP (R194). -/
def execFlip (k : SiteId) (c : CPacket) (s : State) : Res := .next (flipIn k c s)

/-- FAB_COPY (R193). -/
def execFabCopy (s : State) : Res := .next (fabCopy s)

/-- FAB_CHECK (R193). -/
def execFabCheck (s : State) : Res := .next (fabCheck s)

/-- FAB_COPY_DONE (R193). -/
def execFabCopyDone (s : State) : Res := .next (fabCopyDone s)

/-- FAB_CHECK_DONE (R193). -/
def execFabCheckDone (bad : List SiteId) (s : State) : Res := .next (fabCheckDone bad s)

/-- EPOCH_FLIP (R194). -/
def execEpochFlip (r : Fin 256) (j : Nat) (s : State) : Res := .next (epochFlip r j s)

/-- SETTLE_END (R194). -/
def execSettleEnd (s : State) : Res := .next (settleEnd s)

/-- CUPOLA_RESTAGE (R197). -/
def execCupolaRestage (check : Bool) (s : State) : Res := .next (cupolaRestage check s)

end Sys2Proof.Machine
end

