-- ==== Sys2Proof/Machine/ResetOps.lean ====
section
/-!
DEFINITION. What ends a test and resets a core: borrowed areas released, march tests finished, the reset of a core's
compute state, a region's tables released, a region stopped for a reset or a reload (R74, R107, R108, R137, R163, R166,
R169, R203, R240, R247, R295, R410, R416, R417, R442).
-/

namespace Sys2Proof.Machine

/-- A borrowed area released: its banks are filled with zero codewords (R410). -/
def State.releaseArea (s : State) (a : Nat) : State :=
  let zero (c : Core) : Core := (List.range 4).foldl (fun (c : Core) b => c.zeroBank b) c
  (s.mapCores fun k c => if siteArea (Fin.ofNat 294912 k) = a then zero c else c).setArea a
    { s.area a with borrowed := false }

/-- RESULT of a cross-check (R414). -/
def Xchk.result (x : Xchk) : BitVec 128 :=
  let first := match x.charged with
    | k :: _ => siteCode (Fin.ofNat 294912 k)
    | [] => 0
  BitVec.ofNat 128 (x.charged.length % 65536 + ((x.thirds % 65536) <<< 16) + ((x.arbs % 65536) <<< 32) + (first <<< 64))

/-- A cross-check over: a host test completes with a status, with TEST_DONE (R414). -/
def State.closeXchk (s : State) (x : Xchk) (status : Nat) : State :=
  match x.req with
  | some q => (s.testDone q status).complete q status 0 x.result
  | none => s

/-- The cross-check that runs in an area ends with a status: its area is released (R410, R416). One that waits for the
cupola's software has released its area and is none of these. -/
def State.endXchk (s : State) (a status : Nat) : State :=
  match s.rel.xchk.find? fun x => x.area == a && x.passes != 0 with
  | none => s
  | some x =>
    let s := ({ s with rel := { s.rel with xchk := s.rel.xchk.filter fun y => y.area != a || y.passes == 0 } } : State)
    (s.releaseArea a).closeXchk x status

/-- The cross-checks of some areas aborted (R416). -/
def State.abortXchk (s : State) (areas : List Nat) : State :=
  areas.foldl (fun (s : State) a => s.endXchk a stPARTIAL) s

/-- The running march test of a site finishes: its failing rows enter the row record and a host test completes
(R166, R417). -/
def marchDone (k : SiteId) (bad : List (Nat × Nat)) (s : State) : State :=
  let c := s.core k
  match c.march with
  | none => s
  | some m =>
    let own := if m.preserving then (badRows c.sram m.bank).map fun r => (r, 0) else []
    let rows := ((own ++ bad).filter fun r => r.1 < 1032).map (·.1)
    let s := s.putCore k (c.marchEnd bad)
    let s := rows.foldl (fun (s : State) r => s.addRow k m.bank r) s
    match m.req with
    | none => s
    | some q =>
      let st := (s.core k).reg 0x1004A4
      if wfld st 28 3 = 2 then (s.testDone q stOK).complete q stOK
      else (s.testDone q stINTEGRITY).complete q stINTEGRITY 0 (BitVec.ofNat 128 st.toNat)

/-- The control-block registers a COMPUTE or REGION reset returns to their reset values: SEQ_FAULT, the NUM
registers of R74, the CE block, RGN_STATUS, RGN_FAULT, RGN_DONE_AT, RGN_SLIP_SRC, the checker (R74, R107, R108, R137,
R247). -/
def resetReg (off : Nat) : Bool :=
  inWords off 0x10000C 3 || inWords off 0x100204 4 || inWords off 0x100300 14 || inWords off 0x100608 2
    || inWords off 0x100628 2 || off == 0x100638 || inWords off 0x100B00 6

/-- The W64 counters such a reset clears: SEQ_RUN, SEQ_WAIT, TU_BUSY, A_WAIT, RGN_SLIP, RGN_CTX_CYC. -/
def resetW64 (off : Nat) : Bool :=
  inWords off 0x100020 4 || inWords off 0x100320 4 || inWords off 0x100630 2 || inWords off 0x100740 16

/-- The sequencer after a COMPUTE or REGION reset: VEC, EN, GEN and the instruction store stay (R137). -/
def Seqr.reset (q : Seqr) : Seqr :=
  { q with
    ctxs := (List.range 8).foldl (fun (t : Tbl Ctx) i =>
      let x := Tbl.get Ctx.reset q.ctxs i
      Tbl.set Ctx.reset t i { Ctx.reset with vec := x.vec, en := x.en, gen := x.gen }) []
    cur := 0, run := false, done := false, fault := false, wait := .none, flags := 0, flagsOld := 0, flagsSeen := 0, avail := [] }

/-- The channel descriptors CLOSED, the combiner descriptors DISARMED with FAILED and ARRIVED clear (R285, R295). -/
def Core.resetSync (c : Core) : Core :=
  let c := c.closeChans fun _ => true
  let c := (List.range 8).foldl (fun (c : Core) m =>
    (((((c.setCmb (64 * m) (setFld (c.cmbW (64 * m)) 0 2 0)).setCmb (64 * m + 0x10) 0).setCmb (64 * m + 0x14) 0).setCmb
      (64 * m + 0x18) 0).setCmb (64 * m + 0x1C) 0)) c
  { c with cmbRound := [], sense := [] }

/-- A core after a COMPUTE or REGION reset; banks with RETAIN stay as they are (R74, R107, R108, R137, R163, R169,
R203, R247, R295). -/
def Core.regionReset (c : Core) : Core :=
  let c := c.marchAbort
  let c := (List.range 4).foldl (fun (c : Core) b => if wbit (c.bankCtl b) 4 then c else c.zeroBank b) c
  let c := c.resetSync
  { c with
    seqr := c.seqr.reset
    regs := c.regs.filter fun x => !(resetReg x.1)
    w64 := c.w64.filter fun x => !(resetW64 x.1)
    eng := [], acc := [], active := none, shadow := none, loading := none, accEng := []
    checker := { lfsr := 1, misr := 0, late := [] }
    tokq := [], swPos := 0, schPos := [], launch := false, drainArm := false
    net := { c.net with rtx := [], heldDest := [] }
    quiesce := false }

/-- A site's core reset (R442). -/
def State.resetCore (s : State) (k : SiteId) : State := (s.marchStop k).modCore k Core.regionReset

/-- The tables a region's load built are released: its groups and its exception entries (R442). -/
def State.releaseTables (s : State) (id : Nat) : State :=
  let r := s.region id
  let s := r.groups.foldl (fun (s : State) g => (s.dropGroup false g).dropGroup true g) s
  let s := r.routes.foldl (fun (s : State) x =>
    let y := s.router x.1
    s.setRouter x.1 { y with exc := Tbl.set 0 (Tbl.set 0 y.exc x.2.1 0) (128 + x.2.1) 0 }) s
  s.setRegion id { r with groups := [], routes := [] }

/-- Every request that waits for a region completes: REGION_START PARTIAL, the others with a status (R236, R442). -/
def State.endRequests (s : State) (id st : Nat) : State :=
  let r := s.region id
  let s := s.setRegion id { r with startReq := none, drainReq := none, stopReq := none, scanReq := none, reload := none }
  let s := s.completeOpt r.startReq stPARTIAL (BitVec.ofNat 128 s.clk.gcc.toNat)
  let s := s.completeOpt r.drainReq st
  let s := s.completeOpt r.stopReq st
  let s := s.completeOpt (r.scanReq.map fun q => (q.1, q.2.1)) st
  s.completeOpt (r.reload.map fun q => (q.1, q.2.1)) st

/-- A region halted at once and for good, as a reset or a forced reload does it (R236, R240, R242, R442). -/
def State.killRegion (s : State) (id : Nat) : State :=
  let r := s.region id
  let s := (s.regionCores id).foldl (fun (s : State) e => s.modCore e.2 fun c => c.stopEngines.stopSeq) s
  if r.live then s.leaveRunning id 5 else s

/-- A region reset: its cores are reset, its tables released, and it is EMPTY (R442). -/
def State.resetRegion (s : State) (id : Nat) : State :=
  let cores := s.regionCores id
  let s := (s.endRequests id stNOTREADY).killRegion id
  let s := (cores.foldl (fun (s : State) e => s.resetCore e.2) s).releaseTables id
  s.setRegion id Region.reset

/-- MARCH_DONE (R166). -/
def execMarchDone (k : SiteId) (bad : List (Nat × Nat)) (s : State) : Res := .next (marchDone k bad s)

end Sys2Proof.Machine
end

