-- ==== Sys2Proof/Machine/Image.lean ====
section
/-!
DEFINITION. Program images: their layout, what makes one invalid, and whose key signed it (R216-R220, R221, R226, R228,
R232, R334, R451).
-/

namespace Sys2Proof.Machine

/-- A section of an image with its data (R217). -/
structure Sect where
  idx    : Nat
  type   : Nat
  retOk  : Bool
  rgn    : Nat
  first  : Nat
  last   : Nat
  dest   : Nat
  data   : List Byte
  deriving DecidableEq, Repr

/-- A group record (R334). -/
structure GroupRec where
  group   : Nat
  root    : Nat
  members : List Nat
  rsv     : Bool
  deriving DecidableEq, Repr

/-- A parsed image: its sections, and its regions with the index of their REGION section; its signed message and
KEY_ID (R454). -/
structure Image where
  build   : DWord
  mark    : BitVec 256 × BitVec 256
  sects   : List Sect
  regions : List (Nat × Region)
  deriving DecidableEq, Repr

/-- The index DETAIL gives for the header (R332). -/
def noSect : Nat := 0xFFFFFF

/-- The words of a byte string. -/
def words (n : Nat) (b : List Byte) : List Nat :=
  (List.range (b.length / n)).map fun i => leAt b (n * i) n

/-- Whether all bits of a number outside a mask are 0. -/
def maskOk (v mask : Nat) : Bool := v &&& mask == v

/-- The header and the signature block's fixed fields stand as R216 and R218 ask. -/
def headerOk (b : List Byte) : Bool :=
  let w (o : Nat) : Nat := leAt b o 4
  let n := leAt b 0x10 2
  let sig := w 0x1C
  decide (64 ≤ b.length) && w 0 == 0x4D495456 && leAt b 6 2 == 0 && leAt b 0xB 1 == 0 && decide (1 ≤ n)
    && decide (1 ≤ leAt b 0x12 2) && decide (leAt b 0x12 2 ≤ 4096) && w 0x14 == 0x40 && w 0x18 == 0x40 + 32 * n
    && sig == w 0x18 + 32 * n && leAt b 0x20 8 == b.length && leAt b 0x30 16 == 0 && decide (sig + 3808 ≤ b.length)
    && w sig == 1 && leAt b (sig + 4) 28 == 0 && leAt b (sig + 0xED4) 12 == 0

/-- The header of section `i` as a section; none where it breaks R217. -/
def sectAt (b : List Byte) (i : Nat) : Option Sect :=
  let h := slice b (0x40 + 32 * i) 32
  let type := leAt h 0 1
  let sig := leAt b 0x1C 4
  let first := leAt h 4 4
  let last := leAt h 8 4
  let dest := leAt h 0xC 4
  let off := leAt h 0x10 8
  let n := leAt h 0x18 4
  let fits (lo hi al : Nat) : Bool := decide (lo ≤ dest) && decide (dest + n ≤ hi) && dest % al == 0 && n % al == 0
  let untargeted := type == 1 || (decide (6 ≤ type) && decide (type ≤ 8))
  let ok := decide (1 ≤ type) && decide (type ≤ 8) && decide (leAt h 1 1 ≤ (if type = 4 then 1 else 0))
    && leAt h 0x1C 4 == 0 && off % 32 == 0 && decide (sig + 3808 ≤ off) && decide (off + n ≤ b.length)
    && decide (first < 2 ^ 19) && decide (last < 2 ^ 19) && decide (leAt h 2 2 < leAt b 0x12 2)
    && (if untargeted then first == 0 && last == 0 && dest == 0 else decide (first ≤ last))
    && (match type with
        | 3 => fits 0x104000 0x108000 4
        | 4 => fits 0 0x40000 1
        | 5 => fits 0x102000 0x104000 8
        | _ => true)
  if ok then
    some { idx := i, type := type, retOk := leAt h 1 1 == 1, rgn := leAt h 2 2, first := first, last := last
           dest := dest, data := slice b off n }
  else none

/-- A region descriptor (R219); none where it is invalid. -/
def regionDesc (b : List Byte) (build : DWord) : Option Region :=
  let w (o : Nat) : Nat := leAt b o 4
  let sched := (w 0).testBit 16
  let n := leAt b 0x10 2
  let xlo := fld (w 8) 0 10
  let xhi := fld (w 8) 10 10
  let ylo := fld (w 8) 20 9
  let yhi := w 0xC
  let planes := fld (w 0) 19 2
  let ranges := (List.range n).map fun i => (w (0x40 + 8 * i), w (0x44 + 8 * i))
  let ok := decide (64 ≤ b.length) && b.length == 64 + 8 * n && maskOk (w 0) 0x1FFFFF && fld (w 0) 0 16 != 0
    && maskOk (w 4) 0xF3FFF && maskOk (w 8) 0x1FFFFFFF && decide (yhi < 512) && leAt b 0x12 14 == 0
    && (if sched then n == 0 && planes != 0 && decide (xlo ≤ xhi) && decide (xhi < 768) && decide (ylo ≤ yhi) && decide (yhi < 384)
        else decide (1 ≤ n) && decide (n ≤ 256) && planes == 0 && !((w 0).testBit 17) && w 8 == 0 && w 0xC == 0
          && leAt b 0x20 32 == 0)
    && ranges.all fun r => decide (r.1 ≤ r.2) && decide (r.2 < coreCount)
  if ok then
    some { Region.reset with
      conf := true, sched := sched, sealBit := (w 0).testBit 17, slipFault := (w 0).testBit 18
      planes := BitVec.ofNat 2 planes, haltGroup := BitVec.ofNat 14 (w 4), drainFlag := BitVec.ofNat 4 (fld (w 4) 16 4)
      xlo := xlo, xhi := xhi, ylo := ylo, yhi := yhi, ranges := ranges
      placement := BitVec.ofNat 256 (leAt b 0x20 32), build := build }
  else none

/-- The ID a region descriptor gives. -/
def regionDescId (b : List Byte) : Nat := leAt b 0 2

/-- The bits a configuration record may write in a register; none where it may not name it (R220). -/
def cfgMask (off : Nat) : Option Nat :=
  if inWords off 0x100100 64 then
    if off % 0x20 = 0 then some 0x71FFF else if off % 0x20 = 4 then some 0x000F0FFF else none
  else if inWords off 0x100800 128 then some 0xFFFFFFFF
  else if inWords off 0x100A00 64 then some (if off % 8 = 0 then 0x0FFF0FFF else 0xFFFFFFFF)
  else if inWords off 0x100410 4 then some 0x00030033
  else if inWords off 0x100440 16 then some 0xC7FF0FFF
  else if inWords off 0x100680 16 then some 0xFF03FFFC
  else if inWords off 0x100208 3 then some 0xFFFFFFFF
  else match off with
    | 0x100004 => some 0x7
    | 0x100204 => some 0x1
    | 0x100308 => some 0xF0F
    | 0x100498 => some 0x8000FFFF
    | 0x100504 => some 0x8000001F
    | 0x10063C => some 0x000FFFF3
    | 0x100640 => some 0xBFFFFFFF
    | 0x100644 => some 0x0000F1FF
    | _ => none

/-- A configuration record names a field it may write; a routed region chains no tensor units (R220, R228). -/
def cfgOk (sched : Bool) (off v : Nat) : Bool :=
  off % 4 == 0 && (match cfgMask off with
    | some m => maskOk v m
    | none => false) && (sched || off != 0x100644 || !v.testBit 8)

/-- An exception entry carries no reserved bit or value (R189). -/
def excOk (e : Nat) : Bool := e < 2 ^ 48 && fld e 38 3 < 6 && fld e 42 2 != 3

/-- A switch word selects an input that exists for every output (R226). -/
def switchOk (w : Nat) : Bool := fld w 30 18 == 0 && (List.range 10).all fun i => fld w (3 * i) 3 < 6

/-- A group record at the start of some bytes, with its length (R334). -/
def groupRec (b : List Byte) : Option (GroupRec × Nat) :=
  let n := fld (leAt b 8 4) 0 20
  if b.length < 16 ∨ n = 0 ∨ coreCount < n ∨ b.length < 16 + 4 * n then none
  else
    let ms := words 4 (slice b 16 (4 * n))
    let rsv := leAt b 0 4 >>> 14 != 0 || leAt b 4 4 >>> 19 != 0 || leAt b 8 4 >>> 20 != 0 || leAt b 12 4 != 0
      || ms.any fun m => m >>> 19 != 0
    some ({ group := fld (leAt b 0 4) 0 14, root := fld (leAt b 4 4) 0 19, members := ms, rsv := rsv }, 16 + 4 * n)

/-- The group records of a MCAST section; none where one is cut short. -/
def groupRecs : Nat → List Byte → Option (List GroupRec)
  | 0, _ => none
  | n + 1, b =>
    if b = [] then some []
    else match groupRec b with
      | none => none
      | some (g, m) => (groupRecs n (b.drop m)).map fun r => g :: r

/-- A group record names its root among members that are cores and do not repeat (R334). -/
def GroupRec.ok (g : GroupRec) : Bool :=
  g.members.contains g.root && g.members.eraseDups.length == g.members.length && g.members.all fun m => decide (m < coreCount)

/-- The groups of a MCAST section. -/
def Sect.groups (s : Sect) : List GroupRec := if s.type = 7 then (groupRecs (s.data.length + 1) s.data).getD [] else []

/-- The exception entries of a ROUTE section: site, index, entry. -/
def Sect.routes (s : Sect) : List (SiteId × Nat × DWord) :=
  if s.type = 6 then
    (List.range (s.data.length / 16)).map fun i =>
      let w := leAt s.data (16 * i) 4
      (mkSite (fld w 0 10) (fld w 10 9), fld w 19 7, BitVec.ofNat 64 (leAt s.data (16 * i + 8) 8))
  else []

/-- The configuration records of a CORE_CFG section. -/
def Sect.cfgs (s : Sect) : List (Nat × Nat) :=
  if s.type = 2 then (List.range (s.data.length / 8)).map fun i => (leAt s.data (8 * i) 4, leAt s.data (8 * i + 4) 4) else []

/-- The records of a section stand as their rules ask (R189, R220, R226, R232, R334). -/
def Sect.recordsOk (s : Sect) (sched : Bool) : Bool :=
  let b := s.data
  match s.type with
  | 2 => b.length % 8 == 0 && s.cfgs.all fun r => cfgOk sched r.1 r.2
  | 5 => (words 8 b).all switchOk
  | 6 => b.length % 16 == 0 && (List.range (b.length / 16)).all fun i =>
      let w := leAt b (16 * i) 4
      decide (w < 2 ^ 26) && decide (fld w 0 10 < 768) && decide (fld w 10 9 < 384) && leAt b (16 * i + 4) 4 == 0
        && excOk (leAt b (16 * i + 8) 8)
  | 7 => match groupRecs (b.length + 1) b with
    | none => false
    | some gs => gs.all fun g => !g.rsv && g.group != 0x3FFF && g.ok
  | 8 => b.length % 16 == 0 && (List.range (b.length / 16)).all fun i =>
      let w := leAt b (16 * i) 4
      decide (fld w 26 4 < 4) && decide (w < 2 ^ 30)
  | _ => true

/-- An image parsed; on failure the index of the first section that breaks the layout (R216-R220). -/
def parseImage (b : List Byte) : Image ⊕ Nat :=
  if !(headerOk b) then .inr noSect
  else
    let build : DWord := BitVec.ofNat 64 (leAt b 0x28 8)
    let ss := (List.range (leAt b 0x10 2)).map fun i => (i, sectAt b i)
    match ss.find? fun x => x.2.isNone with
    | some x => .inr x.1
    | none =>
      let sects := ss.filterMap (·.2)
      let rs := sects.filter fun x => x.type == 1
      let regions := rs.map fun x => (x, regionDesc x.data build)
      let badRgn := (regions.zip (List.range regions.length)).find? fun x => x.1.2.isNone || x.1.1.rgn != x.2
      match badRgn with
      | some x => .inr x.1.1.idx
      | none =>
        let ids := rs.map fun x => regionDescId x.data
        if rs.length ≠ leAt b 0x12 2 ∨ ids.eraseDups.length ≠ ids.length then .inr noSect
        else
          let schedOf (i : Nat) : Bool := match regions[i]? with
            | some (_, some r) => r.sched
            | _ => false
          match sects.find? fun x => !(x.recordsOk (schedOf x.rgn)) with
          | some x => .inr x.idx
          | none =>
            let off := leAt b 0x1C 4
            let mark := (Config.sha3 (b.take off), BitVec.ofNat 256 (leAt b (off + 0x20) 32))
            .inl { build := build, mark := mark, sects := sects, regions := regions.filterMap fun x => x.2.map fun r => (x.1.idx, r) }

/-- The region IDs of an image, in the order of its regions. -/
def Image.ids (i : Image) : List Nat := (i.sects.filter fun x => x.type == 1).map fun x => regionDescId x.data

/-- Whether a KEY_ID is trusted (R451). -/
def State.trusted (s : State) (key : BitVec 256) : Bool :=
  key == Config.makerKeyId || (List.range 7).any fun i => Tbl.get none s.sec.imgKey (i + 1) == some key

/-- A signature block signs a digest with a key of the KEY_ID it names (R218). -/
def sigOk (sig : List Byte) (digest : BitVec 256) : Bool :=
  let pub := slice sig 0x40 1312
  BitVec.ofNat 256 (leAt sig 0x20 32) == Config.sha3 pub
    && Config.mldsaVerify pub (leBytes 32 digest.toNat) (slice sig 0x560 2420)

/-- Cryptographic services are offered: the self-tests have passed, and no health test has failed since (R457). -/
def State.cryptoOk (s : State) : Bool := !(wbit (s.bar (secBase + 4)) 5) && wfld (s.bar (svcBase + 4)) 8 8 != 2

/-- An image's key is trusted and its signature verifies (R218, R221, R457). -/
def State.imageSigned (s : State) (b : List Byte) : Bool :=
  let off := leAt b 0x1C 4
  let sig := slice b off 3808
  s.cryptoOk && s.trusted (BitVec.ofNat 256 (leAt sig 0x20 32)) && sigOk sig (Config.sha3 (b.take off))

/-- The first section whose data do not have the digest of the manifest (R218). -/
def badDigest (b : List Byte) (i : Image) : Option Nat :=
  (i.sects.find? fun x => Config.sha3 x.data != BitVec.ofNat 256 (leAt b (leAt b 0x18 4 + 32 * x.idx) 32)).map (·.idx)

end Sys2Proof.Machine
end

