-- ==== Sys2Proof/Machine/Stack.lean ====
section
/-!
DEFINITION. Stack memory: requests at the memory-side dies, refresh, scrubbing, failed stacks, repair, digests
(R296-R315).
-/

namespace Sys2Proof.Machine

/-- The offset of a register of a stack's block (R315). -/
def stkOff (k off : Nat) : Nat := stkBase + 0x1000 * k + off

/-- The end-to-end check at an endpoint that has no core: as at a core, but no region faults (R199). -/
def State.ioCheck (s : State) (k : SiteId) (p : Packet) (go : State → State) : State :=
  let c := s.core k
  let holds (s : State) (f : List HoldEnt → List HoldEnt) : State :=
    s.modCore k fun c => { c with net := { c.net with holds := f c.net.holds } }
  if !(hcrcGood p) then s.crcFail k
  else
    match c.net.holdFor p with
    | some h =>
      if crcGood p then if p.resend && p.seq == h.seq then go (holds s fun l => l.erase h) else s.nakFrom k p rHELD
      else (s.crcFail k).nakFrom k p (if p.seq == h.seq then rCRC else rHELD)
    | none =>
      if crcGood p then go s
      else if c.net.holds.length < 4 then
        (holds (s.crcFail k) fun l =>
          l ++ [{ engine := p.srcEngine, epid := p.srcEpid, plane := p.plane, vc := onVc1 p, seq := p.seq }]).nakFrom k p rCRC
      else s.crcFail k

/-- The pseudo-channel and bank of a local address (R298). -/
def stackBank (loc : Nat) : Nat × Nat := (fld loc 8 6 ^^^ fld loc 14 6, fld loc 14 4 ^^^ fld loc 18 4)

/-- Whether two 256-byte units of a stack lie in one row (R298). -/
def sameRow (u v : Nat) : Bool :=
  stackBank (256 * u) == stackBank (256 * v) && Config.stackRow (u / 1024) == Config.stackRow (v / 1024)

/-- The candidate table of a stack, which the flash history also holds (R308). -/
def State.setCands (s : State) (k : Nat) (l : List Nat) : State :=
  let s := s.setStack k { s.stack k with cands := l }
  { s with rel := { s.rel with stackCand := Tbl.set [] s.rel.stackCand k l } }

/-- A row becomes a repair candidate, named by a unit of it (R308). -/
def State.candidate (s : State) (k u : Nat) : State :=
  let x := s.stack k
  if x.cands.any fun v => sameRow u v then s
  else if x.cands.length < 64 then s.setCands k (x.cands ++ [u])
  else s.setStack k { x with candOvf := true }

/-- A total of a stack's flash record raised, saturating (R424). -/
def State.addTot (s : State) (i n : Nat) : State :=
  { s with rel := { s.rel with
    stackTot := Tbl.set 0 s.rel.stackTot i (min 0xFFFFFFFF (Tbl.get 0 s.rel.stackTot i + n)) } }

/-- Uncorrectable codewords counted, the first recorded, their row a candidate; `src` is SRC of STK_UE_ADDR (R302,
R315). -/
def State.stackUe (s : State) (k src n cw : Nat) : State :=
  if n = 0 then s
  else
    let s := (s.bumpStk k 0x10 n).addTot (2 * k + 1) n
    let s := if wbit (s.bar (stkOff k 0x24)) 31 then s
      else
        let a := stackAddr s.stackN k (16 * cw)
        (s.setBar (stkOff k 0x20) (BitVec.ofNat 32 a)).setBar (stkOff k 0x24)
          (BitVec.ofNat 32 (2 ^ 31 + (src <<< 29) + a / 2 ^ 32 % 2 ^ 19))
    s.candidate k (cw / 16)

/-- Corrected decodes counted; they count toward the risk level (R302, R430). -/
def State.stackCe (s : State) (k n : Nat) : State := ((s.bumpStk k 0x0C n).noteRisk n 0 0).addTot (2 * k) n

/-- The code a stack that does not serve answers with (R306, R309). -/
def stackShut (st : Nat) : Byte := if st = 2 then rOK else if st = 4 then rUNCORR else rBUSY

/-- Whether `n` bytes at a stack address lie in one unit of the populated memory (R38, R299). -/
def State.unitOk (s : State) (a n : Nat) : Bool :=
  decide (0 < n) && decide (a % 256 + n ≤ 256) && decide (a + n ≤ s.stackLimit)

/-- A read of stack memory: the response code and the bytes (R299, R300, R302). -/
def State.stackRead (s : State) (a n : Nat) : State × Byte × List Byte :=
  let k := (stackOf s.stackN a).1
  let loc := (stackOf s.stackN a).2
  let x := s.stack k
  if !(s.unitOk a n) then (s, rBADOFF, [])
  else if x.st ≠ 2 then (s, stackShut x.st, [])
  else
    let r := x.mem.read loc n
    let s := ((s.add64 (stkOff k 0x30) 1).stackCe k r.ce).stackUe k 0 r.ue r.cw
    if r.ue = 0 then (s, rOK, r.bytes) else (s, rUNCORR, [])

/-- A write of stack memory: the response code (R299, R300, R302). -/
def State.stackWrite (s : State) (a : Nat) (b : List Byte) : State × Byte :=
  let k := (stackOf s.stackN a).1
  let loc := (stackOf s.stackN a).2
  let x := s.stack k
  if !(s.unitOk a b.length) then (s, rBADOFF)
  else if x.st ≠ 2 then (s, stackShut x.st)
  else
    let w := x.mem.write loc b
    let s := (s.stackCe k w.ce).stackUe k 1 w.ue w.cw
    if w.ue = 0 then ((s.setStack k { s.stack k with mem := w.mem }).add64 (stkOff k 0x38) 1, rOK)
    else (s, rUNCORR)

/-- An acknowledgement of one packet, sent at once (R198). -/
def State.ackNow (s : State) (k : SiteId) (p : Packet) : State :=
  s.respond k (s.answerEpid p.dest) p tACK rOK p.seq 1 []

/-- MSD_REQUEST: a request at an attachment of its MSD (R176, R299-R302). -/
def msdRequest (m : Nat) (p : Packet) (s : State) : State :=
  let k := p.dsite
  if faEngine p.dest ≠ s.ownId ∨ !(faM p.dest) ∨ (stackOf s.stackN (faStack p.dest)).1 / 2 ≠ m then s
  else
    let s := s.land k (.inl p)
    if p.aborted || !(knownType p.type) || isResponse p.type || p.type == tMC_WR then s.dropAt k
    else s.ioCheck k p fun s =>
      if p.type = tRD_REQ then
        match s.stackRead (faStack p.dest) p.bytes.toNat with
        | (s, code, b) => s.respond k (s.answerEpid p.dest) p tRD_RESP code p.seq p.tag b
      else if p.type = tWR then
        match s.stackWrite (faStack p.dest) p.payload with
        | (s, code) => if code = rOK then s.ackNow k p else s.nakFrom k p code
      else s.nakFrom k p rBADOFF

/-- Whether a stack is populated and has not failed. -/
def Stack.alive (x : Stack) : Bool := x.st != 0 && x.st != 4

/-- STACK_TEMP_READ: the temperatures of an MSD's two stacks, and the refresh interval each asks for (R304). -/
def stackTemps (m : Nat) (t0 t1 : Int) (s : State) : State :=
  let put (s : State) (k : Nat) (t : Int) : State :=
    let x := s.stack k
    if x.alive then s.setStack k { x with temp := t, interval := Config.refreshInterval t } else s
  put (put s (2 * m) t0) (2 * m + 1) t1

/-- A per-bank refresh issued: when each bank was last refreshed is kept (R296, R304). -/
def refreshBank (k bank : Nat) (s : State) : State :=
  let x := s.stack k
  if x.alive then s.setStack k { x with refresh := Tbl.set 0 x.refresh bank s.clk.ts } else s

/-- The codewords of a stack. -/
def stackCws : Nat := 3 * 2 ^ 30

/-- STACK_SCRUB_STEP: the scrub reads the next codeword and writes a correction back; a row corrected on two passes in
succession is a candidate (R302, R307, R308). -/
def scrubStep (k : Nat) (s : State) : State :=
  let x := s.stack k
  if x.st ≠ 2 ∨ !(wbit (s.bar (stkOff k 8)) 31) then s
  else
    let i := x.scrub
    let s := match x.mem.decode i with
      | .clean => s
      | .bad => s.stackUe k 2 1 i
      | .corrected d _ =>
        let u := i / 16
        let s := (s.setStack k { x with mem := x.mem.put i d, thisPass := if x.thisPass.contains u then x.thisPass else x.thisPass ++ [u] }).stackCe k 1
        if x.lastPass.any fun v => sameRow u v then s.candidate k u else s
    let x := s.stack k
    if i + 1 < stackCws then s.setStack k { x with scrub := i + 1 }
    else s.setStack k { x with scrub := 0, lastPass := x.thisPass, thisPass := [] }

/-- The counts of the last repair in STK_PPR: RESULT, NO_RES, DONE (R315). -/
def State.setPpr (s : State) (k result noRes done : Nat) : State :=
  s.setBar (stkOff k 0x28) (BitVec.ofNat 32 ((result <<< 28) + (min 255 noRes <<< 16) + (min 255 done <<< 8)))

/-- NO_RES and DONE of the last repair. -/
def State.ppr (s : State) (k : Nat) : Nat × Nat :=
  let w := s.bar (stkOff k 0x28)
  (wfld w 16 8, wfld w 8 8)

/-- A repair ends: the stack is ONLINE again and the request completes (R309). -/
def State.endRepair (s : State) (k : Nat) (req : Nat × Nat) : State :=
  let left := decide ((s.ppr k).1 ≠ 0)
  let s := s.setPpr k (if left then 3 else 2) (s.ppr k).1 (s.ppr k).2
  let s := s.setStack k { s.stack k with st := 2, repair := none }
  let status := if left then stPARTIAL else stOK
  (s.testDone req status).complete req status

/-- A repair passes over candidates whose bank has no repair resource, and ends after the last (R309). -/
def State.repairOn (s : State) (k : Nat) (req : Nat × Nat) : List Nat → State
  | [] => s.endRepair k req
  | u :: rest =>
    if Config.repairResource k u (Tbl.get 0 s.rel.stackRep k) then
      s.setStack k { s.stack k with repair := some { req := req, todo := u :: rest } }
    else (s.setPpr k 1 ((s.ppr k).1 + 1) (s.ppr k).2).repairOn k req rest

/-- Whether a repair runs on some stack. -/
def State.repairing (s : State) : Bool := (List.range 32).any fun k => (s.stack k).repair.isSome

/-- A TEST_REQUEST of a kind taken up: its block enabled, the engine READY (R330, R332, R414). -/
def State.testOp (s : State) (r : Fin 256) (j kind : Nat) (go : Nat × Nat → Desc → State → State) : State :=
  s.hostOp r j 0x15 fun req d s =>
    if d.f 8 1 ≠ kind then s
    else s.gateOp 6 req fun s => if !s.ready then s.complete req stNOTREADY else go req d s

/-- STACK_REPAIR (R309). -/
def stackRepair (r : Fin 256) (j : Nat) (s : State) : State :=
  s.testOp r j 4 fun req d s =>
    let k := d.f 0xC 4
    let x := s.stack k
    if s.repairing then s.complete req stBUSY
    else if 32 ≤ k ∨ x.st ≠ 2 then s.complete req stNOTREADY
    else if x.digest then s
    else
      let s := (s.setBusy req).setPpr k 1 0 0
      let s := s.setStack k { x with st := 3, candOvf := false, repair := some { req := req, todo := x.cands } }
      s.repairOn k req x.cands

/-- PPR_ROW_DONE: one row repaired and written back raw; a WARM reset that has waited for it takes no other up (R309,
R310, R444). -/
def pprRowDone (k : Nat) (s : State) : State :=
  match (s.stack k).repair with
  | some { req := req, todo := u :: rest } =>
    let s := (s.setPpr k 1 (s.ppr k).1 ((s.ppr k).2 + 1)).bumpStk k 0x14 1
    let s := s.setCands k ((s.stack k).cands.erase u)
    let s := { s with rel := { s.rel with stackRep := Tbl.set 0 s.rel.stackRep k (Tbl.get 0 s.rel.stackRep k + 1) } }
    s.repairOn k req (if s.boot.warm then [] else rest)
  | _ => s

/-- STACK_FAIL: a populated stack that stops answering is FAILED until it is trained again; a repair of it ends
(R306). -/
def stackFail (k : Nat) (s : State) : State :=
  let x := s.stack k
  if !x.alive then s
  else
    let s := s.setStack k { x with st := 4, repair := none }
    let s := { s with rel := { s.rel with stackFail := Tbl.set false s.rel.stackFail k true } }.logRec 9 [k]
    match x.repair with
    | some p => ((s.setPpr k 3 (s.ppr k).1 (s.ppr k).2).testDone p.req stPARTIAL).complete p.req stPARTIAL
    | none => s

/-- Whether a range is one a digest may name (R311). -/
def State.digestRange (s : State) (base len : Nat) : Bool :=
  let stripe := 256 * s.stackN
  base % stripe == 0 && len % stripe == 0 && len != 0 && decide (base + len ≤ s.stackLimit)

/-- STATE_DIGEST; a second one waits (R311, R313). -/
def stateDigest (r : Fin 256) (j : Nat) (s : State) : State :=
  s.hostOp r j 0x16 fun req d s =>
    s.gateOp 4 req fun s =>
      if !s.ready then s.complete req stNOTREADY
      else if !(s.digestRange (d.f 8 8) (d.f 0x10 8)) then s.complete req stINTEGRITY
      else if s.stks.digest.isSome then s
      else
        let s := s.setBusy req
        let s := { s with stks := { s.stks with
          digest := some { req := req, base := d.f 8 8, len := d.f 0x10 8, host := BitVec.ofNat 64 (d.f 0x18 8) } } }
        (List.range 32).foldl (fun (s : State) k =>
          if (s.stack k).st = 2 then s.setStack k { s.stack k with digest := true } else s) s

/-- The digest record (R314). -/
def digestRecord (mask base len : Nat) (state : BitVec 256) (ds : Nat → BitVec 256) : List Byte :=
  leBytes 4 1 ++ leBytes 4 mask ++ leBytes 8 base ++ leBytes 8 len ++ leBytes 8 0 ++ leBytes 32 state.toNat
    ++ (List.range 32).flatMap fun k => leBytes 32 (ds k).toNat

/-- A stack's digest read: what the decoders find is counted; none where a codeword is uncorrectable (R302, R312). -/
def State.digestStack (s : State) (k lo n : Nat) : State × Option (BitVec 256) :=
  let r := (s.stack k).mem.read lo n
  let s := (s.stackCe k r.ce).stackUe k 3 r.ue r.cw
  (s, if r.ue = 0 then some (Config.sha3 r.bytes) else none)

/-- DIGEST_DONE: the record is written once every stack that is not FAILED has been read (R312-R314). -/
def digestDone (s : State) : State :=
  match s.stks.digest with
  | none => s
  | some g =>
    let ks := (List.range 32).filter fun k => s.populated k
    if ks.any fun k => (s.stack k).st != 2 && (s.stack k).st != 4 then s
    else
      let n := s.stackN
      let (s, ds) := (ks.filter fun k => (s.stack k).st == 2).foldl
        (fun (a : State × List (Nat × Option (BitVec 256))) k =>
          let (s, d) := a.1.digestStack k (g.base / n) (g.len / n)
          (s, a.2 ++ [(k, d)])) (s, [])
      let bad := ds.any fun d => d.2.isNone
      let part := decide (ds.length < ks.length)
      let of (k : Nat) : BitVec 256 := if bad then 0 else
        match ds.find? fun d => d.1 == k with
        | some (_, some d) => d
        | _ => 0
      let state := if bad || part then 0 else Config.sha3 (ks.flatMap fun k => leBytes 32 (of k).toNat)
      let s := s.hostWrite g.host.toNat (digestRecord (s.bar 0x44).toNat g.base g.len state of)
      let s := { s with stks := { s.stks with digest := none } }
      let s := (List.range 32).foldl (fun (s : State) k => s.setStack k { s.stack k with digest := false }) s
      s.complete g.req (if bad then stINTEGRITY else if part then stPARTIAL else stOK)

/-- MSD_REQUEST (R300). -/
def execMsdRequest (m : Fin 16) (p : Packet) (s : State) : Res := .next (msdRequest m p s)

/-- STACK_TEMP_READ (R304). -/
def execStackTempRead (m : Fin 16) (t0 t1 : Int) (s : State) : Res := .next (stackTemps m t0 t1 s)

/-- STACK_REFRESH (R304). -/
def execStackRefresh (k : Fin 32) (bank : Fin 1024) (s : State) : Res := .next (refreshBank k bank s)

/-- REFRESH_MANAGEMENT_REQUEST: honoured at once (R296). -/
def execRefreshManagementRequest (k : Fin 32) (bank : Fin 1024) (s : State) : Res := .next (refreshBank k bank s)

/-- STACK_SCRUB_STEP (R307). -/
def execStackScrubStep (k : Fin 32) (s : State) : Res := .next (scrubStep k s)

/-- STACK_FAIL (R306). -/
def execStackFail (k : Fin 32) (s : State) : Res := .next (stackFail k s)

/-- STACK_REPAIR (R309). -/
def execStackRepair (r : Fin 256) (j : Nat) (s : State) : Res := .next (stackRepair r j s)

/-- PPR_ROW_DONE (R309). -/
def execPprRowDone (k : Fin 32) (s : State) : Res := .next (pprRowDone k s)

/-- STATE_DIGEST (R311). -/
def execStateDigest (r : Fin 256) (j : Nat) (s : State) : Res := .next (stateDigest r j s)

/-- DIGEST_DONE (R314). -/
def execDigestDone (s : State) : Res := .next (digestDone s)

end Sys2Proof.Machine
end

