-- ==== Sys2Proof/Machine/HostAccess.lean ====
section
/-!
DEFINITION. Accesses the I/O die makes to fabric addresses: the way to the target, what the target answers, transfers
in packets, host windows (R36-R38, R188, R196, R231, R299, R322, R331, R333).
-/

namespace Sys2Proof.Machine

/-- The endpoint entries of the host and of the cupola, whose EPIDs their accesses carry (R30, R34). -/
def entHost : Nat := 64
def entCupola : Nat := 65

/-- The EPID of the host's or the cupola's accesses. -/
def entEpid (ent : Nat) : Nat := if ent = entHost then 0x7F000 else 0x7FF00

/-- The way from a router to a site: `rOK`, the refusal of a router, or HOLE at a link that is down or claimed (R188,
R189, R196, R208). -/
def State.walk (s : State) (v : Bool) (x y : Nat) : Nat → SiteId → Port → Bool → Byte
  | 0, _, _, _ => rUNREACH
  | n + 1, k, port, lane =>
    match s.hop k v .v lane port x y with
    | .eject => rOK
    | .refuse code => code
    | .go d up =>
      if s.linkUp k d && !(s.claimed k d .v) then
        match neighbour k d with
        | some m => s.walk v x y n m (.link (Dir.back d)) (lane || up)
        | none => rHOLE
      else rHOLE

/-- The codes a fabric access over a lantern may complete with (R178, R331). -/
def remoteCodes : List Byte := [rOK, rFENCED, rNOEND, rBADOFF, rUNCORR, rCLOSED, rUNREACH, rDENIED, rTIMEOUT]

/-- The open window that admits a request (R333). -/
def State.windowFor (s : State) (off n engine epid : Nat) (wr : Bool) : Option Nat :=
  (List.range 256).find? fun i =>
    let w := Tbl.get Window.reset s.host.wins i
    let fromRgn : Bool := engine == s.ownId && decide (epid < coreCount) && match s.fab.coreSite s.curVer epid with
      | some k => (s.core k).rgnId == w.rgn.toNat && w.rgn != 0
      | none => false
    w.open_ && w.closing.isNone && decide (w.offset ≤ off) && decide (off + n ≤ w.offset + w.len)
      && (if wr then w.wr else w.rd) && (w.anySrc || fromRgn)

/-- The host address behind an offset of a window (R333). -/
def State.windowAddr (s : State) (i off : Nat) : Nat :=
  let w := Tbl.get Window.reset s.host.wins i
  w.haddr.toNat + (off - w.offset)

/-- Free bytes: `n` of one draw (log entry 2). -/
def State.freeBytes (s : State) (n : Nat) : State × List Byte :=
  let (i, s) := s.draw
  (s, (List.range n).map fun j => Config.freeByte i j)

/-- An access over a lantern: the request leaves, the code and the bytes that come back are free (log entry 2). -/
def State.remoteAccess (s : State) (ent l : Nat) (dest : DWord) (type : Byte) (n : Nat) (b : List Byte) :
    State × Byte × List Byte :=
  if (s.lantern l).st ≠ 3 then (s, rHOLE, [])
  else
    let p := mkPacket s .v dest (entEpid ent) s.curVer type n b
    let x := s.lantern l
    let s := s.setLantern l { x with out := x.out ++ [.packet 0 p] }
    let (i, s) := s.draw
    let (s, b) := s.freeBytes n
    (s, remoteCodes.getD ((Config.freeWord i).toNat % 9) rOK, b)

/-- Where an access goes: the site its target stands at, if it can be reached (R185-R189, R196). While the fabric's
clock is stopped it waits. -/
def State.reach (s : State) (ent : Nat) (dest : DWord) : SiteId ⊕ Byte :=
  let v := s.curVer
  if s.clk.stopped then .inr rBUSY
  else match s.resolve v dest (entEpid ent), s.endTarget v ent 0 with
  | .refuse c, _ => .inr c
  | _, .refuse _ => .inr rHOLE
  | .site k, .site from_ =>
    let c := s.walk v (siteX k) (siteY k) 4096 from_ .loc false
    if c = rOK then .inl k else .inr c

/-- A read of at most 256 bytes at a fabric address: the response code and the bytes. -/
def State.fabRead1 (s : State) (ent : Nat) (dest : DWord) (n : Nat) : State × Byte × List Byte :=
  match s.reach ent dest with
  | .inr c => (s, c, [])
  | .inl k =>
    match s.endpointOf s.curVer dest (entEpid ent) with
    | .core =>
      if s.fenced k then (s, rFENCED, [])
      else if s.inReset k then (s, rRESET, [])
      else if !(s.siteRuns k) then (s, rBUSY, [])
      else s.coreFetch k (faOff dest) n
    | .msd _ => if faM dest then s.stackRead (faStack dest) n else (s, rBADOFF, [])
    | .lantern l => if faEngine dest = s.ownId then (s, rBADOFF, []) else s.remoteAccess ent l dest tRD_REQ n []
    | .group _ => (s, rNOEND, [])
    | .host =>
      match s.windowFor (faOff dest) n s.ownId (entEpid ent) false with
      | some _ =>
        let (i, s) := s.draw
        let (s, b) := s.freeBytes n
        if (Config.freeWord i).getLsbD 0 then (s, rUNCORR, []) else (s, rOK, b)
      | none => (s, rDENIED, [])
    | .cupola => (s, rBADOFF, [])
    | .none => (s, rNOEND, [])

/-- A write of at most 256 bytes at a fabric address: the response code. A multicast write counts at its injection
(R205, R332). -/
def State.fabWrite1 (s : State) (ent : Nat) (dest : DWord) (b : List Byte) : State × Byte :=
  match s.reach ent dest with
  | .inr c => (s, c)
  | .inl k =>
    match s.endpointOf s.curVer dest (entEpid ent) with
    | .core =>
      if s.fenced k then (s, rFENCED)
      else if s.inReset k then (s, rRESET)
      else if !(s.siteRuns k) then (s, rBUSY)
      else s.coreStore k (faOff dest) b
    | .msd _ => if faM dest then s.stackWrite (faStack dest) b else (s, rBADOFF)
    | .lantern l =>
      if faEngine dest = s.ownId then (s, rBADOFF)
      else
        match s.remoteAccess ent l dest tWR b.length b with
        | (s, c, _) => (s, c)
    | .group _ =>
      match s.endTarget s.curVer ent 0 with
      | .site from_ =>
        let p := mkPacket s .v dest (entEpid ent) s.curVer tMC_WR b.length b
        (s.inject from_ (p.toSite k), rOK)
      | .refuse c => (s, c)
    | .host =>
      match s.windowFor (faOff dest) b.length s.ownId (entEpid ent) true with
      | some i => (s.hostWrite (s.windowAddr i (faOff dest)) b, rOK)
      | none => (s, rDENIED)
    | .cupola => (s, rBADOFF)
    | .none => (s, rNOEND)

/-- The packets of a transfer: offset and length of each, cut at the 256-byte boundaries of the fabric address (R299). -/
def spans (a : Nat) : Nat → Nat → Nat → List (Nat × Nat)
  | 0, _, _ => []
  | f + 1, off, n =>
    if n = 0 then []
    else
      let m := min n (256 - (a + off) % 256)
      (off, m) :: spans a f (off + m) (n - m)

/-- The packets of a transfer of `n` bytes at a fabric address. -/
def packetsOf (dest : DWord) (n : Nat) : List (Nat × Nat) := spans (dest.toNat % 256) (n / 256 + 2) 0 n

/-- A read of any length from the fabric: it stops at its first failure (R331). -/
def State.fabRead (s : State) (ent : Nat) (dest : DWord) (n : Nat) : State × Byte × List Byte :=
  (packetsOf dest n).foldl (fun (a : State × Byte × List Byte) x =>
    if a.2.1 ≠ rOK then a
    else
      match a.1.fabRead1 ent (dest + BitVec.ofNat 64 x.1) x.2 with
      | (s, c, b) => (s, c, if c = rOK then a.2.2 ++ b else a.2.2)) (s, rOK, [])

/-- A write of any length to the fabric: the code it ends with and the number of bytes moved (R331). -/
def State.fabWrite (s : State) (ent : Nat) (dest : DWord) (b : List Byte) : State × Byte × Nat :=
  (packetsOf dest b.length).foldl (fun (a : State × Byte × Nat) x =>
    if a.2.1 ≠ rOK then a
    else
      match a.1.fabWrite1 ent (dest + BitVec.ofNat 64 x.1) (slice b x.1 x.2) with
      | (s, c) => (s, c, if c = rOK then a.2.2 + x.2 else a.2.2)) (s, rOK, 0)

/-- The codes a transfer is sent again on, so that it waits (R196, R200, R331). -/
def resent (c : Byte) : Bool := c == rBUSY || c == rHOLE || c == rCRC || c == rHELD

/-- The status a fabric response maps to (R331). A RESET that is refused three times is a TIMEOUT (R200). -/
def fabStatus (c : Byte) : Nat :=
  if c = rOK then stOK
  else if c = rFENCED then stFENCED
  else if c = rNOEND ∨ c = rBADOFF ∨ c = rUNREACH then stWINDOW
  else if c = rUNCORR then stINTEGRITY
  else if c = rCLOSED then stCLOSED
  else if c = rDENIED then stDENIED
  else stTIMEOUT

/-- The code a record shows for a response. -/
def fabDetail (c : Byte) : Nat := if c = rRESET then rTIMEOUT.toNat else c.toNat

end Sys2Proof.Machine
end

