-- ==== Sys2Proof/Machine/Record.lean ====
section
/-!
DEFINITION. The core state record of a scan: how a core is written out and read back (R238, R239). The rule gives each
group's offset; the order and width of fields in a group are those of log entry 12.
-/

namespace Sys2Proof.Machine

/-- Words one after another. -/
def le4 (ws : List Nat) : List Byte := ws.flatMap fun w => leBytes 4 w

/-- The length of a core state record (R238). -/
def recordLen : Nat := 0x44000

/-- A context in a record; after its loop levels, the barrier a halted context waits at. -/
def recCtx (x : Ctx) : List Byte :=
  le4 ([x.state.toNat, x.ev.toNat, x.epc.toNat] ++ ((List.range 16).map fun n => (Tbl.get 0 x.regs n).toNat)
    ++ ((List.range 4).flatMap fun v => [(x.level v).start.toNat + ((x.level v).fin.toNat <<< 16), (x.level v).remain.toNat])
    ++ [x.bar.toNat + (x.sense.toNat <<< 31)])

/-- A context read back: a RUNNING one is READY (R239). Its GEN is that of the load (R241). -/
def ctxRec (b : List Byte) (gen : BitVec 3) : Ctx :=
  let w (i : Nat) : Nat := leAt b (4 * i) 4
  let st := fld (w 0) 12 2
  { pc := BitVec.ofNat 12 (w 0), st := BitVec.ofNat 2 (if st = 2 then 1 else st), gen := gen
    evActive := (w 0).testBit 24, bwait := (w 0).testBit 25, ldepth := BitVec.ofNat 3 (fld (w 0) 16 3)
    loops := (List.range 4).foldl (fun (t : Tbl LoopLevel) v =>
      Tbl.set LoopLevel.reset t v { start := BitVec.ofNat 12 (w (19 + 2 * v)), fin := BitVec.ofNat 12 (w (19 + 2 * v) >>> 16)
                                    remain := BitVec.ofNat 32 (w (20 + 2 * v)) }) []
    pend := BitVec.ofNat 4 (fld (w 1) 24 4), en := BitVec.ofNat 4 (fld (w 1) 16 4), vec := BitVec.ofNat 12 (w 1)
    epc := BitVec.ofNat 12 (w 2)
    regs := (List.range 16).foldl (fun (t : Tbl Word) n => Tbl.set 0 t n (BitVec.ofNat 32 (w (3 + n)))) []
    bar := BitVec.ofNat 14 (w 27), sense := (w 27).testBit 31 }

/-- What a record says of a tile beside its bytes: valid, KB, SPARSE, format, bytes of a column and of a column's
scales. -/
def recTileInfo : Option Tile → List Nat
  | none => [0, 0]
  | some t => [1 + (t.kb <<< 1) + (t.sparse.toNat <<< 4) + (t.fmt.toNat <<< 8),
               (t.cols.headD []).length + ((t.scales.headD []).length <<< 16)]

/-- A tile's bytes: its columns, then their scales. -/
def recTile : Option Tile → List Byte
  | none => []
  | some t => t.cols.flatten ++ t.scales.flatten

/-- A tile read back. -/
def tileRec (i0 i1 : Nat) (b : List Byte) : Option Tile :=
  if i0 % 2 = 0 then none
  else
    let n := fld i1 0 16
    let m := fld i1 16 16
    some { fmt := BitVec.ofNat 8 (i0 >>> 8), sparse := i0.testBit 4, kb := fld i0 1 3
           cols := (List.range 16).map fun j => slice b (n * j) n
           scales := (List.range 16).map fun j => slice b (16 * n + m * j) m }

/-- The positions of an access engine and its free credits. -/
def Core.recAcc (c : Core) (a : Nat) : List Nat :=
  let x := c.acc_ a
  [x.sent, x.ready, x.taken, c.credits a]

/-- The BANK_CTL, WIN, RGN_SCH, RGN_BYP and RGN_HALT registers in the order of the record. -/
def recBankRegs : List Nat :=
  ((List.range 4).map fun b => 0x100410 + 4 * b) ++ ((List.range 16).map fun n => 0x100440 + 4 * n)
    ++ [0x10063C, 0x100644, 0x100648]

/-- The NUM registers and counters in the order of the record. -/
def recNumRegs : List Nat :=
  [0x100204, 0x100208, 0x10020C, 0x100210, 0x100220, 0x100224, 0x100228, 0x10022C]

/-- The rows of the accumulator: their entries, then their kinds and exponents. -/
def Core.recRows (c : Core) : List Byte :=
  let row (r : Nat) : AccRow := Tbl.get AccRow.zero c.acc r
  le4 ((List.range 64).flatMap fun r => (List.range 16).map fun n => (Tbl.get 0 (row r).v n).toNat)
    ++ le4 ((List.range 64).map fun r => (row r).int.toNat + (unsgn 31 (row r).exp <<< 1))

/-- A core's record without its banks (R238). -/
def Core.recHead (c : Core) (epid : Nat) (quiet : Bool) : List Byte :=
  let r := c.reg 0x100604
  padTo 0x40 (le4 ([epid, wfld r 0 16, wfld r 19 3, 1, quiet.toNat] ++ recTileInfo c.active ++ recTileInfo c.shadow))
    ++ padTo 0xC0 (le4 ([(c.reg 0x100004).toNat, c.seqr.cur.toNat, c.seqr.flags.toNat]
      ++ (List.range 5).map fun e => (c.engine e).tickets.toNat))
    ++ ((List.range 8).flatMap fun i => padTo 0x100 (recCtx (c.ctxAt i)))
    ++ padTo 0x40 (le4 (recNumRegs.map fun o => (c.reg o).toNat))
    ++ padTo 0x40 (le4 ([(c.reg 0x100308).toNat] ++ c.recAcc 0 ++ c.recAcc 1))
    ++ padTo 0x80 (le4 (((List.range 16).map fun n => (c.tqCfg n).toNat)
      ++ (List.range 16).map fun n => (c.tq n).cnt + ((c.tq n).rd <<< 16)))
    ++ padTo 0x200 (le4 (recBankRegs.map fun o => (c.reg o).toNat))
    ++ padTo 0x1400 c.recRows
    ++ padTo 0x1000 (recTile c.active) ++ padTo 0x1000 (recTile c.shadow)

/-- A core written out: the core as the decoders leave it, and its record (R238). -/
def Core.record (c : Core) (epid : Nat) (quiet : Bool) : Core × List Byte :=
  let r := c.sram.read 0 0x40000
  (c.noteEcc 2 r.ce r.ue r.cw, c.recHead epid quiet ++ r.bytes)

/-- A word of a scan record. -/
def recW (b : List Byte) (o : Nat) : Nat := leAt b o 4

/-- Registers of a core from a record's words from `base` on. -/
def Core.restoreRegs (c : Core) (b : List Byte) (base : Nat) (l : List Nat) : Core :=
  (l.zip (List.range l.length)).foldl (fun (c : Core) x => c.setReg x.1 (BitVec.ofNat 32 (recW b (base + 4 * x.2)))) c

/-- The contexts of a core from a record; one that was halted at a barrier keeps the sense it arrived with. -/
def Core.restoreCtxs (c : Core) (b : List Byte) : Core :=
  let gen := BitVec.ofNat 3 (wfld (c.reg 0x100604) 19 3)
  let c := (List.range 8).foldl (fun (c : Core) i => c.setCtx i (ctxRec (slice b (0x100 + 0x100 * i) 0x100) gen)) c
  (List.range 8).foldl (fun (c : Core) i =>
    let x := c.ctxAt i
    if x.bwait then { c with sense := Tbl.set false c.sense x.bar.toNat x.sense } else c) c

/-- The running context's number and the flags from a record. -/
def Core.restoreSeqr (c : Core) (b : List Byte) : Core :=
  let c := c.setReg 0x100004 (BitVec.ofNat 32 (fld (recW b 0x44) 0 3))
  let flags : BitVec 16 := BitVec.ofNat 16 (recW b 0x48)
  { c with seqr := { c.seqr with cur := BitVec.ofNat 3 (recW b 0x44), flags := flags, flagsOld := flags, flagsSeen := flags
                                 avail := [] } }

/-- The tickets, stream positions and token queues of a core from a record. -/
def Core.restoreCounts (c : Core) (b : List Byte) : Core :=
  let c := (List.range 5).foldl (fun (c : Core) e =>
    c.setEngine e { c.engine e with done := BitVec.ofNat 16 (recW b (0x4C + 4 * e))
                                    issued := BitVec.ofNat 16 (recW b (0x4C + 4 * e) >>> 16) }) c
  let c := (List.range 2).foldl (fun (c : Core) a =>
    c.setAcc a { AccEng.reset with sent := recW b (0x944 + 16 * a), ready := recW b (0x948 + 16 * a)
                                   taken := recW b (0x94C + 16 * a) }) c
  (List.range 16).foldl (fun (c : Core) n =>
    (c.setReg (0x100680 + 4 * n) (BitVec.ofNat 32 (recW b (0x980 + 4 * n)))).setTq n
      { cnt := fld (recW b (0x9C0 + 4 * n)) 0 16, rd := fld (recW b (0x9C0 + 4 * n)) 16 16 }) c

/-- An accumulator row of a record. -/
def rowRec (b : List Byte) (r : Nat) : AccRow :=
  let k := recW b (0x1C00 + 4 * r)
  { int := k.testBit 0, exp := sgn 31 (fld k 1 31)
    v := (List.range 16).foldl (fun (t : Tbl Word) n => Tbl.set 0 t n (BitVec.ofNat 32 (recW b (0xC00 + 64 * r + 4 * n)))) [] }

/-- The accumulators, the weight tiles and the SRAM of a core from a record. -/
def Core.restoreData (c : Core) (b : List Byte) : Core :=
  { c with acc := (List.range 64).foldl (fun (t : Tbl AccRow) r => Tbl.set AccRow.zero t r (rowRec b r)) []
           active := tileRec (recW b 0x14) (recW b 0x18) (slice b 0x2000 0x1000)
           shadow := tileRec (recW b 0x1C) (recW b 0x20) (slice b 0x3000 0x1000)
           sram := (c.sram.write 0 (slice b 0x4000 0x40000)).mem }

/-- A core with its record read back (R239). -/
def Core.restore (c : Core) (b : List Byte) : Core :=
  let c := ((c.restoreCtxs b).restoreSeqr b).restoreCounts b
  let c := (c.restoreRegs b 0x900 recNumRegs).setReg 0x100308 (BitVec.ofNat 32 (recW b 0x940))
  (c.restoreRegs b 0xA00 recBankRegs).restoreData b

end Sys2Proof.Machine
end

