-- ==== Sys2Proof/Machine/Load.lean ====
section
/-!
DEFINITION. Loading a program image: its checks, configuring the cores of its regions, building their groups, and what
a reconfiguration does first (R163, R207, R213, R220-R222, R240-R242, R334).
-/

namespace Sys2Proof.Machine

/-- The blocks of EPIDs whose row and site columns meet a region's rectangle, in ascending order (R219). -/
def Region.blocks (r : Region) : List Nat :=
  (List.range 6144).filter fun b =>
    let x := b / 512 % 4 * 192 + b % 4 * 48
    let y := b / 512 / 4 * 128 + b % 512 / 4
    decide (x ≤ r.xhi) && decide (r.xlo ≤ x + 47) && decide (r.ylo ≤ y) && decide (y ≤ r.yhi)

/-- Whether a region's PLACEMENT matches the active version (R219, R221). -/
def State.placed (s : State) (r : Region) : Bool :=
  !r.sched || Config.sha3 (r.blocks.flatMap fun b => leBytes 4 (s.fab.core s.curVer b).toNat) == r.placement

/-- Every core a region names resolves and is not fenced (R221). -/
def State.coresUp (s : State) (r : Region) : Bool :=
  (r.sched || r.ranges.all fun p =>
    (List.range (p.2 + 1 - p.1)).all fun i => (s.fab.coreSite s.curVer (p.1 + i)).isSome)
  && (s.namedCores r).all fun e => !(s.fenced e.2)

/-- The next generation that is not blocked, from the counter on (R242). -/
def Rgns.nextGen (g : Rgns) : Option (BitVec 3) :=
  ((List.range 8).find? fun i => !(g.blocked.getLsbD ((g.gen.toNat + i) % 8))).map fun i => g.gen + BitVec.ofNat 3 i

/-- The version of an image, its family, stepping and stacks are accepted (R216, R221). -/
def State.imageFits (s : State) (b : List Byte) : Bool :=
  leAt b 4 2 == 1 && leAt b 8 2 == 0x5654 && decide (leAt b 0xA 1 ≤ wfld (s.bar 8) 0 8)
    && maskOk (leAt b 0xC 4) (s.bar 0x44).toNat

/-- The regions a load takes the place of: configured ones its image names. -/
def State.replaced (s : State) (i : Image) : List Nat := i.ids.filter fun id => (s.region id).conf

/-- Whether a configured region waits for the flip of its load (R222). -/
def State.loading (s : State) (id : Nat) : Bool := (s.region id).conf && (s.region id).st == 0

/-- A core that a load may not take: it lies in a region that runs, or in another load, and is not one of those the
load replaces (R221). -/
def State.coreTaken (s : State) (old : List Nat) (k : SiteId) : Bool :=
  let id := (s.core k).rgnId
  id != 0 && !old.contains id && ((s.region id).live || s.loading id)

/-- The sites of a group's members, root first told apart (R334). -/
def State.memberSites (s : State) (g : GroupRec) : List (Option SiteId) := g.members.map fun m => s.fab.coreSite s.curVer m

/-- The groups a load builds: each region's HALT_GROUP, and those of its MCAST sections. -/
def Image.groupNumbers (i : Image) : List Nat :=
  (i.regions.map fun r => r.2.haltGroup.toNat) ++ i.sects.flatMap fun x => x.groups.map fun g => g.group

/-- Whether group and exception entries a load asks for are free, or held by what it replaces (R221). -/
def State.entriesFree (s : State) (old : List Nat) (i : Image) : Bool :=
  let gs := i.groupNumbers
  let oldG := old.flatMap fun id => (s.region id).groups
  let oldX := old.flatMap fun id => (s.region id).routes.map fun x => (x.1, x.2.1)
  let xs := i.sects.flatMap fun x => x.routes.map fun r => (r.1, r.2.1)
  gs.eraseDups.length == gs.length && xs.eraseDups.length == xs.length
    && (gs.all fun g => g != 0x3FFF && (oldG.contains g || !(wbit (s.fab.groupRoot s.curVer g) 31)))
    && xs.all fun x => oldX.contains x || !((s.router x.1).excAt s.curVer x.2).getLsbD 47

/-- What a load's checks find: its image, or the status with the index of the failing section (R221, R332). -/
def State.checkImage (s : State) (b : List Byte) (reconf : Nat) : Image ⊕ (Nat × Nat) :=
  match parseImage b with
  | .inr i => .inr (stINTEGRITY, i)
  | .inl im =>
    if !(s.imageSigned b) then .inr (stDENIED, noSect)
    else match badDigest b im with
      | some i => .inr (stINTEGRITY, i)
      | none =>
        if !(s.imageFits b) then .inr (stBADVER, noSect)
        else
          let old := s.replaced im
          let groups := im.sects.flatMap fun x => x.groups
          match im.regions.find? fun r => !(s.coresUp r.2) with
          | some r => .inr (stFENCED, r.1)
          | none =>
            if groups.any fun g => (s.memberSites g).any fun k => match k with
                | some k => s.fenced k
                | none => true then .inr (stFENCED, noSect)
            else match im.regions.find? fun r => !(s.placed r.2) with
              | some r => .inr (stSTALE, r.1)
              | none =>
                let taken := im.regions.any fun r => (s.namedCores r.2).any fun e => s.coreTaken old e.2
                let busyOld := (old != [] && reconf == 0) || old.any fun id => s.loading id || (s.region id).reload.isSome
                let count := s.rgns.tbl.countP fun x => x.2.conf
                let cores := im.regions.flatMap fun r => (s.namedCores r.2).map (·.2)
                if taken || busyOld || decide (4096 < count - old.length + im.regions.length)
                    || s.rgns.nextGen.isNone || !(s.entriesFree old im) || cores.eraseDups.length != cores.length then
                  .inr (stBUSY, noSect)
                else .inl im

/-- The version as the cupola sees the fabric when it builds a tree: around holes and down links (R197, R207). -/
def State.treeFab (s : State) : Fab :=
  let v := verNum s.curVer
  { s.fab with holes := Tbl.set 0 s.fab.holes v (s.fab.holesOf s.curVer ||| s.offAreas)
               avoid := Tbl.set [] s.fab.avoid v (s.fab.avoidOf s.curVer ++ s.downLinks) }

/-- A group's tree built and written into both versions at once; its positions start at 0. On failure the status and
DETAIL (R206, R207, R334). -/
def State.installGroup (s : State) (g : Nat) (root : SiteId) (members : List SiteId) : State ⊕ (Nat × Nat) :=
  match s.treeFab.buildTree s.curVer root members with
  | .inr i => .inr (stWINDOW, rUNREACH.toNat + (i <<< 8))
  | .inl t =>
    match (s.putTree false g root t).bind fun s => s.putTree true g root t with
    | none => .inr (stBUSY, 0)
    | some s => .inl ((s.mapRouters fun _ r => r.mcFresh g).mapCores fun _ c => c.mcFresh g)

/-- A bank made ready for the cupola's writes: ON (R151, R164). -/
def Core.bankOn (c : Core) (b : Nat) : Core := (c.wakeBank b).wakeDone b

/-- The banks a core's sections and configuration records touch (R222). -/
def touchedBanks (sects : List Sect) : List Nat :=
  (sects.flatMap fun x =>
    (if x.type = 4 then banksOf x.dest x.data.length else [])
      ++ x.cfgs.filterMap fun r =>
        if inWords r.1 0x100410 4 then some (r.1 % 0x10 / 4)
        else if inWords r.1 0x100440 16 then some (winBank (BitVec.ofNat 32 r.2))
        else if inWords r.1 0x100680 16 then some (4 * fld r.2 2 16 / 0x10000 % 4)
        else none).eraseDups

/-- Whether an SRAM section may be skipped in a core: retained, and last loaded to that place (R222). -/
def State.resident (s : State) (k : SiteId) (x : Sect) : Bool :=
  x.retOk && (banksOf x.dest x.data.length).all (fun b => wbit ((s.core k).bankCtl b) 4)
    && (s.rgns.loads.find? fun l => l.1 == k.val && l.2.1 == x.dest).any fun l => l.2.2 == Config.sha3 x.data

/-- A section applied to a core (R220, R222). -/
def State.applySect (s : State) (k : SiteId) (x : Sect) : State :=
  match x.type with
  | 2 => x.cfgs.foldl (fun (s : State) r => s.coreWrite k r.1 (BitVec.ofNat 32 r.2)) s
  | 3 => s.modCore k fun c =>
      { c with seqr := { c.seqr with istore := (c.seqr.istore.write (x.dest % 0x4000) x.data).mem } }
  | 4 =>
    if s.resident k x then s
    else
      let s := s.modCore k fun c =>
        (((banksOf x.dest x.data.length).foldl (fun (c : Core) b => c.bankOn b) c).sramWrite 2 x.dest x.data).1
      let other := s.rgns.loads.filter fun l => !(l.1 == k.val && l.2.1 == x.dest)
      { s with rgns := { s.rgns with loads := (k.val, x.dest, Config.sha3 x.data) :: other } }
  | 5 => s.modCore k fun c =>
      { c with switch := (List.range (x.data.length / 8)).foldl (fun (t : Tbl DWord) i =>
          Tbl.set 0 t (x.dest % 0x2000 / 8 + i) (BitVec.ofNat 64 (leAt x.data (8 * i) 8))) c.switch }
  | _ => s

/-- RGN_ID of a core of a region (R222, R247). -/
def Region.idWord (r : Region) (id : Nat) : Word :=
  BitVec.ofNat 32 (id + (r.sched.toNat <<< 16) + (r.sealBit.toNat <<< 17) + (r.slipFault.toNat <<< 18) + (r.gen.toNat <<< 19))

/-- A core configured for a region from the sections that name it (R222). -/
def State.configure (s : State) (k : SiteId) (id : Nat) (sects : List Sect) : State :=
  let r := s.region id
  let s := s.resetCore k
  let s := s.modCore k fun c =>
    (c.setReg 0x100604 (r.idWord id)).setReg 0x100648 (BitVec.ofNat 32 (r.drainFlag.toNat + (r.haltGroup.toNat <<< 4)))
  let s := sects.foldl (fun (s : State) x => s.applySect k x) s
  s.modCore k fun c =>
    let c := (touchedBanks sects).foldl (fun (c : Core) b => c.setReg (0x100410 + 4 * b) (setBit (c.bankCtl b) 8 true)) c
    (List.range 8).foldl (fun (c : Core) i => c.setCtx i { c.ctxAt i with gen := r.gen }) c

/-- What a load takes the place of is taken away (R240, R442). -/
def State.clearOld (s : State) (id : Nat) : State :=
  let cores := s.regionCores id
  let s := (s.endRequests id stNOTREADY).killRegion id
  let s := cores.foldl (fun (s : State) e => (s.resetCore e.2).modCore e.2 fun c => c.setReg 0x100604 0) s
  (s.releaseTables id).setRegion id Region.reset

/-- A group of a region's load built; on failure the load's status and DETAIL. -/
def loadGroup (id g : Nat) (root : Option SiteId) (members : List SiteId) (a : State ⊕ (Nat × Nat)) : State ⊕ (Nat × Nat) :=
  match a, root with
  | .inl s, some root =>
    match s.installGroup g root members with
    | .inl s => .inl (s.setRegion id { s.region id with groups := (s.region id).groups ++ [g] })
    | .inr e => .inr e
  | a, _ => a

/-- The groups of a region built: the one that carries HALT, with its root at the region's first core, and those of
its MCAST sections (R207, R222). -/
def State.buildGroups (s : State) (id : Nat) (groups : List GroupRec) : State ⊕ (Nat × Nat) :=
  let r := s.region id
  let cores := (s.namedCores r).map (·.2)
  groups.foldl (fun (a : State ⊕ (Nat × Nat)) g =>
    loadGroup id g.group (s.fab.coreSite s.curVer g.root) ((s.memberSites g).filterMap fun k => k) a)
    (loadGroup id r.haltGroup.toNat cores.head? cores (.inl s))

/-- One region of an image configured, with the next generation (R222, R242). -/
def State.loadRegion (s : State) (im : Image) (x : Nat × Nat × Region) : State ⊕ (Nat × Nat) :=
  let id := x.2.1
  match s.rgns.nextGen with
  | none => .inr (stBUSY, 0)
  | some g =>
    let sects := im.sects.filter fun y => y.rgn == x.1
    let s := { s with rgns := { s.rgns with gen := g + 1 } }
    let s := s.setRegion id { x.2.2 with gen := g, routes := sects.flatMap fun y => y.routes }
    let s := (s.namedCores x.2.2).foldl (fun (s : State) e =>
      s.configure e.2 id (sects.filter fun y => decide (2 ≤ y.type) && decide (y.type ≤ 5) && decide (y.first ≤ e.1)
        && decide (e.1 ≤ y.last))) s
    s.buildGroups id (sects.flatMap fun y => y.groups)

/-- The regions of a load that has failed are left EMPTY and their cores reset (R221). -/
def State.unload (s : State) (im : Image) : State :=
  (im.ids.zip im.regions).foldl (fun (s : State) x =>
    let s := (s.namedCores x.2.2).foldl (fun (s : State) e =>
      (s.resetCore e.2).modCore e.2 fun c => c.setReg 0x100604 0) s
    (s.releaseTables x.1).setRegion x.1 Region.reset) s

/-- A checked image loaded: what it replaces goes, each of its regions is configured, and with ROUTE entries a flip
follows (R222). -/
def State.loadNow (s : State) (req : Nat × Nat) (im : Image) : State :=
  let areas := (im.regions.flatMap fun r => (s.namedCores r.2).map fun e => siteArea e.2).eraseDups
  let s := (s.replaced im).foldl (fun (s : State) id => s.clearOld id) ((s.setBusy req).abortXchk areas)
  let xs := (List.range im.regions.length).zip (im.ids.zip (im.regions.map (·.2)))
  match xs.foldl (fun (a : State ⊕ (Nat × Nat × State)) x =>
    match a with
    | .inr e => .inr e
    | .inl s => match s.loadRegion im x with
      | .inl s => .inl s
      | .inr e => .inr (e.1, e.2, s)) (.inl s) with
  | .inr (status, detail, s) => (s.unload im).complete req status detail
  | .inl s =>
    if im.ids.any fun id => (s.region id).routes != [] then
      s.askFlip { req := some req, why := .load im.ids im.mark, check := true }
    else
      let s := im.ids.foldl (fun (s : State) id => s.setRegion id { s.region id with st := 1 }) s
      (s.noteImage im.mark).complete req stOK 0 (BitVec.ofNat 128 im.ids.length)

/-- DRAIN_FLAG set in a region's cores: at once in a routed region, by RGN_DRAIN_AT in a scheduled one (R237). -/
def State.drainCores (s : State) (id : Nat) : State :=
  let r := s.region id
  let at_ := s.clk.gcc.toNat + 2 ^ 22
  (s.regionCores id).foldl (fun (s : State) e =>
    let s := s.modCore e.2 fun c =>
      c.closeChans fun w => wfld w 0 2 != 0 && !(wbit w 2) && wbit w 4
    if r.sched then
      (s.modCore e.2 fun c => c.setReg 0x100618 (BitVec.ofNat 32 at_)).armDrain e.2 (BitVec.ofNat 32 (at_ >>> 32))
    else s.modCore e.2 fun c => c.setFlags (1 <<< r.drainFlag.toNat)) s

/-- A RUNNING region begins to drain (R237). -/
def State.beginDrain (s : State) (id : Nat) (req : Option (Nat × Nat)) : State :=
  (s.setRegion id { s.region id with st := 3, drainReq := req }).drainCores id

/-- The domes of the cores an image names. -/
def State.imageDomes (s : State) (im : Image) : List Nat :=
  (im.regions.flatMap fun r => (s.namedCores r.2).map fun e => siteDome e.2).eraseDups

/-- A load whose image the host has delivered (R221, R240). -/
def State.loadBytes (s : State) (req : Nat × Nat) (reconf : Nat) (b : List Byte) : State :=
  match s.checkImage b reconf with
  | .inr e => s.complete req e.1 (e.2 <<< 8)
  | .inl im =>
    s.wakeFor (s.imageDomes im) fun s =>
    if reconf ≠ 1 ∨ s.replaced im = [] then s.loadNow req im
    else
      (s.replaced im).foldl (fun (s : State) id =>
        let s := s.setRegion id { s.region id with reload := some (req.1, req.2, b) }
        if (s.region id).st = 2 then s.beginDrain id none else s) (s.setBusy req)

/-- LOAD_IMAGE (R221, R222, R240, R332). -/
def loadImage (r : Fin 256) (j : Nat) (h : HostRead) (s : State) : State :=
  s.hostOp r j 4 fun req d s =>
    if !s.ready then s.complete req stNOTREADY
    else match h with
      | .failed _ code => s.complete req stWINDOW code.toNat
      | .data b => if b.length = d.f 0x10 8 then s.loadBytes req (d.bits 0x18 0 2) b else s

/-- The queues of a region's cores that must run empty before it is loaded anew (R240). -/
def State.runEmpty (s : State) (id : Nat) : Bool :=
  (s.regionCores id).all fun e =>
    let c := s.core e.2
    c.net.rtx == [] && (List.range 16).all fun n => (c.tq n).cnt == 0

/-- RECONF_DRAIN_WAIT_END: a region's wait ends; with the last of its load the load proceeds (R240). -/
def reconfWaitEnd (rgn : Nat) (s : State) : State :=
  let r := s.region rgn
  match r.reload with
  | none => s
  | some (ring, uid, b) =>
    if r.live || !(s.runEmpty rgn) then s
    else
      let s := s.setRegion rgn { r with reload := none }
      if (s.descOf (ring, uid)).isNone || s.rgns.tbl.any fun x => match x.2.reload with
          | some y => y.1 == ring && y.2.1 == uid
          | none => false then s
      else match s.checkImage b 1 with
        | .inr e => s.complete (ring, uid) e.1 (e.2 <<< 8)
        | .inl im => s.loadNow (ring, uid) im

/-- LOAD_IMAGE (R221). -/
def execLoadImage (r : Fin 256) (j : Nat) (h : HostRead) (s : State) : Res := .next (loadImage r j h s)

/-- RECONF_DRAIN_WAIT_END (R240). -/
def execReconfDrainWaitEnd (rgn : BitVec 16) (s : State) : Res := .next (reconfWaitEnd rgn.toNat s)

end Sys2Proof.Machine
end

