-- ==== Sys2Proof/Machine/Region.lean ====
section
/-!
DEFINITION. A region's life: start and launch, stop, drain, scan-out and scan-in; the switch store, scheduled flits
and bypass chains (R172, R208, R209, R215, R226-R231, R236-R239, R242, R285).
-/

namespace Sys2Proof.Machine

/-- A launch armed in every core of a region, 2^`m` cycles ahead (R230). -/
def State.armRegion (s : State) (id m : Nat) : State :=
  let at_ := s.clk.gcc.toNat + 2 ^ m
  (s.regionCores id).foldl (fun (s : State) e =>
    (s.modCore e.2 fun c => c.setReg 0x100610 (BitVec.ofNat 32 at_)).armLaunch e.2 (BitVec.ofNat 32 (at_ >>> 32)))
    (s.setRegion id { s.region id with marginLog := m })

/-- REGION_START (R230, R231). -/
def regionStart (r : Fin 256) (j : Nat) (s : State) : State :=
  s.hostOp r j 5 fun req d s =>
    let id := d.f 8 2
    let x := s.region id
    if !s.ready || x.st != 1 then s.complete req stNOTREADY
    else if x.startReq.isSome then s.complete req stBUSY
    else if !(s.placed x) then s.complete req stSTALE
    else
      let s := (s.setBusy req).setRegion id { x with startReq := some req, sealed := x.sealBit }
      s.armRegion id 22

/-- A launch given up: every core of the region disarmed (R230). -/
def State.disarm (s : State) (id : Nat) : State :=
  (s.regionCores id).foldl (fun (s : State) e => s.modCore e.2 fun c => { c with launch := false }) s

/-- A core armed too late: the region is armed anew with twice the margin, or its start times out (R230). -/
def State.lateCore (s : State) (id : Nat) : State :=
  let r := s.region id
  match r.startReq with
  | none => s
  | some req =>
    if r.st ≠ 1 then s
    else
      let s := s.disarm id
      if 26 < r.marginLog + 1 then
        (s.setRegion id { r with startReq := none, sealed := false }).complete req stTIMEOUT
      else s.armRegion id (r.marginLog + 1)

/-- RGN_LAUNCH_ARM: RGN_LAUNCH_HI written (R230). -/
def rgnLaunchArm (k : SiteId) (v : Word) (s : State) : State :=
  let s := s.armLaunch k v
  let c := s.core k
  if wbit (c.reg 0x100608) 6 then s.lateCore c.rgnId else s

/-- A core begins at its START_CTX; one that is not READY raises CTX, unless every context is OFF or HALTED, so that
the core is done (R129, R133, R136; DEDUCED, log entry 16). -/
def State.beginCore (s : State) (k : SiteId) : State :=
  let c := s.core k
  let n := wfld (c.reg 0x100004) 0 3
  if (c.ctxAt n).st = 1 then s.setCore k (c.startCtx n)
  else if (List.range 8).all fun i => (c.ctxAt i).st == 0 || (c.ctxAt i).st == 3 then s
  else (s.setCore k { c with seqr := { c.seqr with cur := BitVec.ofNat 3 n } }).seqException k 4 0 0

/-- A core as its launch starts it: its switch store from its start, its scheduled positions cleared, RUNNING set and the
arm taken back (R227, R230). -/
def Core.launchNow (c : Core) : Core :=
  ({ c with launch := false, swPos := wfld (c.reg 0x100640) 0 10, schPos := [] } : Core).setReg 0x100608
    (setBit (setBit (c.reg 0x100608) 4 true) 6 false)

/-- REGION_LAUNCH: an armed core whose cycle has come begins at its START_CTX (R227, R230). -/
def regionLaunch (k : SiteId) (s : State) : State :=
  let c := s.core k
  let id := c.rgnId
  let r := s.region id
  let due := if r.sched then decide (c.launchAt = s.clk.gcc.toNat) else true
  if !c.launch || !due || !(r.st == 1 || r.live) || (r.startReq.isNone && r.st == 1) then s
  else
    let s := if r.st = 1 then s.setRegion id { r with st := 2 } else s
    ((s.setCore k c.launchNow).beginCore k).checkDone k

/-- DRAIN_FLAG_CYCLE: the armed drain cycle sets the drain flag (R237). -/
def drainFlagCycle (k : SiteId) (s : State) : State :=
  let c := s.core k
  if c.drainArm && decide (c.drainAt = s.clk.gcc.toNat) then
    s.setCore k { c.setFlags (1 <<< wfld (c.reg 0x100648) 0 4) with drainArm := false }
  else s

/-- REGION_STOP (R215, R236, R245). -/
def regionStop (r : Fin 256) (j : Nat) (s : State) : State :=
  s.hostOp r j 6 fun req d s =>
    let id := d.f 8 2
    let x := s.region id
    if !s.ready || x.st ≤ 1 then s.complete req stNOTREADY
    else if !x.live then s.complete req stOK
    else if x.stopReq.isSome then s.complete req stBUSY
    else
      let scan := x.scanReq.map fun q => (q.1, q.2.1)
      let s := (s.setBusy req).setRegion id { x with stopReq := some req, scanReq := none, late := [] }
      ((s.completeOpt scan stNOTREADY).sendHalt id).stopCheck id

/-- REGION_DRAIN (R237). -/
def regionDrain (r : Fin 256) (j : Nat) (s : State) : State :=
  s.hostOp r j 7 fun req d s =>
    let id := d.f 8 2
    if !s.ready || (s.region id).st != 2 || (s.region id).scanReq.isSome then s.complete req stNOTREADY
    else (s.setBusy req).beginDrain id (some req)

/-- REGION_SCAN_OUT (R238). -/
def regionScanOut (r : Fin 256) (j : Nat) (s : State) : State :=
  s.hostOp r j 8 fun req d s =>
    let id := d.f 8 2
    let x := s.region id
    if x.conf && x.sched then s.complete req stDENIED
    else if !s.ready || x.st != 2 then s.complete req stNOTREADY
    else if x.scanReq.isSome || x.stopReq.isSome then s.complete req stBUSY
    else
      let s := (s.setBusy req).setRegion id { x with scanReq := some (req.1, req.2, BitVec.ofNat 64 (d.f 0x10 8)), late := [] }
      s.sendHalt id

/-- A core that a scan's halt has reached and that has run its engines and its retransmit buffer empty (R238). -/
def Core.quiet (c : Core) : Bool := c.quiesce && c.halted && c.net.rtx.isEmpty

/-- The records of a region's cores written: the code met and the number written (R238). -/
def State.writeRecords (s : State) (faddr : DWord) (late : List SiteId) : List ((Nat × SiteId) × Nat) → Byte × Nat → State × Byte × Nat
  | [], a => (s, a)
  | x :: xs, a =>
    let quiet := !(late.contains x.1.2)
    match (s.core x.1.2).record x.1.1 quiet with
    | (c, b) =>
      let c := c.setReg 0x100608 (setBit (c.reg 0x100608) 8 quiet)
      match (s.putCore x.1.2 c).fabWrite entCupola (faddr + BitVec.ofNat 64 (recordLen * x.2)) b with
      | (s, code, _) => if code = rOK then s.writeRecords faddr late xs (rOK, a.2 + 1) else (s, code, a.2)

/-- A scan ends: SCANNED once every core is quiet or given up on and its record is written; a write that must wait is
made later (R238). -/
def State.scanCheck (s : State) (id : Nat) : State :=
  let r := s.region id
  match r.scanReq with
  | none => s
  | some (ring, uid, faddr) =>
    let q := (ring, uid)
    let cores := s.regionCores id
    if !r.live then (s.setRegion id { r with scanReq := none, late := [] }).complete q stNOTREADY
    else if !(cores.all fun e => r.late.contains e.2 || (s.core e.2).quiet) then s
    else match s.writeRecords faddr r.late (cores.zip (List.range cores.length)) (rOK, 0) with
      | (t, code, n) =>
        if resent code then s
        else
          let end_ (t : State) (st : Nat) : State :=
            let t := t.leaveRunning id st
            t.setRegion id { t.region id with scanReq := none, late := [] }
          let t := cores.foldl (fun (t : State) e => t.modCore e.2 fun c => { c with quiesce := false }) t
          let res := BitVec.ofNat 128 n
          if code ≠ rOK then (end_ t 5).complete q (fabStatus code) (fabDetail code) res
          else (end_ t 7).complete q (if r.late = [] then stOK else stPARTIAL) 0 res

/-- Every scan under way goes on as far as it can. -/
def State.scanAll (s : State) : State :=
  s.rgns.tbl.foldl (fun (s : State) x => if x.2.scanReq.isSome then s.scanCheck x.1 else s) s

/-- SCAN_QUIESCE_TIMEOUT: a core that is not quiet is stopped and given up on (R238). -/
def scanTimeout (k : SiteId) (s : State) : State :=
  let c := s.core k
  let id := c.rgnId
  let r := s.region id
  if r.scanReq.isSome && r.live && !c.quiet && !(r.late.contains k) then
    let s := s.setCore k { c.stopEngines.stopSeq with quiesce := true }
    (s.setRegion id { r with late := r.late ++ [k] }).scanCheck id
  else s

/-- REGION_SCAN_IN (R239). -/
def regionScanIn (r : Fin 256) (j : Nat) (s : State) : State :=
  s.hostOp r j 9 fun req d s =>
    let id := d.f 8 2
    let x := s.region id
    let faddr : DWord := BitVec.ofNat 64 (d.f 0x10 8)
    if !s.ready || x.st != 1 || x.startReq.isSome then s.complete req stNOTREADY
    else
      let cores := s.regionCores id
      match s.fabRead entCupola faddr (recordLen * cores.length) with
      | (t, code, b) =>
        if resent code then s
        else if code ≠ rOK then t.complete req (fabStatus code) (fabDetail code)
        else
          let recs := (cores.zip (List.range cores.length)).map fun e => (e.1, slice b (recordLen * e.2) recordLen)
          if recs.any fun e => leAt e.2 0xC 4 != 1 then t.complete req stBADVER
          else if recs.any fun e => leAt e.2 0 4 != e.1.1 || leAt e.2 0x10 4 != 1 then
            (cores.foldl (fun (t : State) e => t.resetCore e.2) t).complete req stINTEGRITY
          else (recs.foldl (fun (t : State) e => t.modCore e.1.2 fun c => c.restore e.2) t).complete req stOK

/-- Whether a core's switch store runs (R227). -/
def State.switching (s : State) (k : SiteId) : Bool :=
  let c := s.core k
  let r := s.region c.rgnId
  r.live && r.sched && c.launched && wbit (c.reg 0x100640) 31

/-- SWITCH_WORD_ADVANCE: the next entry, LOOP after END (R227). -/
def switchAdvance (k : SiteId) (s : State) : State :=
  let c := s.core k
  if !(s.switching k) then s
  else
    let sw := c.reg 0x100640
    s.setCore k { c with swPos := if c.swPos = wfld sw 20 10 then wfld sw 10 10 else (c.swPos + 1) % 1024 }

/-- The codewords of a flit or chain word, decoded: the data, how many were corrected; none where one is
uncorrectable. Data symbols stand from bit 0, check symbols of codeword `i` from bit 512 + 16 i (R172). -/
def flitDecode (w : Nat) : List (Nat × Nat) → Option (Nat × Nat)
  | [] => some (0, 0)
  | (i, bits) :: r =>
    let d := fld w (128 * i) bits
    match eccDecode d (BitVec.ofNat 16 (fld w (512 + 16 * i) 16)), flitDecode w r with
    | .clean, some (x, n) => some (x + (d <<< (128 * i)), n)
    | .corrected y _, some (x, n) => if y < 2 ^ bits then some (x + (y <<< (128 * i)), n + 1) else none
    | _, _ => none

/-- The codewords of a V flit or a chain word, and of an S flit (R172). -/
def vWords : List (Nat × Nat) := [(0, 128), (1, 128), (2, 128), (3, 128)]
def sWords : List (Nat × Nat) := [(0, 64)]

/-- The place, in the register of the scheduled windows, of the number of the window for an input or an output (R227). -/
def schField (i : Nat) : Nat :=
  match i with
  | 0 => 4
  | 1 => 12
  | 2 => 8
  | _ => 16

/-- The next bytes of a window of the switch store: `i` is 0 and 1 for the V and S input, 2 and 3 for ejection (R227). -/
def Core.schSpan (c : Core) (i n : Nat) : Option (Nat × Core) :=
  let w := c.win (wfld (c.reg 0x10063C) (schField i) 4)
  if !(winValid w) then none
  else
    let p := Tbl.get 0 c.schPos i
    some (winBase w + p % (64 * winSize w), { c with schPos := Tbl.set 0 c.schPos i ((p + n) % (64 * winSize w)) })

/-- A flit taken up by the local output: its bytes go to the eject window (R227). -/
def Core.eject (c : Core) (sPlane : Bool) (b : List Byte) : Core :=
  match c.schSpan (if sPlane then 3 else 2) b.length with
  | some (a, c) => (c.sramWrite 4 a b).1
  | none => c

/-- A core with some of its outputs fed by an input in the present switch word: whether any is, whether the local one
is (R226). -/
def Core.feeds (c : Core) (sPlane : Bool) (input : Nat) : Bool × Bool :=
  let sel (o : Nat) : Nat := fld (c.switchW c.swPos).toNat ((if sPlane then 15 else 0) + 3 * o) 3
  ((List.range 5).any fun o => sel o == input, sel 4 == input)

/-- SCHEDULED_FLIT: a flit at a switch of a scheduled region, from a link or, where no link is named, from the input
window (R172, R208, R227). -/
def scheduledFlit (k : SiteId) (sPlane : Bool) (d : Option Dir) (w : BitVec 576) (s : State) : State :=
  let c := s.core k
  if !(s.switching k) || !(wbit (c.reg 0x10063C) sPlane.toNat) then s
  else
    let n := if sPlane then 8 else 64
    match d with
    | none =>
      let f := c.feeds sPlane 5
      if !f.1 then s
      else match c.schSpan (if sPlane then 1 else 0) n with
        | none => s
        | some (a, c) =>
          let b := memReads c.sram.data a n
          let r := c.sram.read a n
          let c := c.noteEcc 0 r.ce r.ue r.cw
          let b := if r.ue = 0 then r.bytes else b
          s.putCore k (if f.2 then c.eject sPlane b else c)
    | some d =>
      let f := c.feeds sPlane (1 + Dir.num d)
      match flitDecode w.toNat (if sPlane then sWords else vWords) with
      | none => (s.modCore k fun c => c.bump 0x100534 1).regionFault k 7 0
      | some (x, ce) =>
        let c := c.bump 0x100530 ce
        s.putCore k (if f.2 then c.eject sPlane (leBytes n x) else c)

/-- A word of a combiner chain: the running sum of sixteen elements (R285). -/
def State.chainWord (s : State) (k : SiteId) (b : List Byte) : State :=
  let c := s.core k
  match (List.range 8).find? fun m => c.cbState m == 1 && wbit (c.cb m 0) 5 with
  | none => s
  | some m =>
    if !(c.chainReady m) || !(c.cbUp m) then s
    else
      let r := c.round m
      let c := c.chainFold m (16 * r.n) (words 4 b |>.map fun x => BitVec.ofNat 32 x)
      let s := s.putCore k (c.setRound m { r with n := r.n + 1 })
      if 16 * (r.n + 1) < c.cbLen m then s else s.chainEnd k m

/-- BYPASS_CHAIN_WORD: a word at a site that taps its chain on that link (R209, R228, R285). -/
def bypassWord (k : SiteId) (d : Dir) (w : BitVec 576) (s : State) : State :=
  let c := s.core k
  let byp := c.reg 0x100644
  if c.rgnId = 0 ∨ !((c.taps 0).contains (Dir.num d)) then s
  else match flitDecode w.toNat vWords with
    | none => (s.modCore k fun c => c.bump 0x100534 1).regionFault k 7 0
    | some (x, ce) =>
      let s := s.modCore k fun c => c.bump 0x100530 ce
      let b := leBytes 64 x
      if wbit byp 8 then
        if (s.region c.rgnId).sched && c.engineIdle 3 && (c.acc_ 1).cur.isNone && c.landOk 1 && c.credits 1 != 0 then
          let at_ := (c.acc_ 1).sent
          (s.modCore k fun c =>
            (c.setAcc 1 { c.acc_ 1 with sent := at_ + 1 }).landSlots 1 [at_] b).pump k
        else s
      else s.chainWord k b

/-- GEN_BLOCK_EXPIRY (R242). -/
def genExpiry (g : Nat) (s : State) : State :=
  { s with rgns := { s.rgns with blocked := s.rgns.blocked &&& ~~~((1 : BitVec 8) <<< g) } }

/-- REGION_START (R230). -/
def execRegionStart (r : Fin 256) (j : Nat) (s : State) : Res := .next (regionStart r j s)

/-- RGN_LAUNCH_ARM (R230). -/
def execRgnLaunchArm (k : SiteId) (v : Word) (s : State) : Res := .next (rgnLaunchArm k v s)

/-- REGION_LAUNCH (R230). -/
def execRegionLaunch (k : SiteId) (s : State) : Res := .next (regionLaunch k s)

/-- RGN_DRAIN_AT_ARM (R237). -/
def execRgnDrainAtArm (k : SiteId) (v : Word) (s : State) : Res := .next (s.armDrain k v)

/-- DRAIN_FLAG_CYCLE (R237). -/
def execDrainFlagCycle (k : SiteId) (s : State) : Res := .next (drainFlagCycle k s)

/-- REGION_STOP (R236). -/
def execRegionStop (r : Fin 256) (j : Nat) (s : State) : Res := .next (regionStop r j s)

/-- REGION_DRAIN (R237). -/
def execRegionDrain (r : Fin 256) (j : Nat) (s : State) : Res := .next (regionDrain r j s)

/-- REGION_SCAN_OUT (R238). -/
def execRegionScanOut (r : Fin 256) (j : Nat) (s : State) : Res := .next (regionScanOut r j s)

/-- SCAN_QUIESCE_TIMEOUT (R238). -/
def execScanQuiesceTimeout (k : SiteId) (s : State) : Res := .next (scanTimeout k s)

/-- REGION_SCAN_IN (R239). -/
def execRegionScanIn (r : Fin 256) (j : Nat) (s : State) : Res := .next (regionScanIn r j s)

/-- SWITCH_WORD_ADVANCE (R227). -/
def execSwitchWordAdvance (k : SiteId) (s : State) : Res := .next (switchAdvance k s)

/-- SCHEDULED_FLIT (R227). -/
def execScheduledFlit (k : SiteId) (sPlane : Bool) (d : Option Dir) (w : BitVec 576) (s : State) : Res :=
  .next (scheduledFlit k sPlane d w s)

/-- BYPASS_CHAIN_WORD (R209). -/
def execBypassChainWord (k : SiteId) (d : Dir) (w : BitVec 576) (s : State) : Res := .next (bypassWord k d w s)

/-- GEN_BLOCK_EXPIRY (R242). -/
def execGenBlockExpiry (g : Fin 8) (s : State) : Res := .next (genExpiry g s)

end Sys2Proof.Machine
end

