-- ==== Sys2Proof/Machine/Rings.lean ====
section
/-!
DEFINITION. The rings of the host interface: doorbells, fetching and starting descriptors, records and events posted,
ring and interface set-up, the PCIe link (R316, R318, R323-R330, R335-R338, R341, R343-R346, R440).
-/

namespace Sys2Proof.Machine

/-- A bit of ENG_ERR set (R343). -/
def State.engErr (s : State) (i : Nat) : State := s.setBar 0x10C (setBit (s.bar 0x10C) i true)

/-- DOORBELL_CMD: a ring's tail (R326). -/
def doorbellCmd (r : Nat) (v : Word) (s : State) : State :=
  let c := s.bar (cmdCfg r)
  if !(cfgEn c) then s.engErr 3
  else if cfgSize c ≤ v.toNat then s.engErr 2
  else s.setRing r { s.ring r with tail := v.toNat }

/-- DOORBELL_CPL: the host's head of a completion ring (R325, R326). -/
def doorbellCpl (q : Nat) (v : Word) (s : State) : State :=
  let c := s.bar (cplCfg q)
  if !(cfgEn c) then s.engErr 3
  else if cfgSize c ≤ v.toNat then s.engErr 2
  else s.setCpl q { s.cpl q with head := v.toNat }

/-- A ring that has a descriptor to fetch (R324, R327). -/
def State.fetchable (s : State) (r : Nat) : Bool :=
  let x := s.ring r
  cfgEn (s.bar (cmdCfg r)) && !x.err && x.head != x.tail && !s.boot.warm && s.host.pcie.up

/-- The ring whose turn it is (R327). -/
def State.nextRing (s : State) : Option Nat :=
  ((List.range 256).map fun i => (s.host.next + i) % 256).find? fun r => s.fetchable r

/-- DESCRIPTOR_FETCH: the next descriptor of the ring whose turn it is, or what its fetch failed with (R327, R329). -/
def descriptorFetch (r : Fin 256) (h : HostRead) (s : State) : State :=
  if s.nextRing ≠ some r.val then s
  else
    let x := s.ring r
    let s := { s with host := { s.host with next := (r.val + 1) % 256 } }
    match h with
    | .failed _ code =>
      ((s.setRing r { x with err := true }).engErr 6).queueRecord (s.cplOf r)
        (cplRecord r 0 x.head 0xFFFFFFFF stWINDOW code.toNat 0)
    | .data b =>
      let head := (x.head + 1) % cfgSize (s.bar (cmdCfg r))
      let d : Desc := { w := BitVec.ofNat 512 (leNat (padTo 64 b)), head := BitVec.ofNat 16 head, uid := x.uid, busy := false }
      s.setRing r { x with head := head, uid := x.uid + 1, fetched := x.fetched ++ [d] }

/-- The fields of a descriptor's body that its opcode lists: byte and bits (R332); none for an opcode that is not
assigned. -/
def bodyFields : Nat → Option (List (Nat × Nat))
  | 0x01 => some []
  | 0x02 => some [(0x08, 64), (0x10, 64), (0x18, 32)]
  | 0x03 => some [(0x08, 64), (0x10, 64), (0x18, 32)]
  | 0x04 => some [(0x08, 64), (0x10, 64), (0x18, 2)]
  | 0x05 => some [(0x08, 16)]
  | 0x06 => some [(0x08, 16)]
  | 0x07 => some [(0x08, 16)]
  | 0x08 => some [(0x08, 16), (0x10, 64)]
  | 0x09 => some [(0x08, 16), (0x10, 64)]
  | 0x0A => some [(0x08, 11), (0x0A, 16), (0x0C, 32), (0x10, 64), (0x18, 32)]
  | 0x0B => some [(0x08, 8)]
  | 0x0C => some [(0x08, 64)]
  | 0x11 => some [(0x08, 4), (0x0A, 16), (0x0C, 19), (0x10, 16), (0x18, 64)]
  | 0x12 => some [(0x08, 1)]
  | 0x13 => some [(0x08, 64), (0x10, 32)]
  | 0x14 => some [(0x08, 64), (0x10, 32)]
  | 0x15 => some [(0x08, 8), (0x0C, 32), (0x10, 32)]
  | 0x16 => some [(0x08, 64), (0x10, 64), (0x18, 64)]
  | 0x17 => some [(0x08, 19), (0x10, 64)]
  | 0x18 => some [(0x08, 3), (0x0C, 16)]
  | 0x19 => some [(0x08, 2), (0x10, 64), (0x18, 32)]
  | 0x1A => some [(0x08, 2)]
  | 0x1B => some [(0x08, 64), (0x10, 16), (0x18, 64), (0x20, 16)]
  | 0x1C => some []
  | _ => none

/-- The kernels a cross-check runs (R410). -/
def kernelListed (k : Nat) : Bool := decide (1 ≤ k) && decide (k ≤ 6)

/-- The values of a TEST_REQUEST that its kind does not reserve (R332, R414, R417). -/
def testValues (d : Desc) : Bool :=
  let target := d.f 0xC 4
  let param := d.f 0x10 4
  match d.f 8 1 with
  | 1 => decide (target < 288) && decide (fld param 0 4 ≤ 8) && decide (fld param 4 4 ≤ 8)
      && kernelListed (fld param 8 8) && fld param 16 8 != 0 && param >>> 24 == 0
  | 2 => decide (target < 2 ^ 19) && decide (fld target 0 10 < 768) && decide (fld target 10 9 < 384) && decide (param < 4)
  | 3 => decide (target < 2 ^ 19) && decide (fld target 0 10 < 768) && decide (fld target 10 9 < 384) && decide (param < 4)
  | 4 => true
  | 5 => true
  | _ => false

/-- The values of a body that its table does not reserve (R332, R441). -/
def bodyValues (d : Desc) : Bool :=
  match d.f 0 1 with
  | 0x02 => d.f 0x18 4 != 0
  | 0x03 => d.f 0x18 4 != 0
  | 0x04 => d.bits 0x18 0 2 != 3
  | 0x11 => decide (d.bits 8 1 3 ≤ 4)
  | 0x15 => testValues d
  | 0x18 => decide (1 ≤ d.bits 8 0 3) && decide (d.bits 8 0 3 ≤ 4)
  | 0x19 => decide (d.bits 8 0 2 < 2)
  | 0x1A => decide (d.bits 8 0 2 < 2)
  | _ => true

/-- The status a descriptor completes with as it starts, if its header or body stops it: version, opcode, reserved
fields and values, an engine that is not READY (R328, R330, R437, R438). -/
def State.descStatus (s : State) (d : Desc) : Option Nat :=
  match bodyFields (d.f 0 1) with
  | none => some (if d.f 1 1 = 1 then stBADOPC else stBADVER)
  | some fs =>
    let mask := fs.foldl (fun m x => m ||| ((2 ^ x.2 - 1) <<< (8 * x.1))) (0x1FFFF + ((2 ^ 32 - 1) <<< 32))
    if d.f 1 1 ≠ 1 then some stBADVER
    else if !(maskOk d.w.toNat mask) || !(bodyValues d) then some stBADRSVD
    else if !s.ready && !([0x01, 0x19, 0x1A, 0x1B].contains (d.f 0 1)) then some stNOTREADY
    else none

/-- The opcodes the cupola runs, whose descriptors wait while its firmware changes (R448). -/
def cupolaRun (opc : Nat) : Bool :=
  (decide (4 ≤ opc) && decide (opc ≤ 9)) || opc == 0x0C || opc == 0x11 || opc == 0x12 || opc == 0x13 || opc == 0x14
    || opc == 0x15 || opc == 0x17

/-- The firmware of the cupola is changing (R448). -/
def State.cupolaBusy (s : State) : Bool :=
  match s.fw.handover with
  | some (t, _) => t == 0
  | none => false

/-- A cupola-run descriptor that has started is not complete, which a handover waits for (R448). -/
def State.cupolaRuns (s : State) : Bool := s.host.cmd.any fun x => x.2.started.any fun d => cupolaRun (d.f 0 1)

/-- The handover to the new cupola firmware has begun (R448). -/
def State.handingOver (s : State) : Bool := s.cupolaBusy && !s.cupolaRuns

/-- DESCRIPTOR_START: the first waiting descriptor of a ring starts, or completes with what stops it (R327, R328). -/
def descriptorStart (r : Fin 256) (s : State) : State :=
  let x := s.ring r
  match x.fetched with
  | [] => s
  | d :: rest =>
    if (d.bits 2 0 1 == 1 && x.started != []) || decide (64 ≤ x.started.length)
        || decide (64 ≤ (s.cpl (s.cplOf r)).waiting.length) || s.boot.warm
        || (s.cupolaBusy && cupolaRun (d.f 0 1)) then s
    else
      let s := s.setRing r { x with fetched := rest, started := x.started ++ [d] }
      match s.descStatus d with
      | some st => s.complete (r.val, d.uid) st
      | none => s

/-- RECORD_POST: the first waiting record of a completion ring, once no event record waits for that ring (R325, R327,
R337, R338). -/
def recordPost (q : Nat) (s : State) : State :=
  let x := s.cpl q
  let evFirst := s.eventsOpen && wfld (s.bar 0x20004) 0 6 == q && s.nextEvent.isSome
  match x.waiting with
  | [] => s
  | rec_ :: rest =>
    if !(s.cplRoom q) || evFirst then s
    else ((s.setCpl q { x with waiting := rest }).putRecord q rec_).raiseVec (wfld (s.bar (cplCfg q)) 0 11)

/-- Whether any ring is enabled (R323). -/
def State.ringsOn (s : State) : Bool :=
  (List.range 256).any (fun r => cfgEn (s.bar (cmdCfg r))) || (List.range 64).any fun q => cfgEn (s.bar (cplCfg q))

/-- ENG_HIF_VER_WRITE (R323, R343). -/
def hifVerWrite (v : Word) (s : State) : State :=
  if s.ringsOn then s
  else
    let ok := decide (wfld v 16 8 ≤ 1) && decide (1 ≤ wfld v 8 8)
    ((s.setBar 0x104 (v &&& 0xFFFFFF)).setBar 0x108 (if ok then 0x80000100 else 0)).setBar 0x100 (setBit (s.bar 0x100) 2 ok)

/-- Whether a configuration word may enable its ring (R345). -/
def State.mayEnable (s : State) (log2 : Nat) : Bool := wbit (s.bar 0x108) 31 && decide (2 ≤ log2) && decide (log2 ≤ 16)

/-- CMD_CFG_WRITE (R327, R345). -/
def cmdCfgWrite (r : Nat) (v : Word) (s : State) : State :=
  s.barAccess (cmdCfg r) fun s =>
    let old := s.bar (cmdCfg r)
    let log2 := if cfgEn old then wfld old 16 5 else wfld v 16 5
    let en := wbit v 31 && (cfgEn old || s.mayEnable log2)
    let s := s.setBar (cmdCfg r) (BitVec.ofNat 32 (wfld v 0 6 + (log2 <<< 16) + (en.toNat <<< 31)))
    if en then s.setRing r { s.ring r with err := false } else s

/-- CPL_CFG_WRITE (R325, R345). -/
def cplCfgWrite (q : Nat) (v : Word) (s : State) : State :=
  s.barAccess (cplCfg q) fun s =>
    let old := s.bar (cplCfg q)
    let log2 := if cfgEn old then wfld old 16 5 else wfld v 16 5
    let vec := if wfld v 0 11 ≤ 2015 then wfld v 0 11 else wfld old 0 11
    let en := wbit v 31 && (cfgEn old || s.mayEnable log2)
    let s := s.setBar (cplCfg q) (BitVec.ofNat 32 (vec + (log2 <<< 16) + (en.toNat <<< 31)))
    if en && !(cfgEn old) then s.setCpl q { s.cpl q with tail := 0, phase := true, head := 0 } else s

/-- GATED_ACCESS (R320). -/
def gatedAccess (off : Nat) (wr : Bool) (s : State) : State :=
  if !(s.gated off) then s
  else if wr then s.gatedWrite off
  else { s with host := { s.host with abort := true, last := [] } }

/-- DEBUG_WINDOW_ACCESS (R322). -/
def debugAccess (off : Nat) (a : DebugAccess) (s : State) : State :=
  let addr := (s.bar 0x128 ++ s.bar 0x124) + BitVec.ofNat 64 off
  let fails (s : State) : State := { s with host := { s.host with abort := true, last := [] } }
  match a with
  | .read n =>
    if !(wbit (s.bar 0x120) 0) then fails s
    else match s.fabRead entHost addr n with
      | (t, code, b) =>
        if code = rOK then { t with host := { t.host with abort := false, last := b } } else fails (t.engErr 5)
  | .write b =>
    if !(wbit (s.bar 0x120) 0) then s.engErr 4
    else match s.fabWrite entHost addr b with
      | (t, code, _) => if code = rOK then t else t.engErr 5

/-- A window read in flight answered (R333). -/
def State.answerRead (s : State) (p : Packet) (code : Byte) (b : List Byte) : State :=
  s.respond p.dsite 0x7F000 p tRD_RESP code p.seq p.tag b

/-- The PCIe function reset: its rings, events, MSI-X table, windows and GATE_EN; window reads in flight are answered
UNCORR. Order numbers go on (R341, R344, R440). -/
def State.functionReset (s : State) : State :=
  let s := s.host.reads.foldl (fun (s : State) x => s.answerRead x.2 rUNCORR []) s
  let s := { s with regs := s.regs.filter fun x => !(decide (0x20000 ≤ x.1) && decide (x.1 < 0x30000)) }
  let h := s.host
  let s := { s with host := { h with
    cmd := h.cmd.foldl (fun (t : Tbl CmdRing) (x : Nat × CmdRing) => Tbl.set CmdRing.reset t x.1 { CmdRing.reset with uid := x.2.uid }) []
    cpl := [], events := [], evSeq := 0, next := 0, wins := [], reads := [], msix := [], pba := [] } }
  s.setBar 0x10004 0

/-- PCIE_LINK_DOWN (R341). -/
def linkDown (s : State) : State :=
  let s := s.functionReset
  { s with host := { s.host with pcie := { s.host.pcie with up := false, secure := false, keyNext := false } } }

/-- PCIE_RETRAIN: the link at some lanes and a rate in units of 8 Gb/s (R316, R336, R343, R430). -/
def pcieRetrain (lanes rate8 : Nat) (s : State) : State :=
  if !s.boot.portUp then s
  else
    let bad := decide (lanes < 16) || decide (rate8 < 16)
    let s := { s with host := { s.host with pcie := { s.host.pcie with up := true, lanes := lanes, rate8 := rate8 } } }
    let s := (s.setBar 0x100 (setBit (s.bar 0x100) 3 bad)).noteRisk 0 0 1
    if bad then s.raise 0x14 (evData (0x80 + ((lanes % 32) <<< 8) + ((rate8 % 256) <<< 16)) 0) else s

/-- DOORBELL_CMD (R326). -/
def execDoorbellCmd (r : Fin 256) (v : Word) (s : State) : Res := .next (doorbellCmd r v s)

/-- DOORBELL_CPL (R326). -/
def execDoorbellCpl (q : Fin 64) (v : Word) (s : State) : Res := .next (doorbellCpl q v s)

/-- DESCRIPTOR_FETCH (R327). -/
def execDescriptorFetch (r : Fin 256) (h : HostRead) (s : State) : Res := .next (descriptorFetch r h s)

/-- DESCRIPTOR_START (R327). -/
def execDescriptorStart (r : Fin 256) (s : State) : Res := .next (descriptorStart r s)

/-- RECORD_POST (R325). -/
def execRecordPost (q : Fin 64) (s : State) : Res := .next (recordPost q s)

/-- EVENT_POST (R337). -/
def execEventPost (s : State) : Res := .next (eventPost s)

/-- ENG_HIF_VER_WRITE (R323). -/
def execEngHifVerWrite (v : Word) (s : State) : Res := .next (hifVerWrite v s)

/-- CMD_CFG_WRITE (R345). -/
def execCmdCfgWrite (r : Fin 256) (v : Word) (s : State) : Res := .next (cmdCfgWrite r v s)

/-- CPL_CFG_WRITE (R345). -/
def execCplCfgWrite (q : Fin 64) (v : Word) (s : State) : Res := .next (cplCfgWrite q v s)

/-- GATED_ACCESS (R320). -/
def execGatedAccess (off : Nat) (wr : Bool) (s : State) : Res := .next (gatedAccess off wr s)

/-- DEBUG_WINDOW_ACCESS (R322). -/
def execDebugWindowAccess (off : Nat) (a : DebugAccess) (s : State) : Res := .next (debugAccess off a s)

/-- PCIE_LINK_DOWN (R341). -/
def execPcieLinkDown (s : State) : Res := .next (linkDown s)

/-- PCIE_RETRAIN (R316). -/
def execPcieRetrain (lanes rate8 : Nat) (s : State) : Res := .next (pcieRetrain lanes rate8 s)

/-- FUNCTION_LEVEL_RESET (R440). -/
def execFunctionLevelReset (s : State) : Res := .next s.functionReset

end Sys2Proof.Machine
end

