-- ==== Sys2Proof/Machine/Host.lean ====
section
/-!
DEFINITION. What the host's descriptors ask for: transfers, windows, multicast groups, table entries, a core's
synchronisation state (R192, R205, R207, R293, R299, R331-R334).
-/

namespace Sys2Proof.Machine

/-- HOST_NOP (R332). -/
def hostNop (r : Fin 256) (j : Nat) (s : State) : State := s.hostOp r j 1 fun req _ s => s.complete req stOK

/-- A transfer ends: its status, the code it met, the bytes moved (R331). -/
def State.endXfer (s : State) (req : Nat × Nat) (code : Byte) (moved : Nat) : State :=
  s.complete req (fabStatus code) (fabDetail code) (BitVec.ofNat 128 (moved % 2 ^ 32))

/-- DMA_H2D; a target that is busy or behind a hole makes it wait (R331, R332). -/
def dmaH2d (r : Fin 256) (j : Nat) (h : HostRead) (s : State) : State :=
  s.hostOp r j 2 fun req d s =>
    match h with
    | .failed got code =>
      if d.f 0x18 4 ≤ got.length then s
      else match s.fabWrite entHost (BitVec.ofNat 64 (d.f 0x10 8)) got with
        | (t, c, n) =>
          if resent c then s
          else if c ≠ rOK then t.endXfer req c n
          else t.complete req stWINDOW code.toNat (BitVec.ofNat 128 n)
    | .data b =>
      if b.length ≠ d.f 0x18 4 then s
      else match s.fabWrite entHost (BitVec.ofNat 64 (d.f 0x10 8)) b with
        | (t, code, n) => if resent code then s else t.endXfer req code n

/-- DMA_D2H (R331, R332). -/
def dmaD2h (r : Fin 256) (j : Nat) (s : State) : State :=
  s.hostOp r j 3 fun req d s =>
    match s.fabRead entHost (BitVec.ofNat 64 (d.f 0x10 8)) (d.f 0x18 4) with
    | (t, code, b) => if resent code then s else (t.hostWrite (d.f 8 8) b).endXfer req code b.length

/-- A host window (R333). -/
def State.window (s : State) (i : Nat) : Window := Tbl.get Window.reset s.host.wins i

/-- A host window set. -/
def State.setWindow (s : State) (i : Nat) (w : Window) : State :=
  { s with host := { s.host with wins := Tbl.set Window.reset s.host.wins i w } }

/-- OPEN_WINDOW (R333). -/
def openWindow (r : Fin 256) (j : Nat) (s : State) : State :=
  s.hostOp r j 0x0A fun req d s =>
    let i := d.f 8 1
    let off := d.f 0xC 4
    let len := d.f 0x18 4
    let ha := d.f 0x10 8
    if off % 4096 ≠ 0 ∨ len % 4096 ≠ 0 ∨ ha % 4096 ≠ 0 ∨ len = 0 ∨ 2 ^ 32 < off + len then s.complete req stBADRSVD
    else if (s.window i).open_ then s.complete req stBUSY
    else if (List.range 256).any fun n =>
        let w := s.window n
        w.open_ && decide (off < w.offset + w.len) && decide (w.offset < off + len) then s.complete req stDENIED
    else
      (s.setWindow i { open_ := true, rd := d.bits 9 0 1 == 1, wr := d.bits 9 1 1 == 1, anySrc := d.bits 9 2 1 == 1
                       rgn := BitVec.ofNat 16 (d.f 0xA 2), offset := off, len := len, haddr := BitVec.ofNat 64 ha
                       busy := 0, closing := none }).complete req stOK

/-- CLOSE_WINDOW (R333). -/
def closeWindow (r : Fin 256) (j : Nat) (s : State) : State :=
  s.hostOp r j 0x0B fun req d s =>
    let i := d.f 8 1
    let w := s.window i
    if !w.open_ || w.closing.isSome then s.complete req stCLOSED
    else if w.busy = 0 then (s.setWindow i Window.reset).complete req stOK
    else (s.setBusy req).setWindow i { w with closing := some req }

/-- HOST_WINDOW_REQUEST: a request at the host endpoint (R176, R333). -/
def windowRequest (p : Packet) (s : State) : State :=
  let k := p.dsite
  if faEngine p.dest ≠ s.ownId ∨ faM p.dest ∨ faEpid p.dest ≠ 0x7F000 then s
  else
    let s := s.land k (.inl p)
    if p.aborted || !(knownType p.type) || isResponse p.type || p.type == tMC_WR then s.dropAt k
    else s.ioCheck k p fun s =>
      let off := faOff p.dest
      if p.type = tRD_REQ then
        match s.windowFor off p.bytes.toNat p.srcEngine.toNat p.srcEpid.toNat false with
        | none => s.nakFrom k p rDENIED
        | some i =>
          let w := s.window i
          let s := s.setWindow i { w with busy := w.busy + 1 }
          { s with host := { s.host with reads := s.host.reads ++ [(i, p)] } }
      else if p.type = tWR then
        match s.windowFor off p.payload.length p.srcEngine.toNat p.srcEpid.toNat true with
        | none => s.nakFrom k p rDENIED
        | some i => (s.hostWrite (s.windowAddr i off) p.payload).ackNow k p
      else s.nakFrom k p rBADOFF

/-- PCIE_READ_COMPLETION: the `n`-th window read in flight (R318, R333). -/
def readCompletion (n : Nat) (h : HostRead) (s : State) : State :=
  match s.host.reads[n]? with
  | none => s
  | some (i, p) =>
    let s := { s with host := { s.host with reads := s.host.reads.eraseIdx n } }
    let s := match h with
      | .data b => s.answerRead p rOK (padTo p.bytes.toNat b)
      | .failed _ _ => s.answerRead p rUNCORR []
    let w := s.window i
    let s := s.setWindow i { w with busy := w.busy - 1 }
    match w.closing with
    | some req => if w.busy ≤ 1 then (s.setWindow i Window.reset).complete req stOK else s
    | none => s

/-- MCAST_GROUP_SET (R207, R334). -/
def mcastGroupSet (r : Fin 256) (j : Nat) (h : HostRead) (s : State) : State :=
  s.hostOp r j 0x0C fun req _ s =>
    s.gateOp 3 req fun s =>
      match h with
      | .failed _ code => s.complete req stWINDOW code.toNat
      | .data b =>
        match groupRec b with
        | none => s.complete req stBADRSVD
        | some (g, _) =>
          if g.rsv then s.complete req stBADRSVD
          else if g.group = 0x3FFF then s.complete req stDENIED
          else if !g.ok then s.complete req stINTEGRITY
          else
            let sites := s.memberSites g
            if sites.any fun k => match k with
                | some k => s.fenced k
                | none => true then s.complete req stFENCED
            else match s.fab.coreSite s.curVer g.root with
              | none => s.complete req stFENCED
              | some root =>
                match s.installGroup g.group root (sites.filterMap fun k => k) with
                | .inl s => s.complete req stOK
                | .inr e => s.complete req e.1 e.2

/-- The entries of a table that TABLE_WRITE writes, and their length in bytes (R332). -/
def tableLen : Nat → Nat
  | 0 => 6144
  | 1 => 66
  | 2 => 16384
  | _ => 128
def entryBytes : Nat → Nat
  | 0 => 4
  | 1 => 16
  | 2 => 4
  | _ => 8

/-- An entry of a table carries no reserved bit or value (R185-R187, R189). -/
def entryOk (table e : Nat) : Bool :=
  match table with
  | 0 => fld e 25 6 == 0 && (decide (fld e 19 6 < 47) || fld e 19 6 == 63)
  | 1 => fld e 30 1 == 0 && fld e 32 32 == 0
  | 2 => fld e 19 12 == 0
  | _ => excOk e

/-- An entry written into a version (R192, R332). -/
def State.putEntry (s : State) (v : Bool) (table : Nat) (k : SiteId) (i e : Nat) : State :=
  match table with
  | 0 => { s with fab := s.fab.setCore v i (BitVec.ofNat 32 e) }
  | 1 => { s with fab := s.fab.setEndpoint v i (BitVec.ofNat 128 e) }
  | 2 => { s with fab := { s.fab with group := Tbl.set 0 s.fab.group (verNum v * 16384 + i) (BitVec.ofNat 32 e) } }
  | _ =>
    let r := s.router k
    s.setRouter k { r with exc := Tbl.set 0 r.exc (verNum v * 128 + i) (BitVec.ofNat 64 e) }

/-- TABLE_WRITE with its checks in order (R192, R332). -/
def tableWrite (r : Fin 256) (j : Nat) (h : HostRead) (s : State) : State :=
  s.hostOp r j 0x11 fun req d s =>
    s.gateOp 3 req fun s =>
      let v := d.bits 8 0 1 == 1
      let table := d.bits 8 1 3
      let count := d.f 0xA 2
      let x := d.bits 0xC 0 10
      let y := d.bits 0xC 10 9
      let index := d.f 0x10 2
      let n := entryBytes table
      if table < 3 ∧ (x ≠ 0 ∨ y ≠ 0) then s.complete req stBADRSVD
      else if table = 4 then s.complete req stDENIED
      else match h with
        | .failed _ code => s.complete req stWINDOW code.toNat
        | .data b =>
          let es := (List.range count).map fun i => leAt b (n * i) n
          if b.length ≠ n * count then s
          else if !(es.all fun e => entryOk table e) then s.complete req stBADRSVD
          else if count = 0 ∨ tableLen table < index + count ∨ (table = 3 ∧ (767 < x ∨ 383 < y)) then
            s.complete req stINTEGRITY
          else if v = s.curVer ∨ wbit s.epochReg 3 then s.complete req stSTALE
          else if table = 3 ∧ !(s.siteOn (mkSite x y)) then s.complete req stFENCED
          else
            let s := (es.zip (List.range count)).foldl (fun (s : State) e =>
              s.putEntry v table (mkSite x y) (index + e.2) e.1) s
            (s.setResult 0).complete req stOK

/-- Bytes of a core's SRAM read without any effect; none where the bank answers BUSY or a codeword is bad (R293). -/
def State.peek (s : State) (k : SiteId) (off n : Nat) : Option (List Byte) :=
  if s.sramBusy k off n || decide (0x40000 < off + n) then none
  else
    let r := (s.core k).sram.read off n
    if r.ue = 0 then some r.bytes else none

/-- A channel's entry of the peek record, and whether a bank has refused (R293). -/
def State.peekChan (s : State) (k : SiteId) (n : Nat) : List Byte × Bool :=
  let c := s.core k
  let desc := le4 ((List.range 10).map fun i => (c.ch n (4 * i)).toNat)
  if c.chState n ≠ 1 ∨ c.chSend n then (padTo 64 desc, false)
  else
    let st := s.peek k (c.ch n 0x14).toNat 4
    let size := wfld (c.ch n 0x10) 0 11
    let hd := s.peek k ((c.ringOf n).1 + 64 * ((c.ch n 0x20).toNat % size)) 8
    (desc ++ padTo 8 (st.getD []) ++ padTo 8 (hd.getD []) ++ leBytes 8 (st.isSome.toNat + 2 * hd.isSome.toNat),
      st.isNone || hd.isNone)

/-- A token queue's entry of the peek record, and whether a bank has refused (R293). -/
def State.peekTok (s : State) (k : SiteId) (n : Nat) : List Byte × Bool :=
  let c := s.core k
  let q := c.tq n
  let hd := if q.cnt = 0 then none else s.peek k (c.tqSlot n q.rd) 4
  (le4 [(c.tqCfg n).toNat, q.cnt] ++ padTo 4 (hd.getD []) ++ leBytes 4 hd.isSome.toNat, q.cnt != 0 && hd.isNone)

/-- The record of QUEUE_PEEK, and whether some entry is missing (R293). -/
def State.peekRecord (s : State) (k : SiteId) (epid : Nat) : List Byte × Bool :=
  let c := s.core k
  let chans := (List.range 64).map fun n => s.peekChan k n
  let toks := (List.range 16).map fun n => s.peekTok k n
  let g := s.clk.gcc.toNat
  (le4 [1, epid] ++ leBytes 8 g ++ leBytes 8 g
    ++ le4 [c.rgnId + ((s.region c.rgnId).st <<< 16), c.seStatus.toNat]
    ++ le4 ((List.range 7).map fun i => (c.reg (0x100D08 + 4 * i)).toNat) ++ le4 [0]
    ++ (chans.flatMap fun x => x.1)
    ++ le4 ((List.range 128).map fun i => (c.cmbW (4 * i)).toNat)
    ++ toks.flatMap fun x => x.1,
    (chans.any fun x => x.2) || toks.any fun x => x.2)

/-- QUEUE_PEEK (R293). -/
def queuePeek (r : Fin 256) (j : Nat) (s : State) : State :=
  s.hostOp r j 0x17 fun req d s =>
    let epid := d.bits 8 0 19
    match s.fab.coreSite s.curVer epid with
    | none => s.complete req stWINDOW rNOEND.toNat
    | some k =>
      if s.fenced k then s.complete req stFENCED
      else s.wakeFor [siteDome k] fun s =>
        let p := s.peekRecord k epid
        (s.hostWrite (d.f 0x10 8) p.1).complete req (if p.2 then stPARTIAL else stOK)

/-- HOST_NOP (R332). -/
def execHostNop (r : Fin 256) (j : Nat) (s : State) : Res := .next (hostNop r j s)

/-- DMA_H2D (R332). -/
def execDmaH2d (r : Fin 256) (j : Nat) (h : HostRead) (s : State) : Res := .next (dmaH2d r j h s)

/-- DMA_D2H (R332). -/
def execDmaD2h (r : Fin 256) (j : Nat) (s : State) : Res := .next (dmaD2h r j s)

/-- OPEN_WINDOW (R333). -/
def execOpenWindow (r : Fin 256) (j : Nat) (s : State) : Res := .next (openWindow r j s)

/-- CLOSE_WINDOW (R333). -/
def execCloseWindow (r : Fin 256) (j : Nat) (s : State) : Res := .next (closeWindow r j s)

/-- HOST_WINDOW_REQUEST (R333). -/
def execHostWindowRequest (p : Packet) (s : State) : Res := .next (windowRequest p s)

/-- PCIE_READ_COMPLETION (R318). -/
def execPcieReadCompletion (n : Nat) (h : HostRead) (s : State) : Res := .next (readCompletion n h s)

/-- MCAST_GROUP_SET (R207). -/
def execMcastGroupSet (r : Fin 256) (j : Nat) (h : HostRead) (s : State) : Res := .next (mcastGroupSet r j h s)

/-- TABLE_WRITE (R332). -/
def execTableWrite (r : Fin 256) (j : Nat) (h : HostRead) (s : State) : Res := .next (tableWrite r j h s)

/-- QUEUE_PEEK (R293). -/
def execQueuePeek (r : Fin 256) (j : Nat) (s : State) : Res := .next (queuePeek r j s)

end Sys2Proof.Machine
end

