-- ==== Sys2Proof/Machine/Agree.lean ====
section
/-!
DEFINITION. What engines agree on over the system tree: time, frequency and system barriers; the engine's own frequency
limit and the frequency it runs at (R369-R374, R398, R402).
-/

namespace Sys2Proof.Machine

/-- The system tree is in use here, LNT_TREE_UP.EN; this engine is its root; the lantern toward the root (R369). -/
def State.treeOn (s : State) : Bool := wbit (s.bar (sysBase + 0xC)) 31
def State.treeRootHere (s : State) : Bool := wbit (s.bar (sysBase + 0xC)) 6
def State.treeUp (s : State) : Nat := wfld (s.bar (sysBase + 0xC)) 0 6

/-- A tree whose UP lantern is not UP is broken here (R369). -/
def State.treeCut (s : State) : Bool := s.treeOn && !s.treeRootHere && (s.lantern s.treeUp).st != 3

/-- Whether a lantern leads to the root. -/
def State.fromUp (s : State) (l : Nat) : Bool := s.treeOn && !s.treeRootHere && l == s.treeUp

/-- A source limit: 0 ceiling, 1 power cap, 2 input current, 3 temperature, 4 droop (R398). -/
def State.srcLimit (s : State) (i : Nat) : Nat := Tbl.get 1300 s.clk.limit i

/-- The engine's own limit (R398). -/
def State.ownLimit (s : State) : Nat := (List.range 5).foldl (fun m i => min m (s.srcLimit i)) 1300

/-- A frequency or limit as the root can make it: a multiple of 25 MHz from 400 to 1,300 (R382, R398). -/
def snap (f : Nat) : Nat := max 400 (min 1300 (f / 25 * 25))

/-- LNT_JOB.FREQ_EN and JOB_ID (R372, R380). -/
def State.freqOn (s : State) : Bool := wbit (s.bar (sysBase + 0x1C)) 31
def State.jobId (s : State) : Nat := wfld (s.bar (sysBase + 0x1C)) 0 16

/-- The frequency the engine is to run at: its own limit, and in an agreement no more than the last FREQ_SET it
applied; while the tree is broken or FREQ_SET has stayed away it does not rise (R369, R373, R402). -/
def State.retarget (s : State) : State :=
  let own := s.ownLimit
  let t := if !(s.freqOn && s.treeOn) then own
    else match s.lnts.lastSet with
      | none => own
      | some f => if s.lnts.frozen || s.treeCut then min own (min f s.clk.target) else min own f
  { s with clk := { s.clk with target := snap t } }

/-- What the engine reports up the tree: the lowest of its own limit and its children's last ones (R372). -/
def State.lowest (s : State) : Nat :=
  s.treeDown.foldl (fun m l => min m (Tbl.get 1300 s.lnts.limits l)) s.ownLimit

/-- The next sequence number of a frequency record. -/
def State.freqNext (s : State) : State := { s with lnts := { s.lnts with freqSq := s.lnts.freqSq + 1 } }

/-- A FREQ_SET to every child, and kept for its time here (R372). -/
def State.passSet (s : State) (job mhz sq : BitVec 16) (at_ : DWord) : State :=
  s.treeDown.foldl (fun (s : State) l => s.lntSend l (.freqSet job mhz sq at_)) s

/-- A frequency set kept until its effective time. -/
def State.keepSet (s : State) (mhz : Nat) (at_ : DWord) : State :=
  { s with lnts := { s.lnts with nextSet := s.lnts.nextSet ++ [(mhz, at_)] } }

/-- What the engine has to report goes up; at the root it becomes the job's frequency 200 µs later (R372). -/
def State.reportLimit (s : State) (urgent : Bool) : State :=
  if !(s.freqOn && s.treeOn) then s
  else
    let s := s.freqNext
    let job : BitVec 16 := BitVec.ofNat 16 s.jobId
    let f := s.lowest
    if s.treeRootHere then
      let at_ := s.clk.ts + 200000
      (s.passSet job (BitVec.ofNat 16 f) s.lnts.freqSq at_).keepSet f at_
    else s.lntSend s.treeUp (.freqLimit job (BitVec.ofNat 16 f) s.lnts.freqSq urgent)

/-- A source limit set; a lowering of the engine's own limit that lowers what it reports is reported at once with URGENT
(R372, R398). -/
def State.setLimit (s : State) (i f : Nat) : State :=
  let was := s.lowest
  let s := { s with clk := { s.clk with limit := Tbl.set 1300 s.clk.limit i (snap f) } }.retarget
  if s.lowest < was then s.reportLimit true else s

/-- FREQ_AGREE_TIMER (R372). -/
def freqAgreeTimer (s : State) : State := s.reportLimit false

/-- FREQ_LIMIT from a child; one of another job is forwarded toward the root and otherwise ignored (R372). -/
def freqLimit (l : Nat) (job mhz sq : BitVec 16) (urgent : Bool) (s : State) : State :=
  if !(s.treeDown.contains l) then s
  else if !s.freqOn || job.toNat ≠ s.jobId then
    if s.treeOn && !s.treeRootHere then s.lntSend s.treeUp (.freqLimit job mhz sq urgent) else s
  else
    let was := s.lowest
    let s := { s with lnts := { s.lnts with limits := Tbl.set 1300 s.lnts.limits l mhz.toNat } }
    if urgent && decide (s.lowest < was) then s.reportLimit true else s

/-- FREQ_SET from the parent: forwarded to the children; one of this job is kept for its time (R372). -/
def freqSet (l : Nat) (job mhz sq : BitVec 16) (at_ : DWord) (s : State) : State :=
  if !(s.fromUp l) then s
  else
    let s := s.passSet job mhz sq at_
    if s.freqOn && job.toNat == s.jobId then s.keepSet mhz.toNat at_ else s

/-- FREQ_SET_APPLY: the first set whose time has come (R372). -/
def freqSetApply (s : State) : State :=
  match s.lnts.nextSet with
  | (f, at_) :: rest =>
    if at_.toNat ≤ s.clk.ts.toNat then
      { s with lnts := { s.lnts with lastSet := some f, nextSet := rest, frozen := false } }.retarget
    else s
  | [] => s

/-- FREQ_SET_TIMEOUT: 1 ms without a FREQ_SET (R373). -/
def freqSetTimeout (s : State) : State :=
  if s.freqOn && s.lnts.lastSet.isSome then { s with lnts := { s.lnts with frozen := true } }.retarget else s

/-- LNT_JOB written: JOB_ID only while FREQ_EN is 0; an engine that leaves or joins has applied no FREQ_SET (R372, R373,
R380). -/
def State.writeJob (s : State) (v : Word) : State :=
  let old := s.bar (sysBase + 0x1C)
  let new := if wbit old 31 then setBit old 31 (wbit v 31) else v &&& 0x8000FFFF
  let s := s.setBar (sysBase + 0x1C) new
  if wbit old 31 = wbit new 31 then s
  else { s with lnts := { s.lnts with limits := [], lastSet := none, nextSet := [], frozen := false } }.retarget

/-- LNT_TIME (R380). -/
def State.timeReg (s : State) : Word := s.bar (sysBase + 0x18)

/-- LNT_TIME set. -/
def State.setTime (s : State) (v : Word) : State := s.setBar (sysBase + 0x18) v

/-- TIME_SYNC_TIMER: an engine whose tree has a parent that is UP asks for its time (R370). -/
def timeSyncTimer (s : State) : State :=
  if s.treeOn && !s.treeRootHere && (s.lantern s.treeUp).st == 3 then
    ({ s with lnts := { s.lnts with asked := some s.clk.ts } } : State).lntSend s.treeUp (.timeReq s.clk.ts)
  else s

/-- TIME_REQ: answered with t2 and t3 - t2 (R370). -/
def timeReq (l : Nat) (_t1 t3 : DWord) (s : State) : State :=
  s.lntSend l (.timeRsp s.clk.ts (BitVec.ofNat 32 (t3 - s.clk.ts).toNat))

/-- The offset of an exchange, upstream minus local, in ns (R370). -/
def syncOffset (t1 t2 : DWord) (d : Word) (t4 : DWord) : Int :=
  ((t2 - t1).toInt - (t4 - t2 - d.setWidth 64).toInt) / 2

/-- TIME_RSP to the request last sent: the first exchange steps the timestamp, later ones trim its rate by an amount of
at most 500 ppm that the manual leaves open; LOCKED follows the runs of small and large offsets (R370; log entry 2). -/
def timeRsp (l : Nat) (t1 t2 : DWord) (d : Word) (t4 : DWord) (s : State) : State :=
  if !(s.fromUp l) || s.lnts.asked != some t1 then s
  else
    let off := syncOffset t1 t2 d t4
    let locked := wbit s.timeReg 16
    let okRun := if off.natAbs < 5 then s.lnts.okRun + 1 else 0
    let badRun := if 50 < off.natAbs then s.lnts.badRun + 1 else 0
    let step := s.lnts.first && !locked
    let lock := (locked || decide (16 ≤ okRun)) && !(decide (16 ≤ badRun))
    let r := setFld s.timeReg 0 16 (unsgn 16 (clampI (-32768) 32767 off))
    let r := setBit r 16 lock
    let s := s.setTime (if step then setBit r 17 true else r)
    let s := { s with lnts := { s.lnts with asked := none, okRun := okRun, badRun := badRun } }
    if step then { s with lnts := { s.lnts with first := false }, clk := { s.clk with ts := s.clk.ts + BitVec.ofInt 64 off } }
    else { s with lnts := { s.lnts with trim := clampI (-500) 500 (Config.timeTrim off) } }

/-- TIME_RSP_TIMEOUT: 20 ms without TIME_RSP (R370). -/
def timeRspTimeout (s : State) : State :=
  { s with lnts := { s.lnts with asked := none, okRun := 0, badRun := 0 } }.setTime (setBit s.timeReg 16 false)

/-- SBAR_ARRIVE from a child (R374). -/
def sbarArrive (l : Nat) (b : BitVec 14) (sense : Bool) (s : State) : State :=
  if s.sbarOn b.toNat && s.treeDown.contains l then s.sbarMark b.toNat sense l else s

/-- SBAR_RELEASE from the parent (R374). -/
def sbarRelease (l : Nat) (b : BitVec 14) (sense : Bool) (s : State) : State :=
  if s.sbarOn b.toNat && s.fromUp l then s.sbarFree b.toNat sense else s

/-- System barriers that have waited for a way up go on (R369, R374). -/
def State.sbarRetry (s : State) : State :=
  s.lnts.marks.foldl (fun (s : State) x =>
    let m : BitVec 49 := Tbl.get 0 s.lnts.marks x.1
    match (List.range 49).find? fun i => m.getLsbD i with
    | some i => s.sbarMark (x.1 / 2) (x.1 % 2 == 1) i
    | none => s) s

/-- FREQ_AGREE_TIMER (R372). -/
def execFreqAgreeTimer (s : State) : Res := .next (freqAgreeTimer s)

/-- FREQ_LIMIT (R372). -/
def execFreqLimit (l : Fin 48) (job : BitVec 16) (mhz sq : BitVec 16) (urgent : Bool) (s : State) : Res :=
  .next (freqLimit l.val job mhz sq urgent s)

/-- FREQ_SET (R372). -/
def execFreqSet (l : Fin 48) (job : BitVec 16) (mhz sq : BitVec 16) (at_ : DWord) (s : State) : Res :=
  .next (freqSet l.val job mhz sq at_ s)

/-- FREQ_SET_APPLY (R372). -/
def execFreqSetApply (s : State) : Res := .next (freqSetApply s)

/-- FREQ_SET_TIMEOUT (R373). -/
def execFreqSetTimeout (s : State) : Res := .next (freqSetTimeout s)

/-- TIME_SYNC_TIMER (R370). -/
def execTimeSyncTimer (s : State) : Res := .next (timeSyncTimer s)

/-- TIME_REQ (R370). -/
def execTimeReq (l : Fin 48) (t1 : DWord) (t3 : DWord) (s : State) : Res := .next (timeReq l.val t1 t3 s)

/-- TIME_RSP (R370). -/
def execTimeRsp (l : Fin 48) (t1 t2 : DWord) (d : Word) (t4 : DWord) (s : State) : Res :=
  .next (timeRsp l.val t1 t2 d t4 s)

/-- TIME_RSP_TIMEOUT (R370). -/
def execTimeRspTimeout (s : State) : Res := .next (timeRspTimeout s)

/-- SBAR_ARRIVE (R374). -/
def execSbarArrive (l : Fin 48) (b : BitVec 14) (sense : Bool) (s : State) : Res :=
  .next (sbarArrive l.val b sense s)

/-- SBAR_RELEASE (R374). -/
def execSbarRelease (l : Fin 48) (b : BitVec 14) (sense : Bool) (s : State) : Res :=
  .next (sbarRelease l.val b sense s)

end Sys2Proof.Machine
end

