-- ==== Sys2Proof/Machine/Lantern.lean ====
section
/-!
DEFINITION. The lanterns: training and width, the link layer, what an arriving Jendex packet meets, the forwarding
table, remote windows, quiescing and the LINK reset (R347-R368, R375-R379, R424, R441).
-/

namespace Sys2Proof.Machine

/-- A register of a lantern's block, and of the system block (R379, R380). -/
def lntReg (l off : Nat) : Nat := lntBase + 0x1000 * l + off

/-- A lantern's counter raised by an amount (R379). -/
def State.addLnt (s : State) (l off n : Nat) : State :=
  s.bumpBar (lntReg l off) (lntReg l 0x30) ((off - 0x14) / 4) n

/-- LNT_CTL.AUTO and LNT_CTL.ENC (R379). -/
def State.lntAuto (s : State) (l : Nat) : Bool := wbit (s.bar (lntReg l 4)) 0
def State.lntEnc (s : State) (l : Nat) : Bool := wbit (s.bar (lntReg l 4)) 1

/-- A lantern is fitted (R39, R350). -/
def State.fitted (s : State) (l : Nat) : Bool := (s.lantern l).st != 0

/-- ENG_STATUS.LINKS_READY once every fitted lantern is UP or DOWN (R352). -/
def State.linksReady (s : State) : State :=
  if (List.range 48).all fun l => [0, 1, 3].contains (s.lantern l).st then s.setBar 0x100 (setBit (s.bar 0x100) 1 true)
  else s

/-- The lane groups from the widest on: group code, first lane, lanes (R351). -/
def laneGroups : List (Nat × Nat × Nat) :=
  [(0, 0, 16), (1, 0, 8), (2, 8, 8), (3, 0, 4), (4, 4, 4), (5, 8, 4), (6, 12, 4)]

/-- The group a lantern trains to: code and width (R351). -/
def pickGroup (good : BitVec 16) : Option (Nat × Nat) :=
  (laneGroups.find? fun g => (List.range g.2.2).all fun i => good.getLsbD (g.2.1 + i)).map fun g => (g.1, g.2.2)

/-- A lantern's flash record after a training: its last WIDTH and CAUSE, and every lane that has failed deskew
(R424). -/
def State.noteTrain (s : State) (l width cause : Nat) (bad : BitVec 16) : State :=
  let r : BitVec 128 := Tbl.get 0 s.rel.lantern l
  let lanes := fld r.toNat 16 16 ||| bad.toNat
  let r' := r.toNat - r.toNat % 2 ^ 32 + width % 32 + (cause <<< 5) + (fld r.toNat 8 8 <<< 8) + (lanes <<< 16)
  { s with rel := { s.rel with lantern := Tbl.set 0 s.rel.lantern l (BitVec.ofNat 128 r') } }

/-- A departure from UP in a lantern's flash record, saturating (R424). -/
def State.noteLeave (s : State) (l : Nat) : State :=
  let r : BitVec 128 := Tbl.get 0 s.rel.lantern l
  let n := fld r.toNat 8 8
  let r' := if n < 255 then r.toNat + 256 else r.toNat
  { s with rel := { s.rel with lantern := Tbl.set 0 s.rel.lantern l (BitVec.ofNat 128 r') } }

/-- An uncorrectable flit in a lantern's flash record, saturating (R424). -/
def State.noteLntUe (s : State) (l : Nat) : State :=
  let r : BitVec 128 := Tbl.get 0 s.rel.lantern l
  let r' := if fld r.toNat 32 32 < 2 ^ 32 - 1 then r.toNat + 2 ^ 32 else r.toNat
  { s with rel := { s.rel with lantern := Tbl.set 0 s.rel.lantern l (BitVec.ofNat 128 r') } }

/-- A lantern that is UP leaves UP for a state: counted, recorded, LINK_DOWN raised (R352, R379, R424, R430). -/
def State.leaveUp (s : State) (l st cause : Nat) (tag : Bool) : State :=
  let n := s.lantern l
  if n.st ≠ 3 then s
  else
    let s := s.setLantern l { n with st := st, cause := cause, tagFail := tag, recal := none }
    let s := ((s.addLnt l 0x2C 1).noteLeave l).noteRisk 0 0 1
    let s := s.raise 0x15 (evData l 0)
    match n.recal with
    | some q => (s.testDone q stTIMEOUT).complete q stTIMEOUT
    | none => s

/-- A lantern's link stopped: nothing is sent or received (R375). -/
def State.stopLink (s : State) (l st cause : Nat) : State :=
  s.setLantern l { s.lantern l with
    st := st, cause := cause, width := 0, group := 0, encOn := false, await := false, replay := [], used := [], out := [] }

/-- The LINK reset of a lantern completes once it is UP or DOWN again (R375). -/
def State.linkResetDone (s : State) (l : Nat) : State :=
  let n := s.lantern l
  (s.setLantern l { n with req := none }).completeOpt n.req stOK

/-- A lantern left DOWN by training (R350, R352). -/
def State.trainDown (s : State) (l cause : Nat) (bad : BitVec 16) (event : Bool) : State :=
  let s := ((s.stopLink l 1 cause).noteTrain l 0 cause bad)
  let s := if event then s.raise 0x14 (evData (l + (25 <<< 16)) 0) else s
  (s.linkResetDone l).linksReady

/-- Whether a peer's identity duplicates this engine's (R353). -/
def State.dupId (s : State) (i : PeerInfo) : Bool := i.engine.toNat == s.ownId && i.netEn && s.netEn

/-- A lantern trained UP: link layer started anew, encrypted with new keys if both ends ask for it and can (R350,
R352, R376). -/
def State.trainUp (s : State) (l : Nat) (g : Nat × Nat) (i : PeerInfo) (enc : Bool) (bad : BitVec 16) : State :=
  let n := s.lantern l
  let enc := enc && i.enc
  let s := s.setLantern l { n with
    st := 3, width := g.2, group := g.1, cause := 0, encOn := enc, txSeq := 0, rxNext := 0, await := false
    replay := [], naks := [], tags := [], used := [], keyGen := n.keyGen + enc.toNat, keyed := enc }
  let s := s.noteTrain l g.2 0 bad
  let s := if g.2 < 16 then s.raise 0x14 (evData (l + (g.2 <<< 8) + (25 <<< 16)) 0) else s
  let s := (s.linkResetDone l).linksReady
  if s.treeUp = l then s.retarget.sbarRetry else s

/-- LANTERN_TRAIN_DONE (R350-R353, R376). -/
def lanternTrainDone (l : Nat) (o : TrainObs) (s : State) : State :=
  let n := s.lantern l
  if n.st ≠ 2 then s
  else if !o.signal then
    (s.setLantern l { n with peer := none, good := 0 }).trainDown l 1 0 false
  else
    let s := s.setLantern l { n with peer := o.peer, good := o.good }
    let bad := ~~~o.good
    match pickGroup o.good, o.peer with
    | none, _ => s.trainDown l 2 bad true
    | _, none => s.trainDown l 0 bad true
    | some g, some i =>
      if s.dupId i then s.trainDown l 3 bad true
      else if o.peerEnc != s.lntEnc l then s.trainDown l 4 bad true
      else s.trainUp l g i (s.lntEnc l) bad

/-- LANTERN_AUTO_RETRAIN: a DOWN lantern that sees a signal trains again (R352). -/
def lanternAutoRetrain (l : Nat) (s : State) : State :=
  let n := s.lantern l
  if n.st = 1 ∧ s.lntAuto l then s.setLantern l { n with st := 2 } else s

/-- LANTERN_SIGNAL_LOSS (R352). -/
def lanternSignalLoss (l : Nat) (s : State) : State :=
  if (s.lantern l).st = 3 then (s.leaveUp l 1 1 false).stopLink l 1 1 else s

/-- The times of a list that lie within the last millisecond. -/
def State.recentMs (s : State) (ts : List DWord) : List DWord := ts.filter fun t => decide ((s.clk.ts - t).toNat < 1000000)

/-- A NAK counted: more than 64 within 1 ms retrain the lantern (R355). -/
def State.countNak (s : State) (l : Nat) : State :=
  let n := s.lantern l
  let naks := s.recentMs n.naks ++ [s.clk.ts]
  let s := s.setLantern l { n with naks := naks }
  if 64 < naks.length ∧ n.st = 3 then (s.leaveUp l 2 5 false).stopLink l 2 5 else s

/-- A tag failure counted: more than 4 within 1 ms take the link down (R376). -/
def State.countTag (s : State) (l : Nat) : State :=
  let n := s.lantern l
  let tags := s.recentMs n.tags ++ [s.clk.ts]
  let s := s.setLantern l { n with tags := tags }
  if 4 < tags.length ∧ n.st = 3 then (s.leaveUp l 1 0 true).stopLink l 1 0 else s

/-- A received flit dropped: the first one sends NAK (R355). -/
def State.dropFlit (s : State) (l : Nat) : State :=
  let n := s.lantern l
  if n.await then s
  else ((s.setLantern l { n with await := true }).lntSend l (.nak (n.rxNext - 1))).countNak l

/-- What an acknowledgement takes out of a replay buffer (R355). -/
def ackReplay (a : BitVec 12) (r : List (BitVec 12)) : List (BitVec 12) :=
  if r.contains a then (r.dropWhile fun x => x != a).drop 1 else r

/-- Credits returned by the peer: V VC0, V VC1, S VC0, S VC1 (R354, R356). -/
def returnCredits (used : Tbl Nat) (credits : DWord) : Tbl Nat :=
  (List.range 4).foldl (fun (t : Tbl Nat) i => Tbl.set 0 t i (Tbl.get 0 t i - fld credits.toNat (16 * i) 16)) used

/-- A good flit taken in order, or dropped where one before it is missing (R354, R355). -/
def State.takeFlit (s : State) (l : Nat) (f : Flit) : State :=
  let n := s.lantern l
  if f.fseq ≠ n.rxNext then s.dropFlit l
  else
    let n := { n with
      used := returnCredits n.used f.credits, replay := if f.ackValid then ackReplay f.ackSeq n.replay else n.replay }
    let n : Lantern := if f.type = 0 ∨ f.type = 2 then { n with rxNext := n.rxNext + 1, await := false } else n
    (s.setLantern l n).add64 (lntReg l 0x40) 1

/-- FLIT_RECEIVE (R349, R355, R376). -/
def flitReceive (l : Nat) (f : Flit) (ok : FlitCheck) (s : State) : State :=
  let n := s.lantern l
  if n.st ≠ 3 ∧ n.st ≠ 4 then s
  else match ok with
    | .good => s.takeFlit l f
    | .corrected => (s.addLnt l 0x14 1).takeFlit l f
    | .uncorrectable => ((s.addLnt l 0x18 1).noteLntUe l).dropFlit l
    | .badLcrc => s.dropFlit l
    | .badTag => if n.encOn then (s.dropFlit l).countTag l else s.takeFlit l f

/-- FLIT_REPLAY: every flit after ACK_SEQ is sent again in its order and counted (R355). -/
def flitReplay (l : Nat) (ackSeq : BitVec 12) (s : State) : State :=
  let n := s.lantern l
  if n.st ≠ 3 ∧ n.st ≠ 4 then s
  else
    let r := ackReplay ackSeq n.replay
    let s := s.setLantern l { n with replay := r }
    (((s.addLnt l 0x1C r.length).add64 (lntReg l 0x38) r.length)).countNak l

/-- The credit class of a packet, and the 16-byte units it takes with its network header (R356, R357). -/
def creditClass (p : Packet) : Nat := 2 * Plane.num p.plane + (isResponse p.type).toNat
def packetUnits (p : Packet) : Nat := (40 + (p.payload.length + 15) / 16 * 16 + 15) / 16

/-- Whether a lantern holds the credit to send something: control records need none (R356). -/
def Lantern.maySend (n : Lantern) : LinkOut → Bool
  | .packet _ p => decide (Tbl.get 0 n.used (creditClass p) + packetUnits p ≤ 32768)
  | _ => true

/-- One flit sent: the first of what waits that has credit, while the replay buffer has room, or an idle flit (R354,
R355, R356). -/
def State.sendFlit (s : State) (l : Nat) : State :=
  let n := s.lantern l
  if n.st ≠ 3 ∧ n.st ≠ 4 then s
  else
    let s := s.add64 (lntReg l 0x38) 1
    if 2048 ≤ n.replay.length then s
    else match n.out.find? fun x => n.maySend x with
      | none => s
      | some x =>
        let used := match x with
          | .packet _ p => Tbl.set 0 n.used (creditClass p) (Tbl.get 0 n.used (creditClass p) + packetUnits p)
          | _ => n.used
        s.setLantern l { n with
          out := n.out.erase x, wire := n.wire ++ [x], used := used, txSeq := n.txSeq + 1
          replay := n.replay ++ [n.txSeq] }

/-- A word of a remote window (R380). -/
def State.rwin (s : State) (n w : Nat) : Word := s.bar (sysBase + 0x100 + 0x20 * n + 4 * w)

/-- Whether a remote window admits a request (R366). -/
def State.admits (s : State) (n : Nat) (p : Packet) : Bool :=
  let w0 := s.rwin n 0
  let m := faM p.dest
  let a := if m then faStack p.dest else faOff p.dest
  let len := if p.type = tRD_REQ then p.bytes.toNat else p.payload.length
  let lo := (s.rwin n 4).toNat + ((s.rwin n 5).toNat <<< 32)
  let hi := (s.rwin n 6).toNat + ((s.rwin n 7).toNat <<< 32)
  let e := faEpid p.dest
  let src := p.srcEngine.toNat
  wbit w0 31 && (wbit w0 19 == m)
    && (m || (decide (wfld w0 0 19 ≤ e) && decide (e ≤ wfld (s.rwin n 1) 0 19)))
    && decide (lo ≤ a) && decide (a + len ≤ hi)
    && decide (wfld (s.rwin n 2) 0 12 ≤ src) && decide (src ≤ wfld (s.rwin n 2) 16 12)
    && (if p.type = tRD_REQ then wbit w0 29
        else (p.type == tWR || p.type == tLAND || p.type == tCONTRIB || p.type == tMC_WR) && wbit w0 30)

/-- The window that admits a request (R366). -/
def State.admitting (s : State) (p : Packet) : Option Nat := (List.range 64).find? fun n => s.admits n p

/-- A request recorded as admitted until it is answered; a multicast write never is (R205, R367). -/
def State.noteAdmitted (s : State) (n : Nat) (p : Packet) : State :=
  let s := s.unadmit p.srcEngine p.srcEpid p.plane (if p.type = tRD_REQ then tRD_RESP else tNAK) p.seq p.tag
  if p.type = tMC_WR then s else { s with lnts := { s.lnts with admitted := s.lnts.admitted ++ [(n, p)] } }

/-- INFLIGHT of a remote window (R367). -/
def State.inflight (s : State) (n : Nat) : Nat := min 65535 (s.lnts.admitted.countP fun x => x.1 == n)

/-- The fields an engine resolves locally rewritten: CRC by the linear change of the rewritten fields, HCRC computed
anew (R362, R363). -/
def Packet.rewrite (p : Packet) (v : Bool) (k : SiteId) : Packet :=
  let q : Packet := { p with epoch := v, lane := false, dx := BitVec.ofNat 10 (siteX k), dy := BitVec.ofNat 9 (siteY k) }
  let q := { q with crc := p.crc ^^^ (p.crcOf ^^^ q.crcOf) }
  { q with hcrc := q.hcrcOf }

/-- The refusal of an arriving request at an attachment of its lantern; responses and multicast writes are dropped
(R178, R205). -/
def State.refuseIn (s : State) (k : SiteId) (p : Packet) (code : Byte) : State :=
  if isResponse p.type || p.type == tMC_WR then s else s.routerRefuse k { p with epoch := s.curVer } code

/-- An arriving packet resolved and injected at an attachment of its lantern (R362). -/
def State.ingress (s : State) (k : SiteId) (hops : BitVec 4) (p : Packet) : State :=
  match s.resolve s.curVer p.dest p.srcEpid.toNat with
  | .refuse code => s.refuseIn k p code
  | .site d => s.fly { site := k, from_ := .loc, ejected := false, hold := none, hops := hops
                       body := .inl (Packet.rewrite p s.curVer d) }

/-- JENDEX_INGRESS (R358, R361-R363, R366, R375). -/
def jendexIngress (l : Nat) (hops : BitVec 4) (p : Packet) (s : State) : State :=
  let st := (s.lantern l).st
  if (st ≠ 3 ∧ st ≠ 4) ∨ p.plane = .c then s
  else if !s.netEn then s.addLnt l 0x28 1
  else
    let own := faEngine p.dest == s.ownId
    if !own && hops == 15 then s.addLnt l 0x24 1
    else if p.hcrc ≠ p.hcrcOf then s.addLnt l 0x28 1
    else match attachment (s.fab.endpoint s.curVer (16 + l)) (p.srcEpid.toNat % 8) with
      | none => s
      | some k =>
        let request := !(isResponse p.type)
        if st = 4 ∧ request then s.refuseIn k p (if own then rRESET else rHOLE)
        else if !own then s.ingress k (hops + 1) p
        else if !request then s.ingress k hops p
        else match s.admitting p with
          | none => (s.addLnt l 0x20 1).refuseIn k p rDENIED
          | some n => (s.noteAdmitted n p).ingress k hops p

/-- PEER_INFO: a duplicate ID leaves the lantern DOWN (R353). -/
def peerInfo (l : Nat) (i : PeerInfo) (s : State) : State :=
  let n := s.lantern l
  if n.st ≠ 2 ∧ n.st ≠ 3 then s
  else
    let s := s.setLantern l { n with peer := some i }
    if !(s.dupId i) then s else (s.leaveUp l 2 3 false).trainDown l 3 0 true

/-- The weight a set entry stores for a member lantern (R359). -/
def Lantern.weightNow (n : Lantern) : Nat := if n.st = 3 then n.width / 4 else 0

/-- A lantern's weight rewritten in every set of the inactive version that names it, then a flip of the cupola's own
(R361). -/
def State.restage (s : State) (l w : Nat) : State :=
  let v := !s.curVer
  let named := (List.range 16).filter fun e =>
    (Tbl.get 0 s.fab.fwdSet (verNum v * 16 + e) : BitVec 48).getLsbD l
  let wt := named.foldl (fun (t : Tbl Nat) e => Tbl.set 0 t ((verNum v * 16 + e) * 48 + l) w) s.fab.fwdWt
  let s : State := { s with fab := { s.fab with fwdWt := wt } }
  if named = [] then s else s.askFlip { req := none, why := .cupola, check := true }

/-- LANTERN_RESTAGE (R361). -/
def lanternRestage (l : Nat) (s : State) : State := s.restage l (s.lantern l).weightNow

/-- LINK_QUIESCE: the cupola restages around the lantern (R375). -/
def linkQuiesce (l : Nat) (s : State) : State := if (s.lantern l).st = 3 then s.restage l 0 else s

/-- A lantern that is UP quiesces (R375). -/
def State.quiesceLantern (s : State) (l : Nat) (engine : Bool) : State :=
  if (s.lantern l).st = 3 then (s.lntSend l (.quiesce engine)).leaveUp l 4 0 false else s

/-- LANTERN_QUIESCE_END: the link stops; a LINK reset trains anew (R375). -/
def lanternQuiesceEnd (l : Nat) (s : State) : State :=
  let n := s.lantern l
  if n.st = 4 then s.stopLink l (if n.req.isSome then 2 else 1) 0 else s

/-- A reset or an activation is in progress (R441). -/
def State.resetBusy (s : State) : Bool :=
  s.boot.resetting.isSome || s.boot.warm || s.fw.handover.isSome
    || (List.range 48).any fun l => (s.lantern l).req.isSome

/-- RESET_PART of one kind, unless another reset or an activation is in progress (R441). -/
def State.resetOp (s : State) (r : Fin 256) (j kind : Nat) (go : Nat × Nat → Desc → State → State) : State :=
  s.hostOp r j 0x18 fun req d s =>
    if d.bits 8 0 3 ≠ kind then s else if s.resetBusy then s.complete req stBUSY else go req d s

/-- RESET_LINK (R375, R440, R441). -/
def resetLink (r : Fin 256) (j : Nat) (s : State) : State :=
  s.resetOp r j 3 fun req d s =>
    let l := d.bits 0xC 0 16 % 64
    let n := s.lantern l
    if 48 ≤ l ∨ n.st = 0 then s.complete req stNOTREADY
    else
      let s := s.setBusy req
      let s := s.setLantern l { n with req := some req }
      if n.st = 3 then s.quiesceLantern l false
      else if n.st = 1 then s.stopLink l 2 0 else s

/-- LINK_RECAL (R378). -/
def linkRecal (r : Fin 256) (j : Nat) (s : State) : State :=
  s.testOp r j 5 fun req d s =>
    let l := d.f 0xC 4
    let n := s.lantern l
    if 48 ≤ l ∨ n.st ≠ 3 then s.complete req stNOTREADY
    else if n.recal.isSome then s.complete req stBUSY
    else (s.setBusy req).setLantern l { n with recal := some req }

/-- LINK_RECAL_DONE (R378). -/
def linkRecalDone (l : Nat) (ok : Bool) (s : State) : State :=
  let n := s.lantern l
  match n.recal with
  | none => s
  | some q =>
    let st := if ok then stOK else stTIMEOUT
    ((s.setLantern l { n with recal := none }).testDone q st).complete q st

/-- KEY_RENEW (R376). -/
def keyRenew (l : Nat) (s : State) : State :=
  let n := s.lantern l
  if n.st = 3 ∧ n.encOn then s.setLantern l { n with keyGen := n.keyGen + 1 } else s

/-- LNT_FWD_GO: the selected entry written into the inactive version with its members' weights, or refused (R359). -/
def lntFwdGo (v : Word) (s : State) : State :=
  s.barAccess (sysBase + 0x90) fun s =>
    if !(wbit v 0) then s
    else
      let sel := s.bar (sysBase + 0x80)
      let ver := wbit sel 12
      let i := wfld sel 0 12
      let d0 := s.bar (sysBase + 0x84)
      let d1 := s.bar (sysBase + 0x88)
      let put (s : State) (f : Fab) : State :=
        ({ s with fab := f } : State).setResult 0 |>.setBar (sysBase + 0x94) 2
      if ver = s.curVer ∨ wbit s.epochReg 3 ∨ (wbit sel 13 ∧ 16 ≤ i) then s.setBar (sysBase + 0x94) 3
      else if wbit sel 13 then
        let mask : BitVec 48 := BitVec.ofNat 48 (d0.toNat + (d1.toNat <<< 32))
        let wt := (List.range 48).foldl (fun (t : Tbl Nat) l =>
          Tbl.set 0 t ((verNum ver * 16 + i) * 48 + l) (if mask.getLsbD l then (s.lantern l).weightNow else 0)) s.fab.fwdWt
        put s { s.fab with fwdSet := Tbl.set 0 s.fab.fwdSet (verNum ver * 16 + i) mask, fwdWt := wt }
      else put s { s.fab with fwdEng := Tbl.set 0 s.fab.fwdEng (verNum ver * 4096 + i) (BitVec.ofNat 5 d0.toNat) }

/-- LNT_SYS_ID written: the ID only while NET_EN is 0 (R358). -/
def lntSysIdWrite (v : Word) (s : State) : State :=
  s.barAccess (sysBase + 4) fun s =>
    let old := s.bar (sysBase + 4)
    s.setBar (sysBase + 4) (if wbit old 31 then setBit old 31 (wbit v 31) else v &&& 0x80000FFF)

/-- The bits a remote window's word stores (R380). -/
def rwinMask : Nat → Word
  | 0 => 0xE00FFFFF
  | 1 => 0x0007FFFF
  | 2 => 0x0FFF0FFF
  | 3 => 0
  | _ => 0xFFFFFFFF

/-- A word of a remote window written: while EN is 1 only EN (R367, R380). -/
def lntRwinWrite (n w : Nat) (v : Word) (s : State) : State :=
  let off := sysBase + 0x100 + 0x20 * n + 4 * w
  s.barAccess off fun s =>
    if w = 3 then s
    else if wbit (s.rwin n 0) 31 then if w = 0 then s.setBar off (setBit (s.rwin n 0) 31 (wbit v 31)) else s
    else s.setBar off (v &&& rwinMask w)

/-- LANTERN_TRAIN_DONE (R350). -/
def execLanternTrainDone (l : Fin 48) (o : TrainObs) (s : State) : Res := .next (lanternTrainDone l.val o s)

/-- LANTERN_AUTO_RETRAIN (R352). -/
def execLanternAutoRetrain (l : Fin 48) (s : State) : Res := .next (lanternAutoRetrain l.val s)

/-- LANTERN_SIGNAL_LOSS (R352). -/
def execLanternSignalLoss (l : Fin 48) (s : State) : Res := .next (lanternSignalLoss l.val s)

/-- FLIT_RECEIVE (R355). -/
def execFlitReceive (l : Fin 48) (f : Flit) (ok : FlitCheck) (s : State) : Res := .next (flitReceive l.val f ok s)

/-- FLIT_REPLAY (R355). -/
def execFlitReplay (l : Fin 48) (ackSeq : BitVec 12) (s : State) : Res := .next (flitReplay l.val ackSeq s)

/-- JENDEX_INGRESS (R362). -/
def execJendexIngress (l : Fin 48) (hops : BitVec 4) (p : Packet) (s : State) : Res :=
  .next (jendexIngress l.val hops p s)

/-- PEER_INFO (R353). -/
def execPeerInfo (l : Fin 48) (i : PeerInfo) (s : State) : Res := .next (peerInfo l.val i s)

/-- LANTERN_RESTAGE (R361). -/
def execLanternRestage (l : Fin 48) (s : State) : Res := .next (lanternRestage l.val s)

/-- LINK_QUIESCE (R375): a link reset and an engine reset of the peer are met alike. -/
def execLinkQuiesce (l : Fin 48) (_engineReset : Bool) (s : State) : Res := .next (linkQuiesce l.val s)

/-- LANTERN_QUIESCE_END (R375). -/
def execLanternQuiesceEnd (l : Fin 48) (s : State) : Res := .next (lanternQuiesceEnd l.val s)

/-- RESET_LINK (R375). -/
def execResetLink (r : Fin 256) (j : Nat) (s : State) : Res := .next (resetLink r j s)

/-- LINK_RECAL (R378). -/
def execLinkRecal (r : Fin 256) (j : Nat) (s : State) : Res := .next (linkRecal r j s)

/-- LINK_RECAL_DONE (R378). -/
def execLinkRecalDone (l : Fin 48) (ok : Bool) (s : State) : Res := .next (linkRecalDone l.val ok s)

/-- KEY_RENEW (R376). -/
def execKeyRenew (l : Fin 48) (s : State) : Res := .next (keyRenew l.val s)

/-- LNT_FWD_GO (R359). -/
def execLntFwdGo (v : Word) (s : State) : Res := .next (lntFwdGo v s)

/-- LNT_SYS_ID_WRITE (R358). -/
def execLntSysIdWrite (v : Word) (s : State) : Res := .next (lntSysIdWrite v s)

/-- LNT_RWIN_WRITE (R367). -/
def execLntRwinWrite (n : Fin 64) (w : Fin 8) (v : Word) (s : State) : Res := .next (lntRwinWrite n.val w.val v s)

end Sys2Proof.Machine
end

