-- ==== Sys2Proof/Machine/Clock.lean ====
section
/-!
DEFINITION. The clock tree: the reference monitor, the loss of the reference and parking, the frequency ramp, droop and
stretches, domes that sleep and wake (R381-R392, R398, R400, R405).
-/

namespace Sys2Proof.Machine

/-- CLK_STATUS: 0 REF_OK, 1 SRC, 2 LOSS, 3 WARN, 4 ROOT_LOCK, 5 ALIGNED, 6 PARKED (R405). -/
def State.clkStatus (s : State) : Word := s.bar (clkBase + 4)

/-- A bit of CLK_STATUS set or cleared. -/
def State.clkBit (s : State) (i : Nat) (b : Bool) : State := s.setBar (clkBase + 4) (setBit s.clkStatus i b)

/-- Descriptors in progress are lost without a record (R341, R388). -/
def State.loseStarted (s : State) : State :=
  { s with host := { s.host with
    cmd := s.host.cmd.foldl (fun (t : Tbl CmdRing) (x : Nat × CmdRing) =>
      Tbl.set CmdRing.reset t x.1 { x.2 with started := [] }) [] } }

/-- Cross-checks end without a record, and nobody is charged (R416). -/
def State.dropXchk (s : State) : State :=
  let s := s.rel.xchk.foldl (fun (s : State) x => s.setArea x.area { s.area x.area with borrowed := false }) s
  { s with rel := { s.rel with xchk := [] } }

/-- A core parked: sequencer and engines stop without completing their work, banks that are ON go to RET (R388). -/
def Core.park (c : Core) : Core :=
  let c := c.stopEngines.marchAbort
  let c := (List.range 4).foldl (fun (c : Core) b =>
    if c.pwrState b = 0 then
      (c.setReg (0x100410 + 4 * b) (setFld (c.bankCtl b) 18 2 1)).setBank b { c.bank b with entering := none }
    else c) c
  { c with seqr := { c.seqr with run := false, wait := .none } }

/-- Every core of a powered area parked (R388). -/
def State.parkCores (s : State) : State :=
  (List.range 294912).foldl (fun (s : State) i =>
    let k : SiteId := Fin.ofNat 294912 i
    if s.siteOn k then s.setCore k (s.core k).park else s) s

/-- Every lantern drops without a quiesce (R375, R388, R397). -/
def State.dropLanterns (s : State) : State :=
  (List.range 48).foldl (fun (s : State) l =>
    if s.fitted l then
      let s := (s.leaveUp l 1 0 false).stopLink l 1 0
      s.setLantern l { s.lantern l with req := none }
    else s) s

/-- Every dome parked: nothing runs, what is in the fabric stays where it is for good, the clocks stop (R388). -/
def State.park (s : State) : State :=
  let s := s.parkCores.loseStarted.dropXchk
  let s := (List.range 12).foldl (fun (s : State) d => s.setDome d 3) s
  let s : State := { s with fab := { s.fab with flights := [], flip := none, waiting := [] }
                            clk := { s.clk with parking := false, stopped := true } }
  (s.clkBit 6 true).dropLanterns

/-- The reference lost after start-up step 3: the service domain moves to the oscillator, the root to holdover, and the
cupola begins to park the domes; with a stopped reference the PCIe link is lost (R341, R388). -/
def State.refLost (s : State) (stop : Bool) : State :=
  if !(wbit s.clkStatus 4) then s
  else
    let s := if stop then linkDown s else s
    let s := ((s.clkBit 1 true).clkBit 2 true).clkBit 4 false
    let ppm : Word := BitVec.ofInt 32 (sgn 16 (wfld (s.bar (clkBase + 8)) 0 16))
    let s := s.raise 1 (evData stop.toNat ppm.toNat)
    let s := (s.logRec 0x0A [1, stop.toNat]).dropXchk
    { s with clk := { s.clk with parking := !s.clk.stopped } }

/-- The offset beyond which the monitor acts (R386; log entry 2). -/
def refLimit : Nat := max 280 (min 320 Config.refThreshold)

/-- REF_WINDOW_END: one window's offset, in steps of 10 ppm (R386). -/
def refWindowEnd (ppm : Int) (s : State) : State :=
  let ok := decide (ppm.natAbs ≤ refLimit)
  let s := s.setBar (clkBase + 8) (BitVec.ofNat 32 (unsgn 16 (clampI (-32760) 32760 (ppm / 10 * 10))))
  let s := (s.clkBit 0 ok).clkBit 3 (decide (100 < ppm.natAbs))
  if ok then s else s.refLost false

/-- REF_STOPPED (R386). -/
def refStopped (s : State) : State := (s.clkBit 0 false).refLost true

/-- FREQ_RAMP_STEP: F moves by one step of 25 MHz toward the frequency the engine is to run at (R384). -/
def freqRampStep (s : State) : State :=
  let c := s.clk
  if c.stopped then s
  else if c.f < c.target then { s with clk := { c with f := min c.target (c.f + 25) } }
  else { s with clk := { c with f := max c.target (c.f - 25) } }

/-- An emergency lowering: the source's limit becomes the frequency applied now less an amount (R398). -/
def State.emergency (s : State) (i amount : Nat) : State := s.setLimit i (s.clk.f - amount)

/-- A source limit lowered or raised by one step; limits are held while the cupola's firmware changes (R398, R448). -/
def State.lowerLimit (s : State) (i : Nat) : State := if s.handingOver then s else s.setLimit i (s.srcLimit i - 25)
def State.raiseLimit (s : State) (i : Nat) : State := if s.handingOver then s else s.setLimit i (s.srcLimit i + 25)

/-- How many ticks in a row a condition has held, counted on; the count starts anew where it fails. -/
def State.runOf (s : State) (key : Nat) (cond : Bool) : Nat × State :=
  let n := if cond then Tbl.get 0 s.clk.runs key + 1 else 0
  (n, { s with clk := { s.clk with runs := Tbl.set 0 s.clk.runs key n } })

/-- A step taken every `n` ticks for which a condition holds (R398). -/
def State.everyTicks (s : State) (key n : Nat) (cond : Bool) (act : State → State) : State :=
  match s.runOf key cond with
  | (k, s) => if 0 < k ∧ k % n = 0 then act s else s

/-- The next 64 cycles stretched; the stretch counts toward the risk level (R400, R430). -/
def State.stretchNow (s : State) : State :=
  { s with clk := { s.clk with stretch := 64, stretched := true, stretches := s.recentMs s.clk.stretches ++ [s.clk.ts] } }.noteRisk
    0 1 0

/-- DROOP_TRIP: more than 16 stretches in 1 ms lower the droop limit; in a borrowed area the trip acts on its margin
clock only (R398, R400, R410). -/
def droopTrip (a : Nat) (s : State) : State :=
  let x := s.area a
  if !x.on || x.borrowed then s
  else
    let r := s.areaRec a
    let s := (s.setAreaRec a { r with stretch := min 0xFFFFFFFF (r.stretch + 1) }).stretchNow
    let n := s.clk.stretches.length
    if n % 17 = 0 then s.emergency 4 25 else s

/-- DROOP_LIMIT_TICK, every 10 ms (R398). -/
def droopLimitTick (s : State) : State :=
  let quiet := !s.clk.stretched
  let s : State := { s with clk := { s.clk with stretched := false } }
  if quiet then s.raiseLimit 4 else s

/-- Whether a dome may enter IDLE (R391). -/
def State.domeQuiet (s : State) (d : Nat) : Bool :=
  wbit (s.bar (clkBase + 0x1C)) 31 && !(wbit (s.bar (clkBase + 0x20)) d)
    && ((List.range 24).all fun i => !(s.area (d * 24 + i)).borrowed)
    && s.cores.all fun x =>
      siteDome (Fin.ofNat 294912 x.1) != d || (!(s.region x.2.rgnId).conf && x.2.march.isNone && (List.range 4).all fun b =>
        !(x.2.mapped b) && !(wbit (x.2.bankCtl b) 9) && !(x.2.pwrState b == 0 && wbit (x.2.bankCtl b) 4))

/-- DOME_IDLE_ENTRY: the dome has been quiet for DELAY_MS (R391). -/
def domeIdleEntry (d : Nat) (s : State) : State := if s.domeState d = 0 && s.domeQuiet d then s.setDome d 1 else s

/-- DOME_WAKE_DONE (R392). -/
def domeWakeDone (d : Nat) (s : State) : State := if s.domeState d = 2 then s.setDome d 0 else s

/-- CLK_HOLD written: a 1 wakes an IDLE dome, and aborts a cross-check in it (R392, R405, R416). -/
def clkHoldWrite (v : Word) (s : State) : State :=
  s.barAccess (clkBase + 0x20) fun s =>
    let s := s.setBar (clkBase + 0x20) (v &&& 0xFFF)
    (List.range 12).foldl (fun (s : State) d =>
      if wbit v d then (s.wakeDome d).abortXchk ((List.range 24).map fun i => d * 24 + i) else s) s

/-- REF_WINDOW_END (R386). -/
def execRefWindowEnd (ppm : Int) (s : State) : Res := .next (refWindowEnd ppm s)

/-- REF_STOPPED (R386). -/
def execRefStopped (s : State) : Res := .next (refStopped s)

/-- FREQ_RAMP_STEP (R384). -/
def execFreqRampStep (s : State) : Res := .next (freqRampStep s)

/-- DROOP_TRIP (R400). -/
def execDroopTrip (a : Fin 288) (s : State) : Res := .next (droopTrip a.val s)

/-- DROOP_LIMIT_TICK (R398). -/
def execDroopLimitTick (s : State) : Res := .next (droopLimitTick s)

/-- DOME_IDLE_ENTRY (R391). -/
def execDomeIdleEntry (d : Fin 12) (s : State) : Res := .next (domeIdleEntry d.val s)

/-- DOME_WAKE (R392). -/
def execDomeWake (d : Fin 12) (s : State) : Res := .next (s.wakeDome d.val)

/-- DOME_WAKE_DONE (R392). -/
def execDomeWakeDone (d : Fin 12) (s : State) : Res := .next (domeWakeDone d.val s)

/-- CLK_HOLD_WRITE (R392). -/
def execClkHoldWrite (v : Word) (s : State) : Res := .next (clkHoldWrite v s)

end Sys2Proof.Machine
end

