-- ==== Sys2Proof/Machine/Power.lean ====
section
/-!
DEFINITION. Supply, heat and energy: area trips and their retry, SUPPLY_FATAL and THERMAL_TRIP, the source limits, the
power cap, sensors and the energy counter (R393-R406).
-/

namespace Sys2Proof.Machine

/-- The causes of SUPPLY_FATAL (R397). -/
def cUNDERVOLT : Nat := 1
def cOVERVOLT : Nat := 2
def cOVERCURRENT : Nat := 3
def cAUX : Nat := 4
def cMULTI_AREA : Nat := 5
def cSPIRE_BUS : Nat := 6

/-- SUPPLY_FATAL or THERMAL_TRIP: the event, its log record, and the cupola begins to park the domes (R397, R416). -/
def State.fatalStop (s : State) (cls cause : Nat) : State :=
  if s.pwr.fatal || !s.boot.powerGood then s
  else
    let s := ((s.raise cls (evData cause 0)).logRec 0x0A [cls, cause]).dropXchk
    { s with pwr := { s.pwr with fatal := true }, clk := { s.clk with parking := !s.clk.stopped } }

/-- The sites of an area (R25). -/
def areaSites (a : Nat) : List SiteId :=
  (List.range 1024).map fun i => domeSite (a / 24) (a % 24 / 6 * 32 + i / 32) (a % 6 * 32 + i % 32)

/-- The mask of one area. -/
def areaMask (a : Nat) : BitVec 288 := BitVec.ofNat 288 (2 ^ a)

/-- What an area loses with its supply: its regions fault, its march tests end, its cores and routers lose their state,
packets on their way at its sites are lost, attachments there are unusable in both versions (R26, R196, R197, R395). -/
def State.loseArea (s : State) (a : Nat) : State :=
  let mine (x : Nat) : Bool := siteArea (Fin.ofNat 294912 x) == a
  let sites := (s.cores.filter fun x => mine x.1).map fun x => (Fin.ofNat 294912 x.1 : SiteId)
  let s := sites.foldl (fun (s : State) k => (s.marchStop k).fenceFault k 9) s
  let s := { s with
    cores := s.cores.filter fun x => !(mine x.1)
    routers := s.routers.filter fun x => !(mine x.1)
    fab := ({ s.fab with flights := s.fab.flights.filter fun f => siteArea f.site != a } : Fab) }
  { s with fab := (s.fab.setUsable false (areaMask a) false).setUsable true (areaMask a) false }

/-- A fence under way is sent anew around what is lost (R194). -/
def State.fenceAnew (s : State) : State :=
  match wbit s.epochReg 2, s.fab.flip with
  | true, some f => (s.mapCores fun _ c => { c with net := { c.net with fdSent := false } }).beginFence f
  | _, _ => s

/-- An area latched off: its sites are RETIRED (R395, R407, R423). -/
def State.latchArea (s : State) (a : Nat) : State :=
  let s := s.setAreaRec a { s.areaRec a with st := 2 }
  (areaSites a).foldl (fun (s : State) k => s.setSite k { s.siteRec k with st := 3, reason := fLATCHED }) s

/-- The areas that have tripped within the last 100 ms (R396). -/
def State.recentTrips (s : State) : List (DWord × Nat) :=
  s.pwr.trips.filter fun x => decide ((s.clk.ts - x.1).toNat < 100000000)

/-- AREA_TRIP: of an area that is on, or in the soft start of its retry (R395, R396, R416, R423). The log's outcome is
0 for a trip, 1 for a retry, 2 for a latch. -/
def areaTrip (a : Nat) (s : State) : State :=
  let x := s.area a
  if !x.on && !x.starting then s
  else
    let s := s.bumpBar (pwrBase + 0x80) (pwrBase + 0x84) 0 1
    let r := s.areaRec a
    let latch := x.starting || r.st == 1
    let s := s.setAreaRec a { r with trips := min 255 (r.trips + 1), lastTrip := s.today }
    let trips := s.recentTrips ++ [(s.clk.ts, a)]
    let multi := decide (4 < (trips.map (·.2)).eraseDups.length)
    let s := { s with pwr := { s.pwr with trips := trips } }
    let s := if x.borrowed then s.endXchk a stINTEGRITY else s
    let s := s.setArea a { on := false, awaiting := !latch && !multi, starting := false, borrowed := false }
    let s := if x.on then (s.loseArea a).epochBit 4 true else s
    let s := if latch then s.latchArea a else s
    let s := s.logRec 4 [a, if latch then 2 else 0]
    let s := (s.raise 0x12 (evData (a + (latch.toNat <<< 9)) 0)).fenceAnew
    if multi then
      let s := trips.foldl (fun (s : State) t => s.setArea t.2 { s.area t.2 with awaiting := false, starting := false }) s
      s.fatalStop 4 cMULTI_AREA
    else s

/-- AREA_RETRY: 100 ms after its trip an area soft-starts once (R395). -/
def areaRetry (a : Nat) (s : State) : State :=
  let x := s.area a
  if x.awaiting && !s.pwr.fatal then
    ((s.setArea a { x with awaiting := false, starting := true }).setAreaRec a { s.areaRec a with st := 1 }).logRec 4 [a, 1]
  else s

/-- AREA_RETRY_DONE: the area is powered again, its banks initialised, its routers at their defaults; its cores stay
fenced (R395, R408, R422). -/
def areaRetryDone (a : Nat) (s : State) : State :=
  let x := s.area a
  if !x.starting then s
  else
    let s := s.setArea a { x with on := true, starting := false }
    (areaSites a).foldl (fun (s : State) k =>
      let r := s.siteRec k
      (s.applyFence k (if r.st = 2 then r.reason else fAREALOST)).assignSpares k) s

/-- Everything outside the flash, the fuses and the host is lost with the service domain's supply (R394, R440, R478): a
slot being written reads bad. -/
def State.powerOff (s : State) : State :=
  let z := State.reset
  let slots := match s.fw.staging with
    | none => s.fw.slot
    | some (t, _) =>
      let i := 2 * t + (1 - Tbl.get 0 s.fw.run t)
      Tbl.set FwSlot.reset s.fw.slot i { Tbl.get FwSlot.reset s.fw.slot i with bad := true, staged := false }
  let s' : State := { z with
    pending := s.pending, fresh := s.fresh
    host := { z.host with mem := s.host.mem, sent := s.host.sent }
    rel := { s.rel with xchk := [], recent := [], now := (0, 0, 0), armed := true, commit := none }
    fw := { z.fw with slot := slots, run := s.fw.run, minSvn := s.fw.minSvn }
    sec := { z.sec with owner := s.sec.owner, imgKey := s.sec.imgKey, ident := s.sec.ident, bootPol := s.sec.bootPol
                        lockBoot := s.sec.lockBoot, makerSeen := s.sec.makerSeen }
    boot := { z.boot with histOk := s.boot.histOk, perst := s.boot.perst, seat := s.boot.seat, inputSw := s.boot.inputSw } }
  s'.setBar (relBase + 0x1C) (s.bar (relBase + 0x1C))

/-- INPUT_VOLTAGE_EXCURSION: the input has stood at a voltage for a time (R394). -/
def inputVoltage (mv us : Nat) (s : State) : State :=
  let s := { s with pwr := { s.pwr with millivolt := mv } }
  if us < 100 then s
  else if mv < 36000 then { s.powerOff with pwr := { s.powerOff.pwr with millivolt := mv } }
  else if mv < 48000 then s.fatalStop 4 cUNDERVOLT
  else if 61000 < mv then s.fatalStop 4 cOVERVOLT
  else if 59000 < mv then s.logRec 5 [mv, us]
  else s

/-- The stacks lose their contents (R397). -/
def State.loseStacks (s : State) : State :=
  { s with stks := { tbl := s.stks.tbl.foldl (fun (t : Tbl Stack) (x : Nat × Stack) =>
      Tbl.set Stack.reset t x.1 { Stack.reset with st := x.2.st, cands := x.2.cands }) [], digest := none } }

/-- Every spire and auxiliary converter off: core, router and stack state is lost; fences of restored areas are the
cupola's and stand (R397, R408). -/
def State.darken (s : State) : State :=
  let s := { s with
    cores := []
    routers := s.routers.foldl (fun (t : Tbl Router) (x : Nat × Router) =>
      if x.2.fence = some 4 then Tbl.set Router.reset t x.1 { Router.reset with fence := some 4 } else t) []
    pwr := { s.pwr with area := s.pwr.area.foldl (fun (t : Tbl Area) (x : Nat × Area) =>
      Tbl.set Area.reset t x.1 { Area.reset with awaiting := x.2.awaiting || x.2.starting }) [] } }
  s.loseStacks

/-- SPIRE_SHUTDOWN: 1 ms after SUPPLY_FATAL or THERMAL_TRIP (R397). -/
def spireShutdown (s : State) : State :=
  if !s.pwr.fatal then s
  else
    let s := if s.clk.stopped then s else s.park
    let s := linkDown s.darken
    { s with boot := { s.boot with portUp := false, coreUp := false } }

/-- CEILING_W of the capability mirror (R39). -/
def State.ceiling (s : State) : Nat := wfld (s.bar 0x54) 0 16

/-- A cap as it is stored; before the mirror is loaded no more than any assembly may draw (R39, R399). -/
def State.clampCap (s : State) (w : Nat) : Nat :=
  let top := if wbit (s.bar 0x40) 0 then s.ceiling else 28000
  if top < w then top else max 8000 w

/-- The effective cap (R399). -/
def State.cap (s : State) : Nat := min (wfld (s.bar (pwrBase + 4)) 0 16) (min s.pwr.chassis s.ceiling)

/-- PWR_CAP_W written (R399, R406). -/
def pwrCapWrite (v : Word) (s : State) : State :=
  s.barAccess (pwrBase + 4) fun s => s.setBar (pwrBase + 4) (BitVec.ofNat 32 (s.clampCap (wfld v 0 16)))

/-- CHASSIS_CAP_W set (R399). -/
def chassisCapSet (w : Nat) (s : State) : State := { s with pwr := { s.pwr with chassis := s.clampCap w } }

/-- Control power: the measured power, or the higher of it and the estimate (R399, R401). -/
def State.setControl (s : State) : State :=
  { s with pwr := { s.pwr with control := if s.pwr.useMax then max s.pwr.power s.pwr.estimate else s.pwr.power } }

/-- POWER_CAP_TICK, every 100 µs (R398, R399). -/
def powerCapTick (w : Nat) (s : State) : State :=
  let s := { s with pwr := { s.pwr with power := w } }.setControl
  let p := s.pwr.control
  let low := decide (p * 100 < s.cap * 97)
  let s' := s.everyTicks 1 10 low fun s => s.raiseLimit 1
  if s.cap * 11 ≤ p * 10 then s'.emergency 1 100 else if s.cap < p then s'.lowerLimit 1 else s'

/-- CURRENT_LIMIT_TICK, every 10 µs (R398). -/
def currentLimitTick (ma : Nat) (s : State) : State :=
  let s := { s with pwr := { s.pwr with milliamp := ma } }
  let s := s.everyTicks 2 100 (decide (ma < 540000)) fun s => s.raiseLimit 2
  if 550000 < ma then s.stretchNow.emergency 2 50 else s

/-- ACTIVITY_ESTIMATE, every 100 µs: estimate and measurement compared; an episode in which control power has been the
higher of the two is recorded when it ends (R401, R425). -/
def activityEstimate (e w : Nat) (s : State) : State :=
  let diff := max e w - min e w
  let far := decide (w < 4 * diff)
  let pct := if w = 0 then 0 else 100 * diff / w
  let p := s.pwr
  let ep : Option (Nat × Nat × Nat) := match p.episode, far with
    | some (t, n, m), _ => some (t, n + 1, max m pct)
    | none, true => some (s.rel.minutes * 60 + s.rel.seconds, 1, pct)
    | none, false => none
  let differ := if far then p.differ + 1 else 0
  let agree := if far then 0 else p.agree + 1
  let on := p.useMax || decide (100 < differ)
  let ends := on && decide (10000 ≤ agree)
  let keep := if on && !ends then ep else if far then ep else none
  let s : State := { s with pwr := { p with power := w, estimate := e, differ := differ, agree := agree, useMax := on && !ends, episode := keep } }
  let s := s.setControl
  match ends, ep with
  | true, some (t, n, m) => s.logRec 6 [t, n / 10, m]
  | _, _ => s

/-- The throttle, emergency, trip and restart temperatures of a sensor; none where it limits nothing (R403). -/
def sensorLimits (n : Nat) : Option (Int × Int) × Int × Int :=
  if n < 288 then (some (95, 100), 110, 85)
  else if n < 304 then (some (100, 105), 115, 90)
  else if n < 336 then (some (88, 93), 105, 80)
  else if n < 338 then (none, 115, 90)
  else (none, 70, 55)

/-- A reading of the sensors, those of stacks that are not populated at 0 (R403). -/
def State.readings (s : State) (t : List Int) : List Int :=
  (List.range 339).map fun n => if decide (304 ≤ n) && decide (n < 336) && !(s.populated (n - 304)) then 0 else t.getD n 0

/-- SENSOR_READ, every 100 µs (R398, R403). -/
def sensorRead (t : List Int) (s : State) : State :=
  let cur := s.readings t
  let was := s.pwr.sensors
  let at_ (n : Nat) : Int := cur.getD n 0
  let ix := List.range 339
  let hot := ix.any fun n => match (sensorLimits n).1 with
    | some (thr, _) => decide (thr < at_ n)
    | none => false
  let cool := ix.all fun n => match (sensorLimits n).1 with
    | some (thr, _) => decide (at_ n ≤ thr - 3)
    | none => true
  let reached := ix.any fun n => match (sensorLimits n).1 with
    | some (_, em) => decide (em ≤ at_ n) && decide (was.getD n 0 < em)
    | none => false
  let trip := ix.filter fun n => decide ((sensorLimits n).2.1 ≤ at_ n)
  let again := trip.find? fun n => s.pwr.atTrip.contains n
  let s := { s with pwr := { s.pwr with sensors := cur, atTrip := trip } }
  let s := if reached then s.emergency 3 200 else s
  let s := s.everyTicks 3 10 hot fun s => s.lowerLimit 3
  let s := s.everyTicks 4 100 cool fun s => s.raiseLimit 3
  match again with
  | some n => s.fatalStop 3 n
  | none => s

/-- Every sensor lies below its restart temperature (R397, R403). -/
def State.coolEnough (s : State) : Bool :=
  (List.range 339).all fun n => decide (s.pwr.sensors.getD n 0 < (sensorLimits n).2.2)

/-- ENERGY_UPDATE (R404). -/
def energyUpdate (uj : Nat) (s : State) : State := s.add64 (pwrBase + 8) uj

/-- ENERGY_SNAPSHOT (R330, R332, R404). -/
def energySnapshot (r : Fin 256) (j : Nat) (s : State) : State :=
  s.hostOp r j 0x1C fun req _ s =>
    s.gateOp 2 req fun s =>
      s.complete req stOK 0 (BitVec.ofNat 128 ((s.ctr64 (pwrBase + 8)).toNat + (s.clk.ts.toNat <<< 64)))

/-- AREA_TRIP (R395). -/
def execAreaTrip (a : Fin 288) (s : State) : Res := .next (areaTrip a.val s)

/-- AREA_RETRY (R395). -/
def execAreaRetry (a : Fin 288) (s : State) : Res := .next (areaRetry a.val s)

/-- AREA_RETRY_DONE (R395). -/
def execAreaRetryDone (a : Fin 288) (s : State) : Res := .next (areaRetryDone a.val s)

/-- INPUT_VOLTAGE_EXCURSION (R394). -/
def execInputVoltageExcursion (mv us : Nat) (s : State) : Res := .next (inputVoltage mv us s)

/-- INPUT_OVERCURRENT (R397). -/
def execInputOvercurrent (s : State) : Res := .next (s.fatalStop 4 cOVERCURRENT)

/-- AUX_FAULT (R397). -/
def execAuxFault (s : State) : Res := .next (s.fatalStop 4 cAUX)

/-- SPIRE_BUS_LOSS: control of any spire (R397). -/
def execSpireBusLoss (_a : Fin 288) (s : State) : Res := .next (s.fatalStop 4 cSPIRE_BUS)

/-- SPIRE_SHUTDOWN (R397). -/
def execSpireShutdown (s : State) : Res := .next (spireShutdown s)

/-- POWER_CAP_TICK (R398). -/
def execPowerCapTick (measuredW : Nat) (s : State) : Res := .next (powerCapTick measuredW s)

/-- CURRENT_LIMIT_TICK (R398). -/
def execCurrentLimitTick (milliamps : Nat) (s : State) : Res := .next (currentLimitTick milliamps s)

/-- ACTIVITY_ESTIMATE (R401). -/
def execActivityEstimate (estimateW measuredW : Nat) (s : State) : Res :=
  .next (activityEstimate estimateW measuredW s)

/-- SENSOR_READ (R403). -/
def execSensorRead (t : List Int) (s : State) : Res := .next (sensorRead t s)

/-- ENERGY_UPDATE (R404). -/
def execEnergyUpdate (uj : Nat) (s : State) : Res := .next (energyUpdate uj s)

/-- ENERGY_SNAPSHOT (R404). -/
def execEnergySnapshot (r : Fin 256) (j : Nat) (s : State) : Res := .next (energySnapshot r j s)

/-- PWR_CAP_WRITE (R399). -/
def execPwrCapWrite (v : Word) (s : State) : Res := .next (pwrCapWrite v s)

/-- CHASSIS_CAP_SET (R399). -/
def execChassisCapSet (w : Nat) (s : State) : Res := .next (chassisCapSet w s)

end Sys2Proof.Machine
end

