-- ==== Sys2Proof/Machine/Reliab.lean ====
section
/-!
DEFINITION. Self-test: cross-checks and what their signatures charge, march tests asked for, the risk level, the history
records the host reads, floor plans (R409-R418, R420-R431, R435).
-/

namespace Sys2Proof.Machine

/-- Whether some core of an area meets a condition. -/
def State.areaCores (s : State) (a : Nat) (p : Core → Bool) : Bool :=
  s.cores.any fun x => siteArea (Fin.ofNat 294912 x.1) == a && p x.2

/-- Whether an area is idle (R409). -/
def State.areaIdle (s : State) (a : Nat) : Bool :=
  let x := s.area a
  x.on && !x.borrowed && (s.areaRec a).st != 2
    && !(s.areaCores a fun c => (s.region c.rgnId).conf || c.march.isSome || (List.range 4).any fun b =>
      c.mapped b || wbit (c.bankCtl b) 4 || wbit (c.bankCtl b) 9)

/-- A SUSPECT site of an area, the lowest first (R407). -/
def State.areaSuspects (s : State) (a : Nat) : List SiteId := (areaSites a).filter fun k => (s.siteRec k).st == 1

/-- An area borrowed for a cross-check, with the seeds of its first pass drawn (R410, R412). -/
def State.borrow (s : State) (req : Option (Nat × Nat)) (a m vstep kernel passes : Nat) : State :=
  match s.draw with
  | (n, s) =>
    let s := s.setArea a { s.area a with borrowed := true }
    { s with rel := { s.rel with xchk := s.rel.xchk ++ [{ req := req, area := a, m := m, vstep := vstep, kernel := kernel
                                                          passes := passes, charged := [], thirds := 0, arbs := 0
                                                          draw := n, arb := [] }] } }

/-- CROSS_CHECK: a scheduled pass in the area gives way to it (R414-R416). -/
def crossCheck (r : Fin 256) (j : Nat) (s : State) : State :=
  s.testOp r j 1 fun req d s =>
    let a := d.f 0xC 4
    let p := d.f 0x10 4
    let own := s.rel.xchk.any fun x => x.area == a && x.passes != 0 && x.req.isSome
    if !(s.area a).on || (s.areaRec a).st == 2 then (s.testDone req stFENCED).complete req stFENCED
    else if own then (s.testDone req stBUSY).complete req stBUSY
    else
      let s := s.endXchk a stPARTIAL
      if !(s.areaIdle a) then (s.testDone req stBUSY).complete req stBUSY
      else s.wakeFor [a / 24] fun s => (s.setBusy req).borrow (some req) a (fld p 0 4) (fld p 4 4) (fld p 8 8) (fld p 16 8)

/-- The corners of the scheduler, m and VSTEP by index (R411). -/
def cornerAt : Nat → Nat × Nat
  | 0 => (0, 0)
  | 1 => (0, 4)
  | 2 => (0, 8)
  | 3 => (4, 0)
  | 4 => (8, 0)
  | _ => (4, 4)

/-- REL_SCHED (R435). -/
def State.relSched (s : State) : Word := s.bar (relBase + 4)

/-- The next corner index of an area's rotation that CORNER_MASK allows (R415, R435). -/
def State.nextCorner (s : State) (a : Nat) : Nat :=
  let mask := if wfld s.relSched 16 6 = 0 then 1 else wfld s.relSched 16 6
  (((List.range 6).map fun i => ((s.areaRec a).corner + i) % 6).find? fun i => mask.testBit i).getD 0

/-- SCHEDULED_PASS: the idle area tested longest ago, at its pending retest's corner or the next of its rotation
(R415). -/
def scheduledPass (s : State) : State :=
  if !(wbit s.relSched 31) || !s.ready || s.clk.stopped || s.clk.parking then s
  else
    let best := (List.range 288).foldl (fun (b : Option Nat) a =>
      if !(s.areaIdle a) then b
      else match b with
        | none => some a
        | some c => if (s.areaRec a).lastTest < (s.areaRec c).lastTest then some a else b) none
    match best with
    | none => s
    | some a =>
      let c := match s.areaSuspects a with
        | k :: _ => ((s.siteRec k).m, (s.siteRec k).vstep)
        | [] => cornerAt (s.nextCorner a)
      s.wakeFor [a / 24] fun s => s.borrow none a c.1 c.2 6 1

/-- A site's own signature of a pass, and those of the kernels it ran again (R412, R413). -/
def sigOf (sigs : List (SiteId × DWord)) (k : SiteId) : Option DWord := (sigs.find? fun x => x.1 == k).map (·.2)
def rerunsOf (sigs : List (SiteId × DWord)) : List (SiteId × DWord) :=
  (sigs.foldl (fun (a : List SiteId × List (SiteId × DWord)) x =>
    if a.1.contains x.1 then (a.1, a.2 ++ [x]) else (a.1 ++ [x.1], a.2)) ([], [])).2

/-- The next run of a kernel that a site has made again, taken off the list. -/
def takeRerun (rs : List (SiteId × DWord)) (k : SiteId) : Option DWord × List (SiteId × DWord) :=
  match rs.find? fun x => x.1 == k with
  | some x => (some x.2, rs.erase x)
  | none => (none, rs)

/-- How far a site lies from another: one of the same row first, then by distance, then by number (R413). -/
def farFrom (k c : SiteId) : Nat :=
  let dx := max (siteX k) (siteX c) - min (siteX k) (siteX c)
  let dy := max (siteY k) (siteY c) - min (siteY k) (siteY c)
  ((if dy = 0 then 0 else 2 ^ 12) + dx + dy) * 294912 + c.val

/-- The nearest of some sites to a site. -/
def nearestTo (k : SiteId) (cs : List SiteId) : Option SiteId :=
  cs.foldl (fun (b : Option SiteId) c =>
    match b with
    | none => some c
    | some x => if farFrom k c < farFrom k x then some c else b) none

/-- One comparison of a pass: the pair's number, the two sites and their signatures (R412). -/
structure PairSig where
  pair : Nat
  a    : SiteId
  b    : SiteId
  sa   : DWord
  sb   : DWord
  deriving DecidableEq, Repr

/-- What the signatures of a pass give: the comparisons, the sites that agreed, the runs made again that are left; `inUse`
says which sites' signatures count, `good` which are GOOD. An unpaired site is compared with the nearest GOOD one of its
row that agreed (R412, R416). -/
def comparePairs (sites : List SiteId) (inUse good : SiteId → Bool) (sigs : List (SiteId × DWord)) :
    List PairSig × List SiteId × List (SiteId × DWord) :=
  let sig (k : SiteId) : Option DWord := if inUse k then sigOf sigs k else none
  let pairs : List (Nat × SiteId × SiteId) := (List.range 512).filterMap fun p =>
    match sites[2 * p]?, sites[2 * p + 1]? with
    | some a, some b => some (p, a, b)
    | _, _ => none
  let full : List PairSig := pairs.filterMap fun (x : Nat × SiteId × SiteId) =>
    match sig x.2.1, sig x.2.2 with
    | some u, some v => some { pair := x.1, a := x.2.1, b := x.2.2, sa := u, sb := v }
    | _, _ => none
  let agreed := full.flatMap fun x => if x.sa = x.sb then [x.a, x.b].filter good else []
  let alone : List (Nat × SiteId × DWord) := pairs.filterMap fun (x : Nat × SiteId × SiteId) =>
    match sig x.2.1, sig x.2.2 with
    | some u, none => some (x.1, x.2.1, u)
    | none, some v => some (x.1, x.2.2, v)
    | _, _ => none
  let extra := alone.foldl (fun (r : List PairSig × List (SiteId × DWord)) x =>
    match nearestTo x.2.1 (agreed.filter fun c => siteY c == siteY x.2.1) with
    | none => r
    | some c =>
      match takeRerun r.2 c with
      | (some v, rs) => (r.1 ++ [{ pair := x.1, a := x.2.1, b := c, sa := x.2.2, sb := v }], rs)
      | (none, rs) => (r.1, rs)) ([], rerunsOf sigs)
  (full ++ extra.1, agreed, extra.2)

/-- A failure charged by a cross-check (R413, R418). -/
def State.chargeIn (s : State) (x : Xchk) (k : SiteId) : State × Xchk :=
  (s.charge k x.m x.vstep x.kernel, { x with charged := x.charged ++ [k.val] })

/-- A disagreement resolved: by the nearest GOOD site that agreed, else by the cupola's software (R413). -/
def State.resolvePair (s : State) (x : Xchk) (agreed : List SiteId) (rs : List (SiteId × DWord)) (p : PairSig) :
    State × Xchk × List (SiteId × DWord) :=
  let s := s.bumpBar (relBase + 0x24) (relBase + 0x2C) 0 1
  let soft (more : List (SiteId × DWord)) : Xchk :=
    { x with arbs := x.arbs + 1, arb := x.arb ++ [(p.pair, x.draw, [(p.a, p.sa), (p.b, p.sb)] ++ more)] }
  match nearestTo p.a (agreed.filter fun c => c != p.a && c != p.b) with
  | none => (s, soft [], rs)
  | some c =>
    match takeRerun rs c with
    | (none, rs) => (s, soft [], rs)
    | (some v, rs) =>
      let x' : Xchk := { x with thirds := x.thirds + 1 }
      if v = p.sa then
        let y := s.chargeIn x' p.b
        (y.1, y.2, rs)
      else if v = p.sb then
        let y := s.chargeIn x' p.a
        (y.1, y.2, rs)
      else (s, soft [(c, v)], rs)

/-- The checkers of an area's sites hold the seed and the signature of the pass (R108, R412). -/
def State.leaveSigs (s : State) (x : Xchk) (sites : List SiteId) (sigs : List (SiteId × DWord)) : State :=
  ((sites.zip (List.range sites.length)).foldl (fun (s : State) e =>
    match sigs.reverse.find? fun y => y.1 == e.1 with
    | none => s
    | some y =>
      let seed := leNat ((List.range 8).map fun i => Config.freeByte x.draw (8 * (e.2 / 2) + i))
      s.modCore e.1 fun c =>
        let c := ((c.setReg 0x100B04 1).setReg 0x100B08 (BitVec.ofNat 32 seed)).setReg 0x100B0C (BitVec.ofNat 32 (seed >>> 32))
        { c with checker := { c.checker with misr := y.2 } }) s)

/-- The status a cross-check ends with (R414). -/
def Xchk.status (x : Xchk) : Nat := if x.charged = [] then stOK else stINTEGRITY

/-- A cross-check put back, or appended. -/
def State.putXchk (s : State) (x : Xchk) : State :=
  { s with rel := { s.rel with xchk := s.rel.xchk.map fun y => if y.area = x.area ∧ y.passes ≠ 0 then x else y } }

/-- A cross-check's last pass is over: its area is released, and it waits for the cupola's software where it owes an
arbitration (R410, R413, R414). -/
def State.lastPass (s : State) (x : Xchk) : State :=
  if x.arb = [] then
    let s : State := { s with rel := { s.rel with xchk := s.rel.xchk.filter fun y => y.area != x.area || y.passes == 0 } }
    (s.releaseArea x.area).closeXchk x x.status
  else (s.putXchk x).releaseArea x.area

/-- The pairs whose signatures differ, resolved in order (R412, R413). -/
def State.resolvePairs (s : State) (x : Xchk) (agreed : List SiteId) (rs : List (SiteId × DWord)) (ps : List PairSig) :
    State × Xchk × List (SiteId × DWord) :=
  ps.foldl (fun (r : State × Xchk × List (SiteId × DWord)) p => r.1.resolvePair r.2.1 agreed r.2.2 p) (s, x, rs)

/-- The end of a pass of an area's test: its record, and the next pass or the end of the test (R415, R418). -/
def State.passEnd (s : State) (x x' : Xchk) (anySus : Bool) : State :=
  let ar := s.areaRec x.area
  let ar := { ar with lastTest := s.rel.minutes }
  let ar := if x.req.isNone && !anySus then { ar with corner := (s.nextCorner x.area + 1) % 6 } else ar
  let s := s.setAreaRec x.area ar
  if x.passes ≤ 1 then s.lastPass { x' with passes := 0 }
  else match s.draw with
    | (n, s) => s.putXchk { x' with passes := x.passes - 1, draw := n }

/-- XCHECK_PASS_DONE: the signatures of the area's sites, each site's own first and then, in order, those of the kernels
it ran again (R412, R413, R418, R423). -/
def xcheckPassDone (sigs : List (SiteId × DWord)) (s : State) : State :=
  match sigs with
  | [] => s
  | (k0, _) :: _ =>
    match s.rel.xchk.find? fun x => x.area == siteArea k0 && x.passes != 0 with
    | none => s
    | some x =>
      let sites := areaSites x.area
      let inUse (k : SiteId) : Bool := decide ((s.siteRec k).st < 2)
      let good (k : SiteId) : Bool := (s.siteRec k).st == 0
      let due := sites.filter fun k =>
        let r := s.siteRec k
        r.st == 1 && r.m == x.m && r.vstep == x.vstep && (sigOf sigs k).isSome
      let anySus := sites.any fun k => (s.siteRec k).st == 1
      let cmp := comparePairs sites inUse good sigs
      let s := s.leaveSigs x sites sigs
      let res := s.resolvePairs x cmp.2.1 cmp.2.2 (cmp.1.filter fun p => p.sa != p.sb)
      let open_ := (res.2.1.arb.drop x.arb.length).flatMap fun e => e.2.2.map (·.1)
      let s := (due.filter fun k => !(open_.contains k)).foldl (fun (s : State) k => s.retested k) res.1
      s.passEnd x res.2.1 anySus

/-- The signature the cupola's software computes for a pair's seed (R413). -/
def refSig (kernel draw pair : Nat) : DWord :=
  Config.kernelSignature kernel (BitVec.ofNat 64 (leNat ((List.range 8).map fun i => Config.freeByte draw (8 * pair + i))))

/-- One site's signature judged against the software's (R413). -/
def State.arbSite (s : State) (x0 x : Xchk) (ref : DWord) (y : SiteId × DWord) : State × Xchk :=
  let q := s.siteRec y.1
  let r := if y.2 = ref then (s, x) else s.chargeIn x y.1
  if q.st == 1 && q.m == x0.m && q.vstep == x0.vstep then (r.1.retested y.1, r.2) else r

/-- One arbitration: the count of arbitrations, and its sites in order (R413). -/
def State.arbOne (s : State) (x0 x : Xchk) (ref : DWord) (ys : List (SiteId × DWord)) : State × Xchk :=
  ys.foldl (fun (r : State × Xchk) y => r.1.arbSite x0 r.2 ref y) (s.bumpBar (relBase + 0x28) (relBase + 0x2C) 1 1, x)

/-- SOFTWARE_ARBITRATION_DONE: every site whose signature differs from the software's is charged; a retest that had
waited for it is done (R413, R414, R418). -/
def softwareArbitrationDone (s : State) : State :=
  match s.rel.xchk.find? fun x => x.passes == 0 with
  | none => s
  | some x =>
    let s : State := { s with rel := { s.rel with xchk := s.rel.xchk.erase x } }
    let res := x.arb.foldl (fun (r : State × Xchk) e =>
      r.1.arbOne x r.2 (refSig x.kernel e.2.1 e.1) e.2.2) (s, x)
    res.1.closeXchk res.2 res.2.status

/-- MARCH_PRESERVING and MARCH_DESTRUCTIVE: governed by R168 alone (R416, R417). -/
def marchTest (kind : Nat) (r : Fin 256) (j : Nat) (s : State) : State :=
  s.testOp r j (kind + 2) fun req d s =>
    let t := d.f 0xC 4
    let k := mkSite (fld t 0 10) (fld t 10 9)
    if !(s.siteOn k) then (s.testDone req stFENCED).complete req stFENCED
    else s.wakeFor [siteDome k] fun s =>
      let s := s.abortXchk [siteArea k]
      let how := if kind = 0 then 1 else 0
      if (s.core k).march.isSome then (s.testDone req stBUSY).complete req stBUSY
      else
        let s := s.modCore k fun c => c.marchBegin how (fld (d.f 0x10 4) 0 2) (some req)
        let res := wfld ((s.core k).reg 0x1004A4) 28 3
        if res = 4 then (s.testDone req stBUSY).complete req stBUSY
        else if res = 5 then (s.testDone req stDENIED).complete req stDENIED
        else s.setBusy req

/-- UE_PRESERVING_TEST: after an uncorrectable error the cupola tests the bank once it is unmapped (R417). -/
def uePreserving (k : SiteId) (s : State) : State :=
  let c := s.core k
  let ue := c.reg 0x100494
  let b := wfld ue 16 2
  if !(wbit ue 31) || !(s.siteOn k) || !(s.siteRuns k) || c.mapped b || c.march.isSome || (s.area (siteArea k)).borrowed then s
  else s.setCore k (c.marchBegin 1 b none)

/-- S_TEMP (R430). -/
def State.riskTemp (s : State) : Nat :=
  (List.range 336).foldl (fun (m : Nat) n =>
    match (sensorLimits n).1 with
    | none => m
    | some (thr, _) => max m (clampI 0 63 (63 * (s.pwr.sensors.getD n 0 - thr + 20) / 20)).toNat) 0

/-- RISK_TICK, once a second: the powered time, the counts of the last 60 s, REL_RISK and its event (R418, R430,
R431). -/
def riskTick (s : State) : State :=
  if !s.boot.powerGood then s
  else
  let p := s.rel
  let sec := p.seconds + 1
  let recent := (p.now :: p.recent).take 60
  let s : State := { s with rel := { p with
    recent := recent, now := (0, 0, 0), seconds := sec % 60, minutes := p.minutes + sec / 60 } }
  let ce := min 63 (4 * Nat.log2 (1 + (recent.map fun x => x.1).sum))
  let droop := min 63 (8 * Nat.log2 (1 + (recent.map fun x => x.2.1).sum))
  let link := min 63 (16 * (recent.map fun x => x.2.2).sum)
  let temp := s.riskTemp
  let level := ce + droop + link + temp + min 3 (s.rel.site.countP fun x => x.2.st == 1)
  let s := s.setBar (relBase + 8)
    (BitVec.ofNat 32 (level + (ce <<< 8) + (droop <<< 14) + (link <<< 20) + (temp <<< 26)))
  let ctl := s.bar (relBase + 0xC)
  let thr := wfld ctl 0 8
  if wbit ctl 31 && s.rel.armed && decide (thr ≤ level) then
    let s := s.raise 0x13 (evData (level + (thr <<< 8)) 0)
    { s with rel := { s.rel with armed := false } }
  else if level + wfld ctl 8 8 < thr then { s with rel := { s.rel with armed := true } }
  else s

/-- A day field: 0xFFFF means none (R421). -/
def dayField (d : Option Nat) : Nat := (d.getD 0xFFFF) % 65536

/-- A site record as its words (R421). -/
def SiteRec.words (r : SiteRec) : List Nat :=
  [r.st + (r.reason <<< 2) + (r.retests <<< 8) + ((r.rfails % 16) <<< 12) + (r.m <<< 16) + (r.vstep <<< 20) + (r.trans <<< 24),
   dayField r.tday0 + (dayField r.tday1 <<< 16), dayField r.tday2 + (dayField r.sday <<< 16),
   r.rowrec + (r.xfails <<< 20)]

/-- An area record as its words (R423). -/
def AreaRec.words (r : AreaRec) : List Nat :=
  [r.st + (r.trips <<< 8) + ((r.lastTrip % 65536) <<< 16), r.stretch, r.lastTest, r.corner]

/-- A row record as its words (R422). -/
def rowWords (k : SiteId) (es : List (Nat × Nat)) : List Nat :=
  let e (j : Nat) : Nat := match es[j]? with
    | some (row, bank) => row + (bank <<< 11) + 2 ^ 15
    | none => 0
  [siteCode k, 0] ++ (List.range 16).map fun i => e (2 * i) + (e (2 * i + 1) <<< 16)

/-- A stack candidate in its record: pseudo-channel, bank, local address (R308, R424). -/
def candWord (u : Nat) : Nat :=
  let b := stackBank (256 * u)
  b.1 + (b.2 <<< 6) + (fld (256 * u) 18 18 <<< 10) + 2 ^ 31

/-- A stack record as its words (R424). -/
def State.stackWords (s : State) (k : Nat) : List Nat :=
  let cs := Tbl.get [] s.rel.stackCand k
  [(Tbl.get false s.rel.stackFail k).toNat + (cs.length <<< 8) + (Tbl.get 0 s.rel.stackRep k <<< 16),
   min 0xFFFFFFFF (Tbl.get 0 s.rel.stackTot (2 * k)), min 0xFFFFFFFF (Tbl.get 0 s.rel.stackTot (2 * k + 1)), 0, 0, 0, 0, 0]
    ++ cs.map candWord

/-- A log record as its words (R425). -/
def LogRec.words (r : LogRec) : List Nat :=
  [r.type.toNat, r.sq, r.sec % 2 ^ 32, r.sec / 2 ^ 32] ++ (List.range 4).map fun i => fld r.data.toNat (32 * i) 32

/-- The records of each kind (R420, R435). -/
def histCount : Nat → Nat
  | 0 => 294912
  | 1 => 16384
  | 2 => 288
  | 3 => 32
  | 4 => 48
  | 5 => 32768
  | 6 => 86
  | _ => 0

/-- A record's length in words; what has never been written reads all ones (R420). -/
def histRecord (n : Nat) (fresh : Bool) (ws : List Nat) : List Nat :=
  if fresh then List.replicate n 0xFFFFFFFF else ws ++ List.replicate (n - ws.length) 0

/-- The words of a history record (R420-R425). -/
def State.history (s : State) (kind i : Nat) : List Nat :=
  match kind with
  | 0 => let r := s.siteRec (Fin.ofNat 294912 i); histRecord 4 (r == SiteRec.fresh) r.words
  | 1 => histRecord 18 (Tbl.get 0 s.rel.rowSite i == 0) (rowWords (Fin.ofNat 294912 (Tbl.get 0 s.rel.rowSite i - 1)) (s.rowRec i))
  | 2 => let r := s.areaRec i; histRecord 4 (r == AreaRec.fresh) r.words
  | 3 => let w := s.stackWords i; histRecord 72 (w.all fun x => x == 0) w
  | 4 => let v := Tbl.get 0 s.rel.lantern i; histRecord 4 (v == 0) ((List.range 4).map fun j => fld v.toNat (32 * j) 32)
  | 5 => (match s.rel.log.find? fun r => r.sq % 32768 == i with
    | some r => histRecord 8 false r.words
    | none => histRecord 8 true [])
  | _ => ((List.range 72).filter fun w => decide (72 * i + w < 6144)).map fun w =>
      (Tbl.get (defaultCore (72 * i + w)) s.rel.plan (72 * i + w)).toNat

/-- REL_HIST_SEL written: the selected record is copied to REL_HIST_DATA (R420, R435). -/
def relHistSel (v : Word) (s : State) : State :=
  s.barAccess (relBase + 0x40) fun s =>
    let kind := wfld v 20 3
    let i := wfld v 0 19
    let ok := decide (i < histCount kind)
    let ws := if ok then s.history kind i else []
    let s := (s.setBar (relBase + 0x40) (v &&& 0x77FFFF)).setBar (relBase + 0x44) (if ok then 1 else 3)
    (List.range 72).foldl (fun (s : State) w => s.setBar (relBase + 0x100 + 4 * w) (BitVec.ofNat 32 (ws.getD w 0))) s

/-- A block's spare site is GOOD, powered and not fenced, and no position has it (R428). -/
def State.spareFree (s : State) (b : Nat) : Bool :=
  let e := s.fab.core s.curVer b
  let k := mkSite (wfld e 0 10 + 47) (wfld e 10 9)
  wfld e 19 6 == 63 && (s.siteRec k).st == 0 && !(s.fenced k)

/-- The EPIDs of fenced cores (R408, R427). -/
def State.fencedEpids (s : State) : List Nat :=
  (List.range coreCount).filter fun e => match s.fab.coreSite s.curVer e with
    | some k => s.fenced k
    | none => false

/-- How many sites are in a state (R407, R435). -/
def State.siteCount (s : State) (st : Nat) : Nat := s.rel.site.countP fun x => x.2.st == st

/-- The length of the floor plan record (R427). -/
def planLen : Nat := 0x18040

/-- The floor plan record (R427). -/
def State.planRecord (s : State) : List Byte :=
  let fe := s.fencedEpids
  padTo 0x40 (le4 [1, s.fpGen, s.curVer.toNat, s.siteCount 1, s.siteCount 2, s.siteCount 3, fe.length,
      fe.countP fun e => s.spareFree (e / 47)])
    ++ (le4 ((List.range 6144).map fun b => (s.fab.core s.curVer b).toNat))
    ++ (List.range 73728).map fun i => BitVec.ofNat 8
      ((List.range 4).map fun j => (s.siteRec (Fin.ofNat 294912 (4 * i + j))).st <<< (2 * j)).sum

/-- FLOORPLAN_READ (R427). -/
def floorplanRead (r : Fin 256) (j : Nat) (s : State) : State :=
  s.hostOp r j 0x13 fun req d s =>
    s.gateOp 6 req fun s =>
      if d.f 0x10 4 < planLen then s.complete req stINTEGRITY 0 (BitVec.ofNat 128 planLen)
      else (s.hostWrite (d.f 8 8) s.planRecord).complete req stOK

/-- An entry of a commit: its EPID and ACTION (R428). -/
def commitEntry (b : List Byte) (i : Nat) : Nat × Nat := (fld (leAt b (16 + 8 * i) 4) 0 19, fld (leAt b (16 + 8 * i) 4) 24 4)

/-- A commit's reserved fields are zero and its COUNT lies in its range (R428). -/
def commitRsv (b : List Byte) : Bool :=
  let n := leAt b 8 2
  leAt b 0xA 6 == 0 && decide (1 ≤ n) && decide (n ≤ 4096)
    && (List.range n).all fun i => maskOk (leAt b (16 + 8 * i) 8) 0x0F07FFFF

/-- An entry is legal (R428). -/
def State.commitLegal (s : State) (es : List (Nat × Nat)) (e : Nat × Nat) : Bool :=
  if coreCount ≤ e.1 then false
  else match s.fab.coreSite s.curVer e.1 with
    | none => false
    | some k =>
      match e.2 with
      | 1 => s.fenced k && s.spareFree (e.1 / 47) && (es.countP fun x => x.2 == 1 && x.1 / 47 == e.1 / 47) == 1
      | 2 => (s.router k).fence == some 4 && s.siteOn k && decide ((s.siteRec k).st < 2)
      | 3 => !(s.fenced k)
      | _ => false

/-- The first entry of a commit that is not legal. -/
def State.commitBad (s : State) (es : List (Nat × Nat)) : Option Nat :=
  (es.zip (List.range es.length)).findSome? fun x => if s.commitLegal es x.1 then none else some x.2

/-- A running scheduled region whose PLACEMENT covers a block faults (R243, R429). -/
def State.placementFaults (s : State) (e : Nat × Nat) : State :=
  if e.2 ≠ 1 then s
  else
    let hit := s.rgns.tbl.filter fun x => x.2.live && x.2.sched && x.2.blocks.contains (e.1 / 47)
    hit.foldl (fun (s : State) x =>
      match s.fab.coreSite s.curVer e.1 with
      | some k => s.faultRegion x.1 k 11 0
      | none => s) s

/-- A placement an agreed commit brings: its faults, the sites it fences, and the flip that takes it (R428, R429). -/
def State.planNow (s : State) (req : Nat × Nat) (es : List (Nat × Nat)) : State :=
  let s := es.foldl (fun (s : State) e => s.placementFaults e) (s.setBusy req)
  let s := es.foldl (fun (s : State) e =>
    match e.2, s.fab.coreSite s.curVer e.1 with
    | 3, some k => if s.fenced k then s else s.fenceSite k fHOST
    | _, _ => s) s
  let s : State := { s with rel := { s.rel with commit := some es } }
  s.askFlip { req := some req, why := .plan, check := true }

/-- FLOORPLAN_COMMIT with its checks in order (R428, R429). -/
def floorplanCommit (r : Fin 256) (j : Nat) (h : HostRead) (s : State) : State :=
  s.hostOp r j 0x14 fun req d s =>
    s.gateOp 6 req fun s =>
      let len := d.f 0x10 4
      match h with
      | .failed _ code => s.complete req stWINDOW code.toNat
      | .data b =>
        let n := leAt b 8 2
        let es := (List.range n).map fun i => commitEntry b i
        if b.length ≠ len then s
        else if len < 16 then s.complete req stINTEGRITY
        else if !(commitRsv b) then s.complete req stBADRSVD
        else if len ≠ 16 + 8 * n then s.complete req stINTEGRITY
        else if leAt b 0 4 ≠ 1 then s.complete req stBADVER
        else if leAt b 4 4 ≠ s.fpGen then s.complete req stSTALE
        else match s.commitBad es with
          | some i => s.complete req stINTEGRITY (i <<< 8)
          | none =>
            if s.rel.commit.isSome then s.complete req stBUSY
            else s.planNow req es

/-- CROSS_CHECK (R414). -/
def execCrossCheck (r : Fin 256) (j : Nat) (s : State) : Res := .next (crossCheck r j s)

/-- SCHEDULED_PASS (R415). -/
def execScheduledPass (s : State) : Res := .next (scheduledPass s)

/-- XCHECK_PASS_DONE (R412). -/
def execXcheckPassDone (sigs : List (SiteId × DWord)) (s : State) : Res := .next (xcheckPassDone sigs s)

/-- SOFTWARE_ARBITRATION_DONE (R413). -/
def execSoftwareArbitrationDone (s : State) : Res := .next (softwareArbitrationDone s)

/-- MARCH_PRESERVING (R417). -/
def execMarchPreserving (r : Fin 256) (j : Nat) (s : State) : Res := .next (marchTest 0 r j s)

/-- MARCH_DESTRUCTIVE (R417). -/
def execMarchDestructive (r : Fin 256) (j : Nat) (s : State) : Res := .next (marchTest 1 r j s)

/-- UE_PRESERVING_TEST (R417). -/
def execUePreservingTest (k : SiteId) (s : State) : Res := .next (uePreserving k s)

/-- RISK_TICK (R430). -/
def execRiskTick (s : State) : Res := .next (riskTick s)

/-- REL_HIST_SEL_WRITE (R435). -/
def execRelHistSelWrite (v : Word) (s : State) : Res := .next (relHistSel v s)

/-- FLOORPLAN_READ (R427). -/
def execFloorplanRead (r : Fin 256) (j : Nat) (s : State) : Res := .next (floorplanRead r j s)

/-- FLOORPLAN_COMMIT (R429). -/
def execFloorplanCommit (r : Fin 256) (j : Nat) (h : HostRead) (s : State) : Res := .next (floorplanCommit r j h s)

end Sys2Proof.Machine
end

