-- ==== Sys2Proof/Machine/Startup.lean ====
section
/-!
DEFINITION. Resets, start-up step by step with its halts and waits, insertion and removal (R39, R305, R306, R339, R340,
R387-R389, R397, R420, R426, R436-R446, R460, R461, R467, R477, R478).
-/

namespace Sys2Proof.Machine

/-- Loads whose flip still waits, of regions that are reset: the descriptor completes NOT_READY; the flip goes on
(R442, R444). -/
def State.detachLoads (s : State) (p : Nat → Bool) : State :=
  let hit (f : Flip) : Bool := match f.why with
    | .load ids _ => ids.any p
    | _ => false
  let strip (f : Flip) : Flip := match f.why with
    | .load ids m => if ids.any p then { f with req := none, why := .load (ids.filter fun i => !(p i)) m } else f
    | _ => f
  let reqs := ((s.fab.flip.toList ++ s.fab.waiting).filter hit).filterMap fun f => f.req
  let s : State := { s with fab := { s.fab with flip := s.fab.flip.map strip, waiting := s.fab.waiting.map strip } }
  reqs.foldl (fun (s : State) q => s.complete q stNOTREADY) s

/-- Descriptors that have started and not yet been taken up and name a region that is reset (R442). -/
def State.endNamed (s : State) (p : Nat → Bool) : State :=
  let ds := s.host.cmd.flatMap fun x => x.2.started.map fun d => (x.1, d)
  let mine := ds.filter fun x => decide (5 ≤ x.2.f 0 1) && decide (x.2.f 0 1 ≤ 9) && !x.2.busy && p (x.2.f 8 2)
  mine.foldl (fun (s : State) x => s.complete (x.1, x.2.uid) (if x.2.f 0 1 = 5 then stPARTIAL else stNOTREADY)) s

/-- A COMPUTE or REGION reset is under way; it ends at a later tick (R440). -/
def State.underReset (s : State) (req : Nat × Nat) (cores : List SiteId) : State :=
  let s := cores.foldl (fun (s : State) k => s.setCore k { s.core k with inReset := true }) s
  { s with boot := { s.boot with resetting := some req } }

/-- The reset under way ends and completes (R440, R442). -/
def State.resetEnds (s : State) : State :=
  match s.boot.resetting with
  | none => s
  | some q =>
    let s := s.mapCores fun _ c => { c with inReset := false }
    { s with boot := { s.boot with resetting := none } }.complete q stOK

/-- RESET_COMPUTE (R441, R442, R444). -/
def resetCompute (r : Fin 256) (j : Nat) (s : State) : State :=
  s.resetOp r j 1 fun req _ s =>
    let ids := (s.rgns.tbl.filter fun x => x.2.conf).map (·.1)
    let s := ((s.setBusy req).detachLoads fun _ => true).abortXchk (List.range 288)
    let s := ids.foldl (fun (s : State) id => s.resetRegion id) s
    let s := (s.endNamed fun _ => true)
    let sites := s.cores.map fun x => (Fin.ofNat 294912 x.1 : SiteId)
    (sites.foldl (fun (s : State) k => s.resetCore k) s).underReset req []

/-- RESET_REGION (R441, R442). -/
def resetRegionOp (r : Fin 256) (j : Nat) (s : State) : State :=
  s.resetOp r j 2 fun req d s =>
    let id := d.bits 0xC 0 16
    if !(s.region id).conf then s.complete req stNOTREADY
    else
      let cores := (s.regionCores id).map (·.2)
      let s := (s.setBusy req).detachLoads fun i => i == id
      ((s.resetRegion id).endNamed fun i => i == id).underReset req cores

/-- SVC_BOOT (R464). -/
def State.svcBoot (s : State) : Word := s.bar (svcBase + 4)
def State.phase (s : State) : Nat := wfld s.svcBoot 0 4
def State.setPhase (s : State) (p : Nat) : State := s.setBar (svcBase + 4) (setFld s.svcBoot 0 4 p)

/-- ENG_STATUS.STEP (R343, R436). -/
def State.stepNow (s : State) : Nat := wfld (s.bar 0x100) 8 4
def State.setStep (s : State) (n : Nat) : State := s.setBar 0x100 (setFld (s.bar 0x100) 8 4 n)

/-- The PCIe port trains once its core is up and PERST# is not asserted (R339, R443). -/
def State.portTrain (s : State) : State :=
  if s.boot.coreUp && !s.boot.perst then
    let s : State := { s with host := { s.host with pcie := { s.host.pcie with up := true, lanes := 16, rate8 := 16 } } }
    { s with boot := { s.boot with portUp := true } }.setBar 0x100 (setBit (s.bar 0x100) 3 false)
  else s

/-- The PCIe core comes up (R339, R436, R437). -/
def State.coreUp (s : State) : State := { s with boot := { s.boot with coreUp := true } }.portTrain

/-- Start-up halts (R437). -/
def State.haltBoot (s : State) (phase cause detail : Nat) : State :=
  let w := setFld (setFld (setFld s.svcBoot 0 4 phase) 4 4 detail) 8 8 cause
  ((s.setBar (svcBase + 4) w).setBar 0x100 (setBit (s.bar 0x100) 0 false)).coreUp

/-- A firmware slot by target and slot (R445). -/
def State.fwSlot (s : State) (t i : Nat) : FwSlot := Tbl.get FwSlot.reset s.fw.slot (2 * t + i)
def State.setFwSlot (s : State) (t i : Nat) (x : FwSlot) : State :=
  { s with fw := { s.fw with slot := Tbl.set FwSlot.reset s.fw.slot (2 * t + i) x } }
def State.runSlot (s : State) (t : Nat) : Nat := Tbl.get 0 s.fw.run t
def State.minSvn (s : State) (t : Nat) : Nat := Tbl.get 0 s.fw.minSvn t

/-- A slot verifies: what its image says was checked as it was staged; its SVN is not below the minimum (R446). -/
def State.slotVerifies (s : State) (t i : Nat) : Bool := !(s.fwSlot t i).bad && decide (s.minSvn t ≤ (s.fwSlot t i).svn.toNat)

/-- The boot of one target: the slot last activated, else the other; none where neither verifies (R446). -/
def State.bootTarget (s : State) (t : Nat) : Option State :=
  let a := s.runSlot t
  let b := 1 - a
  if s.slotVerifies t a then some s
  else
    let s := s.setFwSlot t a { s.fwSlot t a with bad := true }
    if s.slotVerifies t b then
      let s := s.setFwSlot t b { s.fwSlot t b with staged := false }
      let s : State := { s with fw := { s.fw with run := Tbl.set 0 s.fw.run t b } }
      some (s.setBar (svcBase + 4) (setBit s.svcBoot 16 true))
    else none

/-- No slot of a target verifies: both are bad, and start-up halts in RECOVERY (R437, R446). -/
def State.noSlot (s : State) (t : Nat) : State :=
  let s := (s.setFwSlot t 0 { s.fwSlot t 0 with bad := true, staged := false }).setFwSlot t 1
    { s.fwSlot t 1 with bad := true, staged := false }
  { s with boot := { s.boot with recover := some t } }.haltBoot 6 1 0

/-- The boot chain: the security firmware, then the cupola's (R446). `inl` where it halts. -/
def State.bootChain (s : State) : State ⊕ State :=
  let s : State := { s with boot := { s.boot with recover := none } }
  match s.bootTarget 1 with
  | none => .inl (s.noSlot 1)
  | some s =>
    match (s.setPhase 1).bootTarget 0 with
    | none => .inl ((s.setPhase 1).noSlot 0)
    | some s => .inr ((s.setBar (svcBase + 4) (setFld (setFld s.svcBoot 4 4 0) 8 8 0)).setPhase 3)

/-- A signature block's ALG and reserved bytes (R218). -/
def sigLayout (sig : List Byte) : Bool :=
  leAt sig 0 4 == 1 && leAt sig 4 28 == 0 && leAt sig 0xED4 12 == 0

/-- A signature block by the maker key over a digest (R218, R450). -/
def makerSigned (sig : List Byte) (digest : BitVec 256) : Bool :=
  BitVec.ofNat 256 (leAt sig 0x20 32) == Config.makerKeyId && sigOk sig digest

/-- The capability record passes its checks (R439). -/
def capOk : Bool :=
  let b := Config.capRecord
  let sig := slice b 0x40 3808
  leAt b 0 4 == 0x50435456 && leAt b 6 2 == 0 && BitVec.ofNat 64 (leAt b 8 8) == Config.serial && leAt b 0x11 3 == 0
    && leAt b 0x1E 2 == 0 && fld (leAt b 0x20 4) 12 20 == 0 && leAt b 0x26 26 == 0
    && decide (8000 ≤ leAt b 0x24 2) && decide (leAt b 0x24 2 ≤ 28000)
    && sigLayout sig && makerSigned sig (Config.sha3 (b.take 64))

/-- The mirror loaded from the record; PWR_CAP_W follows, and the fitted lanterns are DOWN (R39, R406, R439). -/
def State.loadMirror (s : State) : State :=
  let b := Config.capRecord
  let w (o : Nat) : Word := BitVec.ofNat 32 (leAt b o 4)
  let s := ((s.setBar 0x40 (BitVec.ofNat 32 (1 + (leAt b 4 2 <<< 8)))).setBar 0x44 (w 0x14)).setBar 0x48 (w 0x18)
  let s := ((s.setBar 0x4C (w 0x1C &&& 0xFFFF)).setBar 0x50 (w 0x20 &&& 0xFFF)).setBar 0x54 (w 0x24 &&& 0xFFFF)
  let s := s.setBar (pwrBase + 4) (BitVec.ofNat 32 s.ceiling)
  (List.range 48).foldl (fun (s : State) l =>
    s.setLantern l { Lantern.reset with st := if (leAt b 0x18 6).testBit l then 1 else 0 }) s

/-- An area's soft start in step 2. One that fails to trim is latched off and recorded as a trip; one whose retry a
reset has cut short comes back fenced (R395, R408, R436). -/
def State.startArea (s : State) (bad : List (Fin 288)) (a : Nat) : State :=
  let r := s.areaRec a
  if r.st = 2 then s.setArea a Area.reset
  else if bad.any fun x => x.val == a then
    let s := s.bumpBar (pwrBase + 0x80) (pwrBase + 0x84) 0 1
    let s := (s.setAreaRec a { r with trips := min 255 (r.trips + 1), lastTrip := s.today }).latchArea a
    ((s.setArea a Area.reset).logRec 4 [a, 2]).raise 0x12 (evData (a + (1 <<< 9)) 0)
  else
    let back := (s.area a).awaiting
    let s := s.setArea a { Area.reset with on := true }
    if back then (areaSites a).foldl (fun (s : State) k => s.applyFence k fAREALOST) s else s

/-- Step 3 done: the service domain on the reference, the root locked, the PCIe core up (R387, R436). -/
def State.step3 (s : State) : State :=
  let s : State := { s with boot := { s.boot with waitRef := false } }
  ((((s.clkBit 0 true).clkBit 1 false).clkBit 4 true).setStep 3).coreUp

/-- Step 4 done: the domes run, and RGN_GCC is set (R229, R436; log entry 3). -/
def State.step4 (s : State) : State :=
  let s : State := { s with clk := { s.clk with dome := [], parking := false, stopped := false, gcc := 0, f := 400 } }
  (s.clkBit 5 true).setStep 4

/-- Step 5 done: the fitted lanterns begin training (R350, R436). -/
def State.step5 (s : State) : State :=
  ((List.range 48).foldl (fun (s : State) l =>
    if s.fitted l then s.setLantern l { s.lantern l with st := 2 } else s) s).setStep 5

/-- Step 6 done: every populated stack is trained and filled, or FAILED (R305, R306, R424, R436). -/
def State.step6 (s : State) (bad : List (Fin 32)) : State :=
  ((List.range 32).foldl (fun (s : State) k =>
    let fails := bad.any fun x => x.val == k
    if !(s.populated k) then s.setStack k Stack.reset
    else
      let s := s.setStack k { Stack.reset with st := if fails then 4 else 2, cands := Tbl.get [] s.rel.stackCand k }
      let s : State := { s with rel := { s.rel with stackFail := Tbl.set false s.rel.stackFail k fails } }
      if fails then s.logRec 9 [k] else s) s).setStep 6

/-- Step 7 done: failing rows are recorded, the cross-check's charges are made, and the pass is a retest of sites that
are SUSPECT at NOMINAL (R417, R418, R436). -/
def State.step7 (s : State) (rows : List (SiteId × Fin 4 × Nat)) (charged : List SiteId) : State :=
  let s := rows.foldl (fun (s : State) x =>
    if s.siteOn x.1 ∧ x.2.2 < 1032 then s.addRow x.1 x.2.1.val x.2.2 else s) s
  let due := (s.rel.site.filter fun x => x.2.st == 1 && x.2.m == 0 && x.2.vstep == 0).map fun x =>
    (Fin.ofNat 294912 x.1 : SiteId)
  let hit := charged.filter fun k => s.siteOn k && decide ((s.siteRec k).st < 2)
  let s := (hit.foldl (fun (s : State) k => s.charge k 0 0 6) s).bumpBar (relBase + 0x24) (relBase + 0x2C) 0 hit.length
  let s := (due.filter fun k => s.siteOn k).foldl (fun (s : State) k => s.retested k) s
  ((List.range 288).foldl (fun (s : State) a =>
    if (s.area a).on then s.setAreaRec a { s.areaRec a with lastTest := s.rel.minutes } else s) s).setStep 7

/-- A block's first fenced EPID takes its spare, where the block has one left (R426). -/
def State.remapBlock (s : State) (b : Nat) : Bool × State :=
  if !(s.spareFree b) then (false, s)
  else match (List.range 47).find? fun i => s.fenced (entrySite (s.fab.core false b) i) with
    | none => (false, s)
    | some i => (true, { s with fab := s.fab.setCore false b (spareFor (s.fab.core false b) i) })

/-- A site's spares and fence as its record has them (R426). -/
def State.siteStart (s : State) (x : Nat × SiteRec) : State :=
  let k : SiteId := Fin.ofNat 294912 x.1
  let s := if x.2.rowrec ≠ 0 ∧ s.siteOn k then s.assignSpares k else s
  if 2 ≤ x.2.st then s.applyFence k x.2.reason else s

/-- The blocks whose fenced positions start-up remaps, and how many there were (R426). -/
def State.remapAll (s : State) : Nat × State :=
  (List.range 6144).foldl (fun (r : Nat × State) b =>
    match r.2.remapBlock b with
    | (hit, s) => (r.1 + hit.toNat, s)) (0, s)

/-- The cupola's tables as the placement record has them (R426). -/
def State.planStart (s : State) : State :=
  let fab : Fab := { State.reset.fab with loaded := true }
  { s with fab := s.rel.plan.foldl (fun (f : Fab) x => f.setCore false x.1 x.2) fab }

/-- Step 8 done: the committed floor plan, row spares, fences, remaps (R426). -/
def State.step8 (s : State) : State :=
  let res := (s.rel.site.foldl (fun (s : State) x => s.siteStart x) s.planStart).remapAll
  (if res.1 = 0 then res.2 else res.2.commitPlan false res.1 1).setStep 8

/-- Step 9 done: the tables of version A are copied to B; areas that are off are holes of both, their attachments
unusable (R186, R196, R436). -/
def State.step9 (s : State) : State :=
  let off := s.offAreas
  let f : Fab := { s.fab with holes := Tbl.set 0 (Tbl.set 0 s.fab.holes 0 off) 1 off, treeRoot := (s.firstSite).getD 0 }
  let s : State := { s with fab := (f.setUsable false off false).copySections false }
  s.setStep 9

/-- DBG_LOCK set: BAR4 closes and cannot be opened (R461). -/
def State.lockDebug (s : State) : State :=
  (s.setBar (secBase + 0xC) (setBit (s.bar (secBase + 0xC)) 0 true)).setBar 0x120
    (setBit (setBit (s.bar 0x120) 0 false) 1 true)

/-- Step 10 done: READY (R436, R438, R454, R461). -/
def State.step10 (s : State) : State :=
  let s := if s.sec.lockBoot then s.lockDebug else s
  let s : State := { s with sec := { s.sec with images := 0 } }
  (((s.setStep 10).setBar 0x100 (setBit ((s.setStep 10).bar 0x100) 0 true)).setPhase 4).raise 0x19 0

/-- Start-up from step 3 on, the reference in range (R436, R437). -/
def State.fromStep3 (s : State) (o : StartupObs) : State :=
  let s := s.step3
  match o.alignFailed with
  | some d => s.haltBoot 5 4 d.val
  | none =>
    let s := s.step4
    if !o.deskewOk then s.haltBoot 5 5 0
    else
      let s := ((s.step5).step6 o.stackFailed).step7 o.marchFailed o.charged
      if !s.boot.histOk then s.haltBoot 5 6 0 else ((s.step8).step9).step10

/-- Start-up from step 2 on (R436, R437, R439). -/
def State.fromStep2 (s : State) (o : StartupObs) : State :=
  let s : State := { s with boot := { s.boot with waitSupply := false }, pwr := { s.pwr with fatal := false } }
  if !capOk then (s.setBar 0x40 2).haltBoot 5 3 0
  else
    let s := (List.range 288).foldl (fun (s : State) a => s.startArea o.trimFailed a) s.loadMirror
    let s := s.setStep 2
    if o.refOk then s.fromStep3 o else { s with boot := { s.boot with waitRef := true } }

/-- Start-up meets the wait before step 2 (R397). -/
def State.beforeStep2 (s : State) (o : StartupObs) : State :=
  if o.supplyOk && s.coolEnough then s.fromStep2 o else { s with boot := { s.boot with waitSupply := true } }

/-- A field of SEC_ALARM_POLICY of either of two words, the stricter one (R460). -/
def stricter (u v : Word) : Word :=
  (List.range 5).foldl (fun (w : Word) i => setFld w (2 * i) 2 (max (wfld u (2 * i) 2) (wfld v (2 * i) 2))) 0

/-- POWER_GOOD: step 1, and start-up from there (R39, R395, R436, R446, R457, R460, R469). -/
def powerGood (o : StartupObs) (s : State) : State :=
  if s.boot.powerGood || !s.boot.inputSw then s
  else
    let s : State := { s with boot := { s.boot with powerGood := true, slotId := o.slotId } }
    let s : State := { s with rel := { s.rel with area := s.rel.area.foldl (fun (t : Tbl AreaRec) (x : Nat × AreaRec) =>
      Tbl.set AreaRec.fresh t x.1 (if x.2.st = 1 then { x.2 with st := 0 } else x.2)) [] } }
    let s := (s.setBar 0x10 (BitVec.ofNat 32 Config.serial.toNat)).setBar 0x14 (BitVec.ofNat 32 (Config.serial.toNat >>> 32))
    let s := s.setBar 4 (BitVec.ofNat 32 (0x56540000 + (Config.variant.toNat <<< 8)))
    let s := s.setBar (secBase + 8) (stricter (s.bar (secBase + 8)) s.sec.bootPol)
    if !o.selfTestOk then s.haltBoot 5 2 0
    else match s.bootChain with
      | .inl s => s
      | .inr s => (s.setStep 1).beforeStep2 o

/-- STARTUP_SUPPLY_WAIT_END: start-up goes on once supply and temperatures allow; after a WARM reset taken in RECOVERY
the boot chain runs again first (R397, R437). -/
def startupSupplyWaitEnd (o : StartupObs) (s : State) : State :=
  if !s.boot.waitSupply || !o.supplyOk || !s.coolEnough then s
  else if s.boot.recover.isNone then s.fromStep2 o
  else match s.bootChain with
    | .inl s => { s with boot := { s.boot with waitSupply := false } }
    | .inr s => s.fromStep2 o

/-- STARTUP_REF_WAIT_END (R387). -/
def startupRefWaitEnd (o : StartupObs) (s : State) : State :=
  if s.boot.waitRef && o.refOk then s.fromStep3 o else s

/-- A BAR0 offset whose block a WARM reset keeps; ENG_STATUS is not kept (R405, R406, R435, R440, R463, R464). -/
def warmKeeps (off : Nat) : Bool :=
  (decide (off < 0x20000) && off != 0x100) || (decide (clkBase ≤ off) && decide (off < fabBase)) || decide (relBase ≤ off)

/-- What a WARM reset resets, once the engine is parked: everything outside the service and security domains; start-up
then waits to begin at step 2 (R397, R405, R440, R443). -/
def State.warmReset (s : State) : State :=
  let s := linkDown s.darken
  let z := State.reset
  let fitted := (List.range 48).filter fun l => s.fitted l
  let s : State := { s with
    fab := z.fab
    rgns := { s.rgns with tbl := [], loads := [] }
    regs := s.regs.filter fun x => warmKeeps x.1
    w64 := s.w64.filter fun x => warmKeeps x.1
    latch := s.latch.filter fun x => warmKeeps x.1
    lnts := { z.lnts with tbl := fitted.foldl (fun (t : Tbl Lantern) l => Tbl.set Lantern.reset t l { Lantern.reset with st := 1 }) [] }
    rel := { s.rel with xchk := [], commit := none }
    sec := { s.sec with ideKey := none, ideNext := none }
    clk := { s.clk with parking := false, stopped := true }
    boot := { s.boot with warm := false, resetting := none, waitSupply := true, waitRef := false, coreUp := false
                          portUp := false } }
  let s := (((s.clkBit 2 false).clkBit 4 false).clkBit 5 false).clkBit 6 false
  let s := if wbit (s.bar 0x40) 0 then s.setBar (pwrBase + 4) (BitVec.ofNat 32 s.ceiling) else s
  s.setBar (svcBase + 4) (setFld (setFld (setFld s.svcBoot 0 4 3) 4 4 0) 8 8 0)

/-- Nothing a WARM reset must wait for: the lanterns have stopped, no row is being repaired, no handover runs, and the
records have been posted (R310, R375, R443, R444). -/
def State.warmMayPark (s : State) : Bool :=
  ((List.range 48).all fun l => (s.lantern l).st != 4) && !s.repairing && s.fw.handover.isNone
    && (!s.host.pcie.up || s.host.cpl.all fun x => x.2.waiting.isEmpty)

/-- A WARM reset begins: the lanterns quiesce, and the engine parks. One whose domes do not run begins start-up at
once (R375, R443). -/
def State.beginWarm (s : State) : State :=
  let s : State := { s with boot := { s.boot with warm := true, resetting := none } }
  let s := (List.range 48).foldl (fun (s : State) l =>
    (s.quiesceLantern l true).setLantern l { (s.quiesceLantern l true).lantern l with req := none }) s
  if (s.clk.stopped || decide (s.stepNow < 4)) && s.warmMayPark then s.warmReset
  else { s with clk := { s.clk with parking := true } }

/-- Every started descriptor but one completes NOT_READY; a test raises TEST_DONE with it (R443). -/
def State.endStarted (s : State) (req : Nat × Nat) : State :=
  let ds := s.host.cmd.flatMap fun x => x.2.started.map fun d => (x.1, d)
  (ds.filter fun x => (x.1, x.2.uid) != req).foldl (fun (s : State) x =>
    let s := if x.2.f 0 1 = 0x15 then s.testDone (x.1, x.2.uid) stNOTREADY else s
    s.complete (x.1, x.2.uid) stNOTREADY) s

/-- RESET_WARM: its record is posted with the others before the reset begins (R441, R443). -/
def resetWarm (r : Fin 256) (j : Nat) (s : State) : State :=
  s.resetOp r j 4 fun req _ s => ((s.endStarted req).complete req stOK).beginWarm

/-- PERST# asserted: the PCIe port goes into reset, and a WARM reset begins that takes a reset in progress over. An open
SEAT governs instead (R339, R443, R444, R478). -/
def perstAssert (s : State) : State :=
  if s.boot.perst then s
  else
    let s := linkDown s
    let s : State := { s with boot := { s.boot with perst := true, portUp := false } }
    if !s.boot.powerGood || !s.boot.seat then s
    else
      let s := s.mapCores fun _ c => { c with inReset := false }
      s.beginWarm

/-- PERST# deasserted: the port trains once its core is up (R339, R443). -/
def perstDeassert (s : State) : State := { s with boot := { s.boot with perst := false } }.portTrain

/-- The repairs under way end with the domes parked (R310). -/
def State.dropRepairs (s : State) : State :=
  { s with stks := { s.stks with tbl := s.stks.tbl.foldl (fun (t : Tbl Stack) (x : Nat × Stack) =>
      Tbl.set Stack.reset t x.1 { x.2 with repair := none }) [] } }

/-- DOME_PARK_DONE: every dome is parked; a WARM reset goes on from there. A repair in progress ends without a record
(R310, R388, R397, R443). -/
def domeParkDone (s : State) : State :=
  if !s.clk.parking then s
  else if s.boot.warm then (if s.warmMayPark then (if s.clk.stopped then s else s.park).warmReset else s)
  else s.park.dropRepairs

/-- INPUT_SWITCH_CLOSE (R467). -/
def inputSwitchClose (s : State) : State :=
  if s.boot.inputSw then s else { s with boot := { s.boot with seat := true, inputSw := true } }

/-- SEAT_OPEN: as a stopped reference (R477, R478). -/
def seatOpen (s : State) : State := { s with boot := { s.boot with seat := false } }.refLost true

/-- INPUT_SWITCH_OPEN: 2 ms after SEAT has opened (R477, R478). -/
def inputSwitchOpen (s : State) : State :=
  if s.boot.seat || !s.boot.inputSw then s else { s.powerOff with boot := { s.powerOff.boot with inputSw := false } }

/-- RESET_COMPUTE (R442). -/
def execResetCompute (r : Fin 256) (j : Nat) (s : State) : Res := .next (resetCompute r j s)

/-- RESET_REGION (R442). -/
def execResetRegion (r : Fin 256) (j : Nat) (s : State) : Res := .next (resetRegionOp r j s)

/-- RESET_WARM (R443). -/
def execResetWarm (r : Fin 256) (j : Nat) (s : State) : Res := .next (resetWarm r j s)

/-- PERST_ASSERT (R443). -/
def execPerstAssert (s : State) : Res := .next (perstAssert s)

/-- PERST_DEASSERT (R339). -/
def execPerstDeassert (s : State) : Res := .next (perstDeassert s)

/-- DOME_PARK_DONE (R388). -/
def execDomeParkDone (s : State) : Res := .next (domeParkDone s)

/-- POWER_GOOD (R436). -/
def execPowerGood (o : StartupObs) (s : State) : Res := .next (powerGood o s)

/-- STARTUP_REF_WAIT_END (R387). -/
def execStartupRefWaitEnd (o : StartupObs) (s : State) : Res := .next (startupRefWaitEnd o s)

/-- STARTUP_SUPPLY_WAIT_END (R397). -/
def execStartupSupplyWaitEnd (o : StartupObs) (s : State) : Res := .next (startupSupplyWaitEnd o s)

/-- INPUT_SWITCH_CLOSE (R467). -/
def execInputSwitchClose (s : State) : Res := .next (inputSwitchClose s)

/-- SEAT_OPEN (R477). -/
def execSeatOpen (s : State) : Res := .next (seatOpen s)

/-- INPUT_SWITCH_OPEN (R477). -/
def execInputSwitchOpen (s : State) : Res := .next (inputSwitchOpen s)

end Sys2Proof.Machine
end

