-- ==== Sys2Proof/Machine/Secure.lean ====
section
/-!
DEFINITION. Firmware staging and activation, the security mailbox, SPDM, link encryption keys, tamper alarms, the
sideband's readings (R342, R437, R445-R462).
-/

namespace Sys2Proof.Machine

/-- A firmware image's reserved fields are zero and its TARGET is not a reserved value (R218, R445). -/
def fwReserved (b : List Byte) : Bool :=
  decide (leAt b 4 4 < 2) && leAt b 0xE 2 == 0 && leAt b 0x1B 5 == 0
    && leAt b 0x44 28 == 0 && leAt b (0x40 + 0xED4) 12 == 0

/-- A firmware image's length, MAGIC and layout (R445, R447). -/
def fwLayout (b : List Byte) (len : Nat) : Bool :=
  let body := leAt b 0x10 8
  len == 0x1000 + body && decide (1 ≤ body) && decide (body ≤ 15 * 2 ^ 20) && leAt b 0 4 == 0x46575456 && leAt b 0x40 4 == 1

/-- The checks of FW_STAGE on an image, in order: the status of the first that fails (R447). -/
def State.fwCheck (s : State) (t : Nat) (b : List Byte) (len : Nat) : Option Nat :=
  if !(fwReserved b) then some stBADRSVD
  else if !(fwLayout b len) then some stINTEGRITY
  else if !s.cryptoOk || !(makerSigned (slice b 0x40 3808) (Config.sha3 (b.take 64))) then some stDENIED
  else if Config.sha3 (b.drop 0x1000) ≠ BitVec.ofNat 256 (leAt b 0x20 32) then some stINTEGRITY
  else if leAt b 4 4 ≠ t ∨ leAt b 0x18 2 ≠ 0x5654 ∨ wfld (s.bar 8) 0 8 < leAt b 0x1A 1 then some stBADVER
  else if leAt b 0xC 2 < s.minSvn t then some stDENIED
  else none

/-- FW_STAGE: the inactive slot of a target is written once every check has passed (R447). -/
def fwStage (r : Fin 256) (j : Nat) (h : HostRead) (s : State) : State :=
  s.hostOp r j 0x19 fun req d s =>
    let t := d.bits 8 0 2
    if s.fw.staging.isSome || s.fw.handover.isSome then s.complete req stBUSY
    else match h with
      | .failed _ code => s.complete req stWINDOW code.toNat
      | .data b =>
        if b.length ≠ d.f 0x18 4 then s
        else match s.fwCheck t b b.length with
          | some st => s.complete req st
          | none =>
            let x : FwSlot := { version := BitVec.ofNat 32 (leAt b 8 4), svn := BitVec.ofNat 16 (leAt b 0xC 2)
                                digest := Config.sha3 b, bad := false, staged := true }
            let i := 1 - s.runSlot t
            let s := (s.setBusy req).setFwSlot t i { s.fwSlot t i with staged := false }
            { s with fw := { s.fw with staging := some (t, req.1, req.2, x) } }

/-- FW_STAGE_DONE (R447). -/
def fwStageDone (s : State) : State :=
  match s.fw.staging with
  | none => s
  | some (t, ring, uid, x) =>
    let s := { s with fw := { s.fw with staging := none } }.setFwSlot t (1 - s.runSlot t) x
    s.complete (ring, uid) stOK

/-- A staged slot becomes the running one: the minimum SVN rises to its image's, and it is the slot boot tries first
(R449). -/
def State.switchFw (s : State) (t : Nat) : State :=
  let i := 1 - s.runSlot t
  let x := s.fwSlot t i
  let s := s.setFwSlot t i { x with staged := false }
  { s with fw := { s.fw with run := Tbl.set 0 s.fw.run t i, minSvn := Tbl.set 0 s.fw.minSvn t (max (s.minSvn t) x.svn.toNat) } }

/-- FW_READY (R336, R448). -/
def State.fwReady (s : State) (t : Nat) : State :=
  s.raise 0x18 (evData (t + (s.runSlot t <<< 2)) (s.fwSlot t (s.runSlot t)).version.toNat)

/-- Start-up goes on from the halt of RECOVERY: it meets the wait before step 2 (R397, R437). -/
def State.leaveRecovery (s : State) : State :=
  let s := (s.setBar (svcBase + 4) (setFld s.svcBoot 8 8 0)).setPhase 3
  let s := s.setStep (max 1 s.stepNow)
  { s with boot := { s.boot with recover := none, waitSupply := true } }

/-- FW_ACTIVATE in RECOVERY, on the target no slot of which verified (R437). -/
def State.recoverFw (s : State) (req : Nat × Nat) (t : Nat) : State :=
  if !(s.slotVerifies t (1 - s.runSlot t)) then
    let i := 1 - s.runSlot t
    (s.setFwSlot t i { s.fwSlot t i with bad := true, staged := false }).complete req stINTEGRITY
  else
    let s := (s.switchFw t).fwReady t
    if t = 0 then s.leaveRecovery.complete req stOK
    else match s.bootTarget 0 with
      | some s => s.leaveRecovery.complete req stOK
      | none => (s.noSlot 0).complete req stINTEGRITY

/-- The scheduled passes are aborted as the cupola's firmware changes; no site is charged (R448). -/
def State.abortScheduled (s : State) : State :=
  s.rel.xchk.foldl (fun (s : State) x => if x.req.isNone && x.passes != 0 then s.endXchk x.area stPARTIAL else s) s

/-- SPDM sessions end and the nonce is lost (R449, R459). -/
def State.endSessions (s : State) : State := { s with sec := { s.sec with sess := [], nonce := none } }

/-- FW_ACTIVATE (R437, R448, R449). -/
def fwActivate (t : Nat) (r : Fin 256) (j : Nat) (s : State) : State :=
  s.hostOp r j 0x1A fun req d s =>
    if d.bits 8 0 2 ≠ t then s
    else if s.fw.handover.isSome then s.complete req stBUSY
    else if !(s.fwSlot t (1 - s.runSlot t)).staged then s.complete req stNOTREADY
    else match s.boot.recover with
      | some u => if u = t then s.recoverFw req t else s.complete req stNOTREADY
      | none =>
        let s := s.setBusy req
        let s : State := { s with fw := { s.fw with handover := some (t, req) } }
        if t = 1 then s.endSessions else if s.cupolaRuns then s else s.abortScheduled

/-- FW_HANDOVER_READY: the new firmware reports ready in time (R448, R449). -/
def fwHandoverReady (s : State) : State :=
  match s.fw.handover with
  | none => s
  | some (t, req) =>
    if t = 0 ∧ s.cupolaRuns then s
    else
      let s := if t = 0 then s.abortScheduled else s
      let s := (s.switchFw t).fwReady t
      { s with fw := { s.fw with handover := none } }.complete req stOK

/-- FW_HANDOVER_TIMEOUT: of the wait for descriptors that have started, or of the new firmware (R448, R449). -/
def fwHandoverTimeout (s : State) : State :=
  match s.fw.handover with
  | none => s
  | some (t, req) =>
    let waits := s.cupolaRuns
    let s := { s with fw := { s.fw with handover := none } }
    if t = 0 ∧ waits then s.complete req stBUSY
    else
      let i := 1 - s.runSlot t
      ((if t = 0 then s.abortScheduled else s).setFwSlot t i { s.fwSlot t i with bad := true, staged := false }).complete req
        stINTEGRITY

/-- The security controller's services are paused while its firmware changes (R449). -/
def State.secPaused (s : State) : Bool :=
  match s.fw.handover with
  | some (t, _) => t == 1
  | none => false

/-- A mailbox response: its header, its body, written as far as RSP_MAX allows (R332, R452). -/
def State.mailReply (s : State) (req : Nat × Nat) (d : Desc) (status : Nat) (body : List Byte) : State :=
  let rsp := (leBytes 8 status ++ body).take (d.f 0x20 2)
  (s.hostWrite (d.f 0x18 8) rsp).complete req stOK 0 (BitVec.ofNat 128 rsp.length)

/-- The mailbox's commands (R452). -/
def mailCmds : List Nat := [1, 2, 3, 0x10]

/-- A SEC_MAILBOX descriptor taken up by the command of its CMD; one that names no command is answered by any of them
(R332, R452). -/
def State.mailOp (s : State) (r : Fin 256) (j : Nat) (h : HostRead) (cmd : Nat)
    (go : (Nat → List Byte → State → State) → List Byte → State → State) : State :=
  s.hostOp r j 0x1B fun req d s =>
    if s.secPaused then s
    else match h with
      | .failed _ code => s.complete req stWINDOW code.toNat
      | .data b =>
        let reply (st : Nat) (body : List Byte) (s : State) : State := s.mailReply req d st body
        if b.length ≠ d.f 0x10 2 then s
        else if b.length < 8 ∨ leAt b 2 6 ≠ 0 then reply stBADRSVD [] s
        else if !(mailCmds.contains (leAt b 0 2)) then reply stBADOPC [] s
        else if leAt b 0 2 ≠ cmd then s
        else if !s.cryptoOk then reply stDENIED [] s
        else go reply (b.drop 8) s

/-- Fresh random bytes (R452, R457; log entry 2). -/
def State.random (s : State) (n : Nat) : List Byte × State :=
  match s.draw with
  | (k, s) => ((List.range n).map fun i => Config.freeByte k i, s)

/-- GET_NONCE (R452). -/
def getNonce (r : Fin 256) (j : Nat) (h : HostRead) (s : State) : State :=
  s.mailOp r j h 1 fun reply b s =>
    if b ≠ [] then reply stBADRSVD [] s
    else match s.random 32 with
      | (x, s) => reply stOK x { s with sec := { s.sec with nonce := some x } }

/-- Whether an owner key is installed (R452). -/
def State.owned (s : State) : Bool := !s.sec.owner.isEmpty

/-- SET_OWNER (R452). -/
def setOwner (r : Fin 256) (j : Nat) (h : HostRead) (s : State) : State :=
  s.mailOp r j h 2 fun reply b s =>
    if s.owned then reply stNOTREADY [] s
    else if b.length ≠ 1312 then reply stBADRSVD [] s
    else reply stOK [] { s with sec := { s.sec with owner := b } }

/-- The owner's sub-commands (R452). -/
def ownerSubs : List Nat := [1, 2, 3, 4]

/-- The bytes of an argument that a sub-command uses are well formed, and those it does not use are 0 (R452). -/
def ownerArg (sub : Nat) (a : List Byte) : Bool :=
  let ix := decide (1 ≤ leAt a 0 1) && decide (leAt a 0 1 ≤ 7)
  match sub with
  | 1 => ix && leAt a 1 7 == 0 && leAt a 0x28 8 == 0
  | 2 => ix && leAt a 1 47 == 0
  | 3 => maskOk (leAt a 0 4) 0x3FF && ((List.range 5).all fun i => fld (leAt a 0 4) (2 * i) 2 != 3)
      && decide (leAt a 4 1 < 2) && leAt a 5 43 == 0
  | _ => leAt a 0 48 == 0

/-- The nonce is used up by the command that carries it (R452). -/
def State.useNonce (s : State) (x : List Byte) : Bool × State :=
  if s.sec.nonce = some x then (true, { s with sec := { s.sec with nonce := none } }) else (false, s)

/-- An OWNER_CMD of one sub-command: `go` gets its argument (R452). -/
def State.ownerOp (s : State) (r : Fin 256) (j : Nat) (h : HostRead) (sub : Nat) (go : List Byte → State → State) : State :=
  s.mailOp r j h 3 fun reply b s =>
    let n := leAt b 0 1
    let a := slice b 0x28 48
    if b.length ≠ 0x58 + 2420 ∨ leAt b 1 7 ≠ 0 ∨ !(ownerSubs.contains n) then reply stBADRSVD [] s
    else if n ≠ sub then s
    else if !(ownerArg sub a) then reply stBADRSVD [] s
    else if !s.owned then reply stNOTREADY [] s
    else match s.useNonce (slice b 8 32) with
      | (false, s) => reply stDENIED [] s
      | (true, s) =>
        if Config.mldsaVerify s.sec.owner (leBytes 32 (Config.sha3 (b.take 0x58)).toNat) (b.drop 0x58) then
          reply stOK [] (go a s)
        else reply stDENIED [] s

/-- ADD_IMAGE_KEY (R452). -/
def addImageKey (r : Fin 256) (j : Nat) (h : HostRead) (s : State) : State :=
  s.ownerOp r j h 1 fun a s =>
    { s with sec := { s.sec with imgKey := Tbl.set none s.sec.imgKey (leAt a 0 1) (some (BitVec.ofNat 256 (leAt a 8 32))) } }

/-- REMOVE_IMAGE_KEY (R452). -/
def removeImageKey (r : Fin 256) (j : Nat) (h : HostRead) (s : State) : State :=
  s.ownerOp r j h 2 fun a s => { s with sec := { s.sec with imgKey := Tbl.set none s.sec.imgKey (leAt a 0 1) none } }

/-- SET_BOOT_POLICY (R452). -/
def setBootPolicy (r : Fin 256) (j : Nat) (h : HostRead) (s : State) : State :=
  s.ownerOp r j h 3 fun a s =>
    { s with sec := { s.sec with bootPol := BitVec.ofNat 32 (leAt a 0 4), lockBoot := leAt a 4 1 == 1 } }

/-- The owner key, the image keys and the boot policy erased (R452, R459). -/
def State.eraseOwner (s : State) : State :=
  { s with sec := { s.sec with owner := [], imgKey := [], bootPol := 0, lockBoot := false } }

/-- RELEASE_OWNER (R452). -/
def releaseOwner (r : Fin 256) (j : Nat) (h : HostRead) (s : State) : State := s.ownerOp r j h 4 fun _ s => s.eraseOwner

/-- A lantern loses its keys: it goes DOWN, and trains anew where AUTO is set (R459). -/
def State.dropKeys (s : State) (l : Nat) : State :=
  let n := s.lantern l
  if n.st = 3 ∧ n.encOn then
    let s := (s.leaveUp l 1 0 false).stopLink l (if s.lntAuto l then 2 else 1) 0
    s.setLantern l { s.lantern l with keyed := false }
  else s.setLantern l { n with keyed := false }

/-- The link IDE stream is insecure, and AER records it (R455). -/
def State.ideInsecure (s : State) : State :=
  if s.host.pcie.secure then
    { s with host := { s.host with pcie := { s.host.pcie with secure := false, aerIde := true } } }
  else s

/-- IDE and lantern keys zeroised (R450, R459). -/
def State.eraseLinkKeys (s : State) : State :=
  let s : State := { s with sec := { s.sec with ideKey := none, ideNext := none } }
  let s := (List.range 48).foldl (fun (s : State) l => s.dropKeys l) s.ideInsecure
  { s with host := { s.host with pcie := { s.host.pcie with keyNext := false } } }

/-- MAKER_UNLOCK (R462). -/
def makerUnlock (r : Fin 256) (j : Nat) (h : HostRead) (s : State) : State :=
  s.mailOp r j h 0x10 fun reply b s =>
    let sig := slice b 0x30 3808
    if b.length ≠ 0x30 + 3808 ∨ !(sigLayout sig) then reply stBADRSVD [] s
    else match s.useNonce (slice b 0x10 32) with
      | (false, s) => reply stDENIED [] s
      | (true, s) =>
        if leAt b 0 4 ≠ 0x4B4D5456 ∨ BitVec.ofNat 64 (leAt b 8 8) ≠ Config.serial
            ∨ !(makerSigned sig (Config.sha3 (b.take 0x30))) then reply stDENIED [] s
        else
          let s : State := { s with sec := { s.sec with owner := [], imgKey := [], makerMode := true, makerSeen := true } }
          reply stOK [] s.eraseLinkKeys

/-- The code of an alarm source (R458). -/
def alarmCode : AlarmSource → Nat
  | .volt => 1
  | .clk => 2
  | .temp => 3
  | .light => 4
  | .shield => 5

/-- SEC_ALARM_POLICY (R463). -/
def State.alarmPolicy (s : State) : Word := s.bar (secBase + 8)

/-- SEC_ALARM_TRIGGER: one event per episode; the source's policy with the actions of every milder one (R458-R460). -/
def secAlarmTrigger (src : AlarmSource) (s : State) : State :=
  let c := alarmCode src
  if !s.boot.powerGood || !(s.sec.armed.getLsbD (c - 1)) then s
  else
    let p := wfld s.alarmPolicy (2 * (c - 1)) 2
    let s : State := { s with sec := { s.sec with armed := s.sec.armed &&& ~~~(BitVec.ofNat 5 (2 ^ (c - 1))) } }
    let s := s.bumpBar (secBase + 0x10) (secBase + 0x14) 0 1
    let s := (s.setBar (secBase + 4) (setFld (s.bar (secBase + 4)) 8 8 c)).raise 2 (evData (c + (p <<< 8)) 0)
    let s := if 1 ≤ p then s.endSessions.eraseLinkKeys else s
    if 2 ≤ p then { s with sec := { s.sec with ident := false } }.eraseOwner else s

/-- SEC_ALARM_REARM (R459). -/
def secAlarmRearm (src : AlarmSource) (s : State) : State :=
  { s with sec := { s.sec with armed := s.sec.armed ||| BitVec.ofNat 5 (2 ^ (alarmCode src - 1)) } }

/-- SEC_ALARM_POLICY written: each field can only be made stricter, and a 3 is ignored (R460, R463). -/
def secAlarmPolicyWrite (v : Word) (s : State) : State :=
  let w := (List.range 5).foldl (fun (w : Word) i =>
    let x := wfld v (2 * i) 2
    if x = 3 then w else setFld w (2 * i) 2 (max x (wfld w (2 * i) 2))) s.alarmPolicy
  s.setBar (secBase + 8) w

/-- ENTROPY_HEALTH_FAIL: cryptographic services stop (R457). -/
def entropyHealthFail (s : State) : State :=
  if !s.boot.powerGood then s else s.setBar (secBase + 4) (setBit (s.bar (secBase + 4)) 5 true)

/-- An SPDM answer given (R453). -/
def State.spdmSay (s : State) (b : List Byte) : State := { s with sec := { s.sec with answer := b } }

/-- An SPDM ERROR answer with its code: 2 invalid session, 5 unspecified, 10 too many sessions (R453). -/
def State.spdmError (s : State) (code : Nat) : State := s.spdmSay [0x13, 0x7F, BitVec.ofNat 8 code, 0]

/-- An SPDM request served: it waits while the security firmware changes, and finds an error where cryptographic
services have stopped (R449, R453, R457). -/
def State.spdmOp (s : State) (go : State → State) : State :=
  if !s.boot.powerGood || s.secPaused then s else if !s.cryptoOk then s.spdmError 5 else go s

/-- A request that needs the identity key or its certificates (R450, R453). -/
def State.spdmSigned (s : State) (go : State → State) : State :=
  s.spdmOp fun s => if s.sec.ident then go s else s.spdmError 5

/-- An answer whose contents the manual leaves to SPDM, by its request code (R453). -/
def State.spdmFree (s : State) (code : Nat) : State :=
  match s.draw with
  | (n, s) => s.spdmSay (Config.spdmAnswer code n)

/-- SPDM_GET_VERSION: version 1.3 only (R453). -/
def spdmGetVersion (s : State) : State := s.spdmOp fun s => s.spdmSay [0x10, 0x04, 0, 0, 0, 1, 0, 0x13]

/-- SPDM_GET_DIGESTS: of the chain of slot 0 (R453). -/
def spdmGetDigests (s : State) : State :=
  s.spdmSigned fun s => s.spdmSay ([0x13, 0x01, 0, 1] ++ leBytes 32 (Config.sha3 Config.certChain).toNat)

/-- SPDM_GET_CERTIFICATE: the chain of slot 0 (R453). -/
def spdmGetCertificate (s : State) : State := s.spdmSigned fun s => s.spdmSay ([0x13, 0x02, 0, 0] ++ Config.certChain)

/-- Block 5: the alarm policy, DBG_LOCK, ENG_DBG_CTL.EN, the maker fuse, owned, identity present (R454). -/
def State.secWord (s : State) : Nat :=
  wfld s.alarmPolicy 0 10 + ((wbit (s.bar (secBase + 0xC)) 0).toNat <<< 10) + ((wbit (s.bar 0x120) 0).toNat <<< 11)
    + (s.sec.makerSeen.toNat <<< 12) + (s.owned.toNat <<< 13) + (s.sec.ident.toNat <<< 14)

/-- The measurement of a running firmware image: its digest and its SVN (R454). -/
def State.fwMeasure (s : State) (t : Nat) : List Byte :=
  let x := s.fwSlot t (s.runSlot t)
  leBytes 32 x.digest.toNat ++ leBytes 2 x.svn.toNat

/-- Entry `i` of the image trust list; an empty one reads 0 (R451, R454). -/
def State.trustKey (s : State) (i : Nat) : BitVec 256 :=
  if i = 0 then Config.makerKeyId else (Tbl.get none s.sec.imgKey i).getD 0

/-- The measurement blocks 1 to 7 (R454). -/
def State.measurements (s : State) : List (List Byte) :=
  [leBytes 32 Config.romDigest.toNat, s.fwMeasure 1, s.fwMeasure 0, leBytes 32 (Config.sha3 Config.capRecord).toNat,
   leBytes 4 s.secWord,
   leBytes 32 (Config.sha3 ((List.range 8).flatMap fun i => leBytes 32 (s.trustKey i).toNat)).toNat,
   leBytes 32 s.sec.images.toNat]

/-- GET_MEASUREMENTS: each block with its index and length, then the signature (R454). -/
def getMeasurements (s : State) : State :=
  s.spdmSigned fun s =>
    let bs := s.measurements
    let body := (bs.zip (List.range bs.length)).flatMap fun x => BitVec.ofNat 8 (x.2 + 1) :: leBytes 2 x.1.length ++ x.1
    match s.draw with
    | (n, s) => s.spdmSay ([0x13, 0x60, 0, 0] ++ body ++ Config.spdmAnswer 0xE0 n)

/-- An SPDM session. -/
def State.session (s : State) (i : Nat) : Session := Tbl.get Session.reset s.sec.sess i
def State.setSession (s : State) (i : Nat) (x : Session) : State :=
  { s with sec := { s.sec with sess := Tbl.set Session.reset s.sec.sess i x } }

/-- SPDM_KEY_EXCHANGE: a new session, of at most four (R453). -/
def spdmKeyExchange (s : State) : State :=
  s.spdmSigned fun s =>
    match (List.range 4).find? fun i => !(s.session i).keyed with
    | none => s.spdmError 10
    | some i => (s.setSession i { keyed := true, finished := false, keyGen := 0 }).spdmFree 0xE4

/-- A request in a session that meets a condition. -/
def State.inSession (s : State) (i : Nat) (ok : Session → Bool) (go : Session → State → State) : State :=
  s.spdmOp fun s => if ok (s.session i) then go (s.session i) s else s.spdmError 2

/-- SPDM_FINISH: the session is established (R453). -/
def spdmFinish (i : Nat) (s : State) : State :=
  s.inSession i (fun x => x.keyed && !x.finished) fun x s => (s.setSession i { x with finished := true }).spdmFree 0xE5

/-- SPDM_KEY_UPDATE (R453). -/
def spdmKeyUpdate (i : Nat) (s : State) : State :=
  s.inSession i (fun x => x.finished) fun x s => (s.setSession i { x with keyGen := x.keyGen + 1 }).spdmFree 0xE9

/-- SPDM_END_SESSION (R450, R453). -/
def spdmEndSession (i : Nat) (s : State) : State :=
  s.inSession i (fun x => x.finished) fun _ s => (s.setSession i Session.reset).spdmFree 0xEC

/-- IDE_KM KEY_PROG: the next key of the link stream, in an established session (R455). -/
def ideKmKeyProg (i : Nat) (key : BitVec 256) (s : State) : State :=
  s.inSession i (fun x => x.finished) fun _ s =>
    let s : State := { s with sec := { s.sec with ideNext := some key } }
    { s with host := { s.host with pcie := { s.host.pcie with keyNext := true } } }

/-- IDE_KM K_SET_GO: the key set programmed last takes effect (R455). -/
def kSetGo (i : Nat) (s : State) : State :=
  s.inSession i (fun x => x.finished) fun _ s =>
    match s.sec.ideNext with
    | none => s
    | some k =>
      let s : State := { s with sec := { s.sec with ideKey := some k, ideNext := none } }
      { s with host := { s.host with pcie := { s.host.pcie with secure := s.host.pcie.up, keyNext := false } } }

/-- The largest of some sensors' readings. -/
def State.hottest (s : State) (lo n : Nat) : Int :=
  (List.range n).foldl (fun (m : Int) i => max m (s.pwr.sensors.getD (lo + i) 0)) (s.pwr.sensors.getD lo 0)

/-- The value of a monitoring sensor; the coolant inlet is measured nowhere in the manual and is a free value (R342,
R403; log entry 2). -/
def State.pldmValue (s : State) : PldmSensor → Int
  | .coolantInlet => (Config.freeWord s.fresh).toInt
  | .coolantOutlet => s.pwr.sensors.getD 338 0
  | .hottestDome => s.hottest 0 288
  | .hottestStack => s.hottest 304 32
  | .inputVoltage => s.pwr.millivolt
  | .inputCurrent => s.pwr.milliamp
  | .inputPower => s.pwr.power

/-- PLDM_SENSOR_READ (R342). -/
def pldmSensorRead (x : PldmSensor) (s : State) : State :=
  if !s.boot.powerGood then s
  else
    let v := s.pldmValue x
    let s : State := if x = .coolantInlet then { s with fresh := s.fresh + 1 } else s
    s.spdmSay (leBytes 4 (unsgn 32 v))

/-- PLDM_FRU_READ: part number, serial, stepping, stack mask, lantern mask, power ceiling (R342). -/
def pldmFruRead (s : State) : State :=
  if !s.boot.powerGood then s
  else s.spdmSay (le4 ([0x4, 0x10, 0x14, 0x8, 0x44, 0x48, 0x4C, 0x54].map fun o => (s.bar o).toNat))

/-- FW_STAGE (R447). -/
def execFwStage (r : Fin 256) (j : Nat) (h : HostRead) (s : State) : Res := .next (fwStage r j h s)

/-- FW_STAGE_DONE (R447). -/
def execFwStageDone (s : State) : Res := .next (fwStageDone s)

/-- FW_ACTIVATE_CUPOLA (R448). -/
def execFwActivateCupola (r : Fin 256) (j : Nat) (s : State) : Res := .next (fwActivate 0 r j s)

/-- FW_ACTIVATE_SECURITY (R449). -/
def execFwActivateSecurity (r : Fin 256) (j : Nat) (s : State) : Res := .next (fwActivate 1 r j s)

/-- FW_HANDOVER_READY (R448). -/
def execFwHandoverReady (s : State) : Res := .next (fwHandoverReady s)

/-- FW_HANDOVER_TIMEOUT (R448). -/
def execFwHandoverTimeout (s : State) : Res := .next (fwHandoverTimeout s)

/-- GET_NONCE (R452). -/
def execGetNonce (r : Fin 256) (j : Nat) (h : HostRead) (s : State) : Res := .next (getNonce r j h s)

/-- SET_OWNER (R452). -/
def execSetOwner (r : Fin 256) (j : Nat) (h : HostRead) (s : State) : Res := .next (setOwner r j h s)

/-- ADD_IMAGE_KEY (R452). -/
def execAddImageKey (r : Fin 256) (j : Nat) (h : HostRead) (s : State) : Res := .next (addImageKey r j h s)

/-- REMOVE_IMAGE_KEY (R452). -/
def execRemoveImageKey (r : Fin 256) (j : Nat) (h : HostRead) (s : State) : Res := .next (removeImageKey r j h s)

/-- SET_BOOT_POLICY (R452). -/
def execSetBootPolicy (r : Fin 256) (j : Nat) (h : HostRead) (s : State) : Res := .next (setBootPolicy r j h s)

/-- RELEASE_OWNER (R452). -/
def execReleaseOwner (r : Fin 256) (j : Nat) (h : HostRead) (s : State) : Res := .next (releaseOwner r j h s)

/-- MAKER_UNLOCK (R462). -/
def execMakerUnlock (r : Fin 256) (j : Nat) (h : HostRead) (s : State) : Res := .next (makerUnlock r j h s)

/-- SEC_ALARM_TRIGGER (R459). -/
def execSecAlarmTrigger (src : AlarmSource) (s : State) : Res := .next (secAlarmTrigger src s)

/-- SEC_ALARM_REARM (R459). -/
def execSecAlarmRearm (src : AlarmSource) (s : State) : Res := .next (secAlarmRearm src s)

/-- SEC_ALARM_POLICY_WRITE (R460). -/
def execSecAlarmPolicyWrite (v : Word) (s : State) : Res := .next (secAlarmPolicyWrite v s)

/-- DBG_LOCK_SET (R461). -/
def execDbgLockSet (s : State) : Res := .next s.lockDebug

/-- ENTROPY_HEALTH_FAIL (R457). -/
def execEntropyHealthFail (s : State) : Res := .next (entropyHealthFail s)

/-- SPDM_GET_VERSION (R453). -/
def execSpdmGetVersion (_c : SpdmPort) (s : State) : Res := .next (spdmGetVersion s)

/-- SPDM_GET_CAPABILITIES (R453). -/
def execSpdmGetCapabilities (_c : SpdmPort) (s : State) : Res := .next (s.spdmOp fun s => s.spdmFree 0xE1)

/-- SPDM_NEGOTIATE_ALGORITHMS (R453). -/
def execSpdmNegotiateAlgorithms (_c : SpdmPort) (s : State) : Res := .next (s.spdmOp fun s => s.spdmFree 0xE3)

/-- SPDM_GET_DIGESTS (R453). -/
def execSpdmGetDigests (_c : SpdmPort) (s : State) : Res := .next (spdmGetDigests s)

/-- SPDM_GET_CERTIFICATE (R453). -/
def execSpdmGetCertificate (_c : SpdmPort) (s : State) : Res := .next (spdmGetCertificate s)

/-- SPDM_CHALLENGE (R453). -/
def execSpdmChallenge (_c : SpdmPort) (s : State) : Res := .next (s.spdmSigned fun s => s.spdmFree 0x83)

/-- GET_MEASUREMENTS (R454). -/
def execGetMeasurements (_c : SpdmPort) (s : State) : Res := .next (getMeasurements s)

/-- SPDM_KEY_EXCHANGE (R453). -/
def execSpdmKeyExchange (_c : SpdmPort) (s : State) : Res := .next (spdmKeyExchange s)

/-- SPDM_FINISH (R453). -/
def execSpdmFinish (_c : SpdmPort) (sess : Fin 4) (s : State) : Res := .next (spdmFinish sess s)

/-- SPDM_HEARTBEAT (R453). -/
def execSpdmHeartbeat (_c : SpdmPort) (sess : Fin 4) (s : State) : Res :=
  .next (s.inSession sess (fun x => x.finished) fun _ s => s.spdmFree 0xE8)

/-- SPDM_KEY_UPDATE (R453). -/
def execSpdmKeyUpdate (_c : SpdmPort) (sess : Fin 4) (s : State) : Res := .next (spdmKeyUpdate sess s)

/-- SPDM_END_SESSION (R453). -/
def execSpdmEndSession (_c : SpdmPort) (sess : Fin 4) (s : State) : Res := .next (spdmEndSession sess s)

/-- IDE_KM_KEY_PROG (R455). -/
def execIdeKmKeyProg (sess : Fin 4) (key : BitVec 256) (s : State) : Res := .next (ideKmKeyProg sess key s)

/-- K_SET_GO (R455). -/
def execKSetGo (sess : Fin 4) (s : State) : Res := .next (kSetGo sess s)

/-- IDE_INTEGRITY_FAILURE (R455). -/
def execIdeIntegrityFailure (s : State) : Res := .next s.ideInsecure

/-- PLDM_SENSOR_READ (R342). -/
def execPldmSensorRead (x : PldmSensor) (s : State) : Res := .next (pldmSensorRead x s)

/-- PLDM_FRU_READ (R342). -/
def execPldmFruRead (s : State) : Res := .next (pldmFruRead s)

end Sys2Proof.Machine
end

