-- ==== Sys2Proof/Machine/Regs.lean ====
section
/-!
DEFINITION. Register accesses that no command of its own names: each field of a word written by its access code,
overflow bits cleared with their counters, the views reads return, and the latch of a W64 pair (R8, R9, R13, R16, R39,
R211, R315, R320, R343-R346, R379, R380, R405, R406, R435, R463, R464).
-/

namespace Sys2Proof.Machine

/-- The number of a lane, stack or ring whose registers an offset lies among, and the offset within its own. -/
def regAt (base stride off : Nat) : Nat × Nat := ((off - base) / stride, (off - base) % stride)

/-- The S32 counters behind the OVF bits of a BAR0 register, by bit: first counter and how many (R13, R211, R315, R379,
R405, R406, R435, R463). -/
def barCounters (off : Nat) : List Nat :=
  let run (first n : Nat) : List Nat := (List.range n).map fun i => first + 4 * i
  if stkBase ≤ off ∧ off < stkBase + 0x20000 ∧ off % 0x1000 = 0x18 then run (off - 0xC) 3
  else if lntBase ≤ off ∧ off < sysBase ∧ off % 0x1000 = 0x30 then run (off - 0x1C) 7
  else if off = clkBase + 0x28 then run (clkBase + 0x24) 1
  else if off = pwrBase + 0x84 then run (pwrBase + 0x80) 1
  else if off = fabBase + 0x58 then run (fabBase + 0x50) 1
  else if off = relBase + 0x2C then run (relBase + 0x24) 2
  else if off = secBase + 0x14 then run (secBase + 0x10) 1
  else []

/-- OVF bits of BAR0 written 1: each clears itself and its counter; UE_OVF also frees STK_UE_ADDR (R13, R315). -/
def State.barOvfClear (s : State) (off : Nat) (v : Word) : State :=
  let cs := barCounters off
  let s := (List.range cs.length).foldl (fun (s : State) i =>
    if wbit v i then (s.setBar off (setBit (s.bar off) i false)).setBar (cs.getD i 0) 0 else s) s
  if stkBase ≤ off ∧ off < lntBase ∧ wbit v 1 then
    s.setBar (off + 0xC) (setBit (s.bar (off + 0xC)) 31 false)
  else s

/-- The writable bits of the RW registers of BAR0 whose writes have no condition and no further effect (R211, R315,
R344, R345, R379, R380, R405, R435). -/
def barRW (off : Nat) : Word :=
  if stkBase ≤ off ∧ off < lntBase then if off % 0x1000 = 8 then 0x800000FF else 0
  else if lntBase ≤ off ∧ off < sysBase then if off % 0x1000 = 4 then 3 else 0
  else if sysBase + 0x20 ≤ off ∧ off < sysBase + 0x60 then 0x80003FFF
  else match off with
    | 0x010004 => 0x7F
    | 0x020008 => 0x3FF
    | 0x10001C => 0x800000FF
    | 0x200008 => 0x00FFFF1F
    | 0x20000C => 0x1F
    | 0x430008 => 0x00FFFF1F
    | 0x430010 => 0xFFFFFFFF
    | 0x430014 => 0x0000FFFF
    | 0x430080 => 0x00003FFF
    | 0x430084 => 0xFFFFFFFF
    | 0x430088 => 0xFFFFFFFF
    | 0x500004 => 0x803FFFFF
    | 0x50000C => 0x8000FFFF
    | _ => 0

/-- ENG_ERR written: each 1 clears its bit; GATED_WR also frees ENG_ERR_ADDR (R343). -/
def State.engErrWrite (s : State) (v : Word) : State :=
  let s := s.setBar 0x10C (s.bar 0x10C &&& ~~~(v &&& 0x000F007D))
  if wbit v 0 then s.setBar 0x110 (setBit (s.bar 0x110) 31 false) else s

/-- ENG_DBG_CTL written: EN cannot be set while LOCK is 1 (R322, R343). -/
def State.dbgCtlWrite (s : State) (v : Word) : State :=
  let w := s.bar 0x120
  s.setBar 0x120 (setBit w 0 (wbit v 0 && !(wbit w 1)))

/-- HRING_EVT written; order numbers of events begin anew when EN is set (R336, R345). -/
def State.evtWrite (s : State) (v : Word) : State :=
  let s := if wbit v 31 && !(wbit (s.bar 0x20004) 31) then { s with host := { s.host with evSeq := 0 } } else s
  s.setBar 0x20004 (v &&& 0x8000003F)

/-- A word of a command ring's registers written: a BASE only while EN is 0 (R345). -/
def State.cmdRegWrite (s : State) (off : Nat) (v : Word) : State :=
  match regAt 0x21000 0x20 off with
  | (r, 8) => cmdCfgWrite r v s
  | (r, 0) => if cfgEn (s.bar (cmdCfg r)) then s else s.setBar off (v &&& 0xFFFFFFC0)
  | (r, 4) => if cfgEn (s.bar (cmdCfg r)) then s else s.setBar off v
  | _ => s

/-- A word of a completion ring's registers written (R345). -/
def State.cplRegWrite (s : State) (off : Nat) (v : Word) : State :=
  match regAt 0x24000 0x20 off with
  | (q, 8) => cplCfgWrite q v s
  | (q, 0) => if cfgEn (s.bar (cplCfg q)) then s else s.setBar off (v &&& 0xFFFFFFE0)
  | (q, 4) => if cfgEn (s.bar (cplCfg q)) then s else s.setBar off v
  | _ => s

/-- A word of the MSI-X table written; a pending vector that is unmasked is sent (R338, R346). -/
def State.msixWrite (s : State) (i : Nat) (v : Word) : State :=
  let h := s.host
  let v := if i % 4 = 3 then v &&& 1 else if i % 4 = 0 then v &&& 0xFFFFFFFC else v
  let s : State := { s with host := { h with msix := Tbl.set (if i % 4 = 3 then 1 else 0) h.msix i v } }
  if i % 4 = 3 ∧ v = 0 ∧ Tbl.get false h.pba (i / 4) = true then
    ({ s with host := { s.host with pba := Tbl.set false h.pba (i / 4) false } } : State).raiseVec (i / 4)
  else s

/-- FAB_STAGE_CTL written (R193, R211). -/
def State.stageCtlWrite (s : State) (v : Word) : State :=
  let s := if wbit v 0 then fabCopy s else s
  if wbit v 1 then fabCheck s else s

/-- The system tree's parent written (R369, R373, R380). -/
def State.treeUpWrite (s : State) (v : Word) : State := (s.setBar (sysBase + 0xC) (v &&& 0x8000007F)).retarget

/-- LNT_TIME written: STEPPED takes a 1 (R380). -/
def State.timeWrite (s : State) (v : Word) : State :=
  if wbit v 17 then s.setTime (setBit s.timeReg 17 false) else s

/-- Whether the unit a BAR0 offset belongs to is there: registers of a stack not populated and of a lantern not fitted
take no write (R315, R379). -/
def State.unitThere (s : State) (off : Nat) : Bool :=
  if stkBase ≤ off ∧ off < lntBase then decide (off < stkBase + 0x20000) && s.populated (off % 0x20000 / 0x1000)
  else if lntBase ≤ off ∧ off < sysBase then s.fitted (off % 0x40000 / 0x1000)
  else true

/-- A BAR0 register whose block is enabled written, each field by its access code (R8, R9). -/
def State.barWriteOpen (s : State) (off : Nat) (v : Word) : State :=
  if !(s.unitThere off) || off % 4 != 0 then s
  else if barCounters off ≠ [] then s.barOvfClear off v
  else if barRW off ≠ 0 then s.setBar off (v &&& barRW off)
  else if 0x21000 ≤ off ∧ off < 0x23000 then s.cmdRegWrite off v
  else if 0x24000 ≤ off ∧ off < 0x24800 then s.cplRegWrite off v
  else if 0x31000 ≤ off ∧ off < 0x39000 then s.msixWrite (off % 0x10000 / 4 - 1024) v
  else if sysBase + 0x100 ≤ off ∧ off < sysBase + 0x900 then
    lntRwinWrite ((off % 0x10000 - 0x100) / 0x20) ((off % 0x10000 - 0x100) % 0x20 / 4) v s
  else match off with
    | 0x000104 => hifVerWrite v s
    | 0x00010C => s.engErrWrite v
    | 0x000120 => s.dbgCtlWrite v
    | 0x000124 => if wbit (s.bar 0x120) 0 then s else s.setBar 0x124 v
    | 0x000128 => if wbit (s.bar 0x120) 0 then s else s.setBar 0x128 v
    | 0x020004 => s.evtWrite v
    | 0x100020 => clkHoldWrite v s
    | 0x110004 => pwrCapWrite v s
    | 0x200010 => s.stageCtlWrite v
    | 0x430004 => lntSysIdWrite v s
    | 0x43000C => s.treeUpWrite v
    | 0x430018 => s.timeWrite v
    | 0x43001C => s.writeJob v
    | 0x430090 => lntFwdGo v s
    | 0x500040 => relHistSel v s
    | 0x600008 => secAlarmPolicyWrite v s
    | 0x60000C => if wbit v 0 then s.lockDebug else s
    | _ => s

/-- A BAR0 register written (R8, R320). -/
def State.barWrite (s : State) (off : Nat) (v : Word) : State := s.barAccess off fun s => s.barWriteOpen off v

/-- A word of bits, bit `k` as a function says. -/
def bitWord (n : Nat) (f : Nat → Bool) : Word :=
  BitVec.ofNat 32 (((List.range n).filter f).map fun i => 2 ^ i).sum

/-- CMD_STATUS_n (R345). -/
def State.cmdStatus (s : State) (r : Nat) : Word :=
  let x := s.ring r
  BitVec.ofNat 32 (x.head % 65536 + (x.started.length <<< 16) + (x.err.toNat <<< 30) + (x.started.isEmpty.toNat <<< 31))

/-- CPL_STATUS_k (R345). -/
def State.cplStatus (s : State) (q : Nat) : Word :=
  let x := s.cpl q
  BitVec.ofNat 32 (x.tail % 65536 + (x.phase.toNat <<< 17) + ((!x.waiting.isEmpty).toNat <<< 18))

/-- A register of a stack's block as it reads (R315). -/
def State.stackView (s : State) (k off : Nat) : Word :=
  let x := s.stack k
  let w := s.bar (stkOff k off)
  if off = 4 then
    if s.populated k then
      BitVec.ofNat 32 (x.st + ((!x.cands.isEmpty).toNat <<< 8)
        + ((wbit (s.bar (stkOff k 8)) 31 && x.st == 2 && x.scrub != 0).toNat <<< 9) + (x.digest.toNat <<< 10))
    else BitVec.ofNat 32 (if wbit (s.bar 0x40) 0 then 0 else x.st)
  else if !(s.populated k) then 0
  else if off = 0x28 then w ||| BitVec.ofNat 32 (x.cands.length + (x.candOvf.toNat <<< 7))
  else if off = 0x30 ∨ off = 0x38 then BitVec.ofNat 32 (s.ctr64 (stkOff k off)).toNat
  else if off = 0x34 ∨ off = 0x3C then Tbl.get 0 s.latch (stkOff k off - 4)
  else w

/-- A register of a lantern as it reads (R379). -/
def State.lanternView (s : State) (l off : Nat) : Word :=
  let n := s.lantern l
  let base := lntBase + 0x1000 * l
  if off = 8 then
    BitVec.ofNat 32 (n.st + (n.width <<< 3) + (n.group <<< 12) + ((if n.st = 1 then n.cause else 0) <<< 15)
      + (n.encOn.toNat <<< 18) + (n.tagFail.toNat <<< 19))
  else if n.st = 0 then 0
  else if off = 0xC then
    (match n.peer with
    | some p => BitVec.ofNat 32 (p.engine.toNat + (p.lantern.toNat <<< 12) + (p.netEn.toNat <<< 18) + (1 <<< 31))
    | none => 0)
  else if off = 0x10 then n.good.setWidth 32
  else if off = 0x38 ∨ off = 0x40 then BitVec.ofNat 32 (s.ctr64 (base + off)).toNat
  else if off = 0x3C ∨ off = 0x44 then Tbl.get 0 s.latch (base + off - 4)
  else s.bar (base + off)

/-- SEC_STATUS (R463). -/
def State.secStatus (s : State) : Word :=
  let x := s.sec
  let open_ := (List.range 4).countP fun i => (Tbl.get Session.reset x.sess i).finished
  let booted := decide (2 ≤ s.phase) && s.phase != 5
  s.bar (secBase + 4) ||| BitVec.ofNat 32 (booted.toNat + ((x.owner != []).toNat <<< 1) + (x.ident.toNat <<< 2)
    + (x.makerSeen.toNat <<< 3) + (x.makerMode.toNat <<< 4) + (open_ <<< 16))

/-- SVC_FW_CUP and SVC_FW_SEC, by target (R464). -/
def State.fwStatus (s : State) (t : Nat) : Word :=
  let r := s.runSlot t
  BitVec.ofNat 32 (r + ((s.fwSlot t 0).bad.toNat <<< 2) + ((s.fwSlot t 1).bad.toNat <<< 3)
    + ((s.fwSlot t (1 - r)).staged.toNat <<< 4) + ((s.fwSlot t r).svn.toNat <<< 16))

/-- The value of a W64 counter of BAR0, by the offset of its low word (R15, R39). -/
def State.barW64 (s : State) (off : Nat) : DWord :=
  if off = 0x10 then Config.serial else if off = clkBase + 0x10 then s.clk.ts else s.ctr64 off

/-- The low words of the W64 pairs of BAR0 (R16, R39, R315, R379, R405, R406). -/
def State.barIsLow (s : State) (off : Nat) : Bool :=
  [0x10, clkBase + 0x10, pwrBase + 8].contains off
    || (decide (stkBase ≤ off) && decide (off < stkBase + 0x20000) && (off % 0x1000 == 0x30 || off % 0x1000 == 0x38)
        && s.unitThere off)
    || (decide (lntBase ≤ off) && decide (off < sysBase) && (off % 0x1000 == 0x38 || off % 0x1000 == 0x40)
        && s.unitThere off)

/-- What a word of BAR0 reads as (R8, R9). -/
def State.barView (s : State) (off : Nat) : Word :=
  if stkBase ≤ off ∧ off < stkBase + 0x20000 then s.stackView (off % 0x20000 / 0x1000) (off % 0x1000)
  else if lntBase ≤ off ∧ off < sysBase then s.lanternView (off % 0x40000 / 0x1000) (off % 0x1000)
  else if s.barIsLow off then BitVec.ofNat 32 (s.barW64 off).toNat
  else if s.barIsLow (off - 4) ∧ 4 ≤ off then Tbl.get 0 s.latch (off - 4)
  else if 0x21000 ≤ off ∧ off < 0x23000 ∧ off % 0x20 = 0xC then s.cmdStatus (off % 0x4000 / 0x20 - 128)
  else if 0x24000 ≤ off ∧ off < 0x24800 ∧ off % 0x20 = 0xC then s.cplStatus (off % 0x1000 / 0x20)
  else if 0x31000 ≤ off ∧ off < 0x39000 then s.host.msixW (off % 0x10000 / 4 - 1024)
  else if 0x39000 ≤ off ∧ off < 0x39100 then
    bitWord 32 fun i => Tbl.get false s.host.pba ((off % 0x1000) * 8 + i)
  else if pwrBase + 0x20 ≤ off ∧ off < pwrBase + 0x44 then
    bitWord 32 fun i => (s.area ((off % 0x100 - 0x20) * 8 + i)).on
  else if pwrBase + 0x50 ≤ off ∧ off < pwrBase + 0x74 then
    bitWord 32 fun i => (s.areaRec ((off % 0x100 - 0x50) * 8 + i)).st == 2
  else if fabBase + 0x20 ≤ off ∧ off < fabBase + 0x44 then
    bitWord 32 fun i => (s.fab.holesOf s.curVer).getLsbD ((off % 0x100 - 0x20) * 8 + i)
  else if sysBase + 0x100 ≤ off ∧ off < sysBase + 0x900 ∧ off % 0x20 = 0xC then
    BitVec.ofNat 32 (s.inflight ((off % 0x10000 - 0x100) / 0x20))
  else match off with
    | 0x000004 => s.bar 4 ||| BitVec.ofNat 32 (Config.variant.toNat <<< 8)
    | 0x100018 => BitVec.ofNat 32 (((List.range 12).map fun d => s.domeState d <<< (2 * d)).sum)
    | 0x200054 => BitVec.ofNat 32 s.downLinks.length
    | 0x500010 => BitVec.ofNat 32 (s.siteCount 1)
    | 0x500014 => BitVec.ofNat 32 (s.siteCount 2)
    | 0x500018 => BitVec.ofNat 32 (s.siteCount 3)
    | 0x500020 => BitVec.ofNat 32 s.rel.minutes
    | 0x600004 => s.secStatus
    | 0x700008 => s.fwStatus 0
    | 0x70000C => (s.fwSlot 0 (s.runSlot 0)).version
    | 0x700010 => s.fwStatus 1
    | 0x700014 => (s.fwSlot 1 (s.runSlot 1)).version
    | 0x700018 => BitVec.ofNat 32 (s.minSvn 0 + (s.minSvn 1 <<< 16))
    | _ => s.bar off

/-- What the host's read answers: the bytes of a word (R8). -/
def State.answerWord (s : State) (v : Word) : State :=
  { s with host := { s.host with last := leBytes 4 v.toNat, abort := false } }

/-- A register written, each field by its access code; a core that is not there or an offset that does not decode takes
nothing (R8, R9, R37). -/
def registerWrite (t : RegTarget) (off : Nat) (v : Word) (s : State) : State :=
  match t with
  | .bar0 => s.barWrite off v
  | .core k => if s.siteOn k && coreDecoded off then s.coreWrite k off v else s

/-- OVF bits written 1: each clears itself and its counter (R13). -/
def counterOvfClear (t : RegTarget) (off : Nat) (v : Word) (s : State) : State :=
  match t with
  | .bar0 => if barCounters off = [] then s else s.barWrite off v
  | .core k => if s.siteOn k && coreOvfRegs.contains off then s.modCore k fun c => c.ovfClear off v else s

/-- The low word of a W64 pair read: the answer is the word, and the high word is latched (R16). -/
def w64LowRead (t : RegTarget) (off : Nat) (s : State) : State :=
  match t with
  | .bar0 =>
    if !(s.barIsLow off) then s
    else if s.gated off then gatedAccess off false s
    else
      let v := s.barW64 off
      ({ s with latch := Tbl.set 0 s.latch off (BitVec.ofNat 32 (v.toNat >>> 32)) } : State).answerWord
        (BitVec.ofNat 32 v.toNat)
  | .core k =>
    if s.siteOn k && (coreW64 off || off == 0x100B10) then
      match s.coreRead k off with
      | (s, some v) => s.answerWord v
      | (s, none) => s
    else s

/-- REGISTER_WRITE (R8). -/
def execRegisterWrite (t : RegTarget) (off : Nat) (v : Word) (s : State) : Res := .next (registerWrite t off v s)

/-- COUNTER_OVF_CLEAR (R13). -/
def execCounterOvfClear (t : RegTarget) (off : Nat) (v : Word) (s : State) : Res :=
  .next (counterOvfClear t off v s)

/-- W64_LOW_READ (R16). -/
def execW64LowRead (t : RegTarget) (off : Nat) (s : State) : Res := .next (w64LowRead t off s)

end Sys2Proof.Machine
end

