-- ==== Sys2Proof/Machine/Dispatch.lean ====
section
/-!
DEFINITION. What each command does: one arm for each row of the opcode table.
-/

namespace Sys2Proof.Machine

/-- A command's effect on everything but the queue. -/
def exec (i : Instr) (s : State) : Host.Outcome State Fault Refusal :=
  match i with
  | .registerWrite t off v => Sys2Proof.Machine.execRegisterWrite t off v s
  | .counterOvfClear t off v => Sys2Proof.Machine.execCounterOvfClear t off v s
  | .w64LowRead t off => Sys2Proof.Machine.execW64LowRead t off s
  | .wload k => Sys2Proof.Machine.execWload k s
  | .wloadComplete k => Sys2Proof.Machine.execWloadComplete k s
  | .tmm k => Sys2Proof.Machine.execTmm k s
  | .tmmComplete k => Sys2Proof.Machine.execTmmComplete k s
  | .azero k => Sys2Proof.Machine.execAzero k s
  | .vuAdd k => Sys2Proof.Machine.execVuAdd k s
  | .vuSub k => Sys2Proof.Machine.execVuSub k s
  | .vuMul k => Sys2Proof.Machine.execVuMul k s
  | .vuFma k => Sys2Proof.Machine.execVuFma k s
  | .vuMax k => Sys2Proof.Machine.execVuMax k s
  | .vuMin k => Sys2Proof.Machine.execVuMin k s
  | .vuExp2 k => Sys2Proof.Machine.execVuExp2 k s
  | .vuRcp k => Sys2Proof.Machine.execVuRcp k s
  | .vuRsqrt k => Sys2Proof.Machine.execVuRsqrt k s
  | .vuLog2 k => Sys2Proof.Machine.execVuLog2 k s
  | .vuRsum k => Sys2Proof.Machine.execVuRsum k s
  | .vuRmax k => Sys2Proof.Machine.execVuRmax k s
  | .vuCvt k => Sys2Proof.Machine.execVuCvt k s
  | .vuDrain k => Sys2Proof.Machine.execVuDrain k s
  | .vuAmax k => Sys2Proof.Machine.execVuAmax k s
  | .vuOpComplete k => Sys2Proof.Machine.execVuOpComplete k s
  | .stream k a1 => Sys2Proof.Machine.execStream k a1 s
  | .mcLead k a1 => Sys2Proof.Machine.execMcLead k a1 s
  | .mcJoin k a1 => Sys2Proof.Machine.execMcJoin k a1 s
  | .streamComplete k a1 => Sys2Proof.Machine.execStreamComplete k a1 s
  | .ceLandWrite k v => Sys2Proof.Machine.execCeLandWrite k v s
  | .chkSeedLoad k v => Sys2Proof.Machine.execChkSeedLoad k v s
  | .chkClear k => Sys2Proof.Machine.execChkClear k s
  | .nop k => Sys2Proof.Machine.execNop k s
  | .add k => Sys2Proof.Machine.execAdd k s
  | .sub k => Sys2Proof.Machine.execSub k s
  | .and k => Sys2Proof.Machine.execAnd k s
  | .or k => Sys2Proof.Machine.execOr k s
  | .xor k => Sys2Proof.Machine.execXor k s
  | .shl k => Sys2Proof.Machine.execShl k s
  | .shr k => Sys2Proof.Machine.execShr k s
  | .sra k => Sys2Proof.Machine.execSra k s
  | .mul k => Sys2Proof.Machine.execMul k s
  | .slt k => Sys2Proof.Machine.execSlt k s
  | .sltu k => Sys2Proof.Machine.execSltu k s
  | .addi k => Sys2Proof.Machine.execAddi k s
  | .andi k => Sys2Proof.Machine.execAndi k s
  | .ori k => Sys2Proof.Machine.execOri k s
  | .xori k => Sys2Proof.Machine.execXori k s
  | .shli k => Sys2Proof.Machine.execShli k s
  | .shri k => Sys2Proof.Machine.execShri k s
  | .srai k => Sys2Proof.Machine.execSrai k s
  | .lui k => Sys2Proof.Machine.execLui k s
  | .ld k => Sys2Proof.Machine.execLd k s
  | .st k => Sys2Proof.Machine.execSt k s
  | .ssbc k => Sys2Proof.Machine.execSsbc k s
  | .step k => Sys2Proof.Machine.execStep k s
  | .beq k => Sys2Proof.Machine.execBeq k s
  | .bne k => Sys2Proof.Machine.execBne k s
  | .blt k => Sys2Proof.Machine.execBlt k s
  | .bge k => Sys2Proof.Machine.execBge k s
  | .bltu k => Sys2Proof.Machine.execBltu k s
  | .bgeu k => Sys2Proof.Machine.execBgeu k s
  | .jal k => Sys2Proof.Machine.execJal k s
  | .jr k => Sys2Proof.Machine.execJr k s
  | .loop k => Sys2Proof.Machine.execLoop k s
  | .loopi k => Sys2Proof.Machine.execLoopi k s
  | .issue k => Sys2Proof.Machine.execIssue k s
  | .waitc k => Sys2Proof.Machine.execWaitc k s
  | .waiti k => Sys2Proof.Machine.execWaiti k s
  | .waitw k => Sys2Proof.Machine.execWaitw k s
  | .barrier k => Sys2Proof.Machine.execBarrier k s
  | .fset k => Sys2Proof.Machine.execFset k s
  | .fclr k => Sys2Proof.Machine.execFclr k s
  | .fwait k => Sys2Proof.Machine.execFwait k s
  | .ftst k => Sys2Proof.Machine.execFtst k s
  | .yield k => Sys2Proof.Machine.execYield k s
  | .ctx k => Sys2Proof.Machine.execCtx k s
  | .halt k => Sys2Proof.Machine.execHalt k s
  | .rete k => Sys2Proof.Machine.execRete k s
  | .evset k => Sys2Proof.Machine.execEvset k s
  | .evclr k => Sys2Proof.Machine.execEvclr k s
  | .trap k => Sys2Proof.Machine.execTrap k s
  | .illegalInstruction k => Sys2Proof.Machine.execIllegalInstruction k s
  | .stallRetire k => Sys2Proof.Machine.execStallRetire k s
  | .eventEntry k => Sys2Proof.Machine.execEventEntry k s
  | .flagsSetWrite k v => Sys2Proof.Machine.execFlagsSetWrite k v s
  | .flagsClrWrite k v => Sys2Proof.Machine.execFlagsClrWrite k v s
  | .bankCtlWrite k b v => Sys2Proof.Machine.execBankCtlWrite k b v s
  | .bankPowerEntryDone k b => Sys2Proof.Machine.execBankPowerEntryDone k b s
  | .bankWakeDone k b => Sys2Proof.Machine.execBankWakeDone k b s
  | .winWrite k n v => Sys2Proof.Machine.execWinWrite k n v s
  | .scrubRow k b => Sys2Proof.Machine.execScrubRow k b s
  | .scrubWriteback k b => Sys2Proof.Machine.execScrubWriteback k b s
  | .marchStart k v => Sys2Proof.Machine.execMarchStart k v s
  | .marchAbort k => Sys2Proof.Machine.execMarchAbort k s
  | .marchDone k bad => Sys2Proof.Machine.execMarchDone k bad s
  | .routerPacketArrive n => Sys2Proof.Machine.execRouterPacketArrive n s
  | .linkUe n => Sys2Proof.Machine.execLinkUe n s
  | .rdReq k p => Sys2Proof.Machine.execRdReq k p s
  | .wr k p => Sys2Proof.Machine.execWr k p s
  | .land k p => Sys2Proof.Machine.execLand k p s
  | .combinerContribution k p => Sys2Proof.Machine.execCombinerContribution k p s
  | .mcWr k p port => Sys2Proof.Machine.execMcWr k p port s
  | .rdResp k p => Sys2Proof.Machine.execRdResp k p s
  | .ack k p => Sys2Proof.Machine.execAck k p s
  | .nak k p => Sys2Proof.Machine.execNak k p s
  | .token k c => Sys2Proof.Machine.execToken k c s
  | .barArrive k c port => Sys2Proof.Machine.execBarArrive k c port s
  | .barRelease k c => Sys2Proof.Machine.execBarRelease k c s
  | .haltBroadcast k c => Sys2Proof.Machine.execHaltBroadcast k c s
  | .mcRelease k c port => Sys2Proof.Machine.execMcRelease k c port s
  | .epochFence k c => Sys2Proof.Machine.execEpochFence k c s
  | .flip k c => Sys2Proof.Machine.execFlip k c s
  | .fenceDone k c port => Sys2Proof.Machine.execFenceDone k c port s
  | .resendTimeout k w => Sys2Proof.Machine.execResendTimeout k w s
  | .busyGapExpiry k w => Sys2Proof.Machine.execBusyGapExpiry k w s
  | .ackFlush k n => Sys2Proof.Machine.execAckFlush k n s
  | .fabCopy => Sys2Proof.Machine.execFabCopy s
  | .fabCheck => Sys2Proof.Machine.execFabCheck s
  | .fabCopyDone => Sys2Proof.Machine.execFabCopyDone s
  | .fabCheckDone bad => Sys2Proof.Machine.execFabCheckDone bad s
  | .epochFlip r j => Sys2Proof.Machine.execEpochFlip r j s
  | .settleEnd => Sys2Proof.Machine.execSettleEnd s
  | .linkRetrainDone k d ok => Sys2Proof.Machine.execLinkRetrainDone k d ok s
  | .cupolaRestage check => Sys2Proof.Machine.execCupolaRestage check s
  | .stallDetect k => Sys2Proof.Machine.execStallDetect k s
  | .loadImage r j h => Sys2Proof.Machine.execLoadImage r j h s
  | .regionStart r j => Sys2Proof.Machine.execRegionStart r j s
  | .rgnLaunchArm k v => Sys2Proof.Machine.execRgnLaunchArm k v s
  | .regionLaunch k => Sys2Proof.Machine.execRegionLaunch k s
  | .rgnDrainAtArm k v => Sys2Proof.Machine.execRgnDrainAtArm k v s
  | .drainFlagCycle k => Sys2Proof.Machine.execDrainFlagCycle k s
  | .regionStop r j => Sys2Proof.Machine.execRegionStop r j s
  | .regionDrain r j => Sys2Proof.Machine.execRegionDrain r j s
  | .regionScanOut r j => Sys2Proof.Machine.execRegionScanOut r j s
  | .scanQuiesceTimeout k => Sys2Proof.Machine.execScanQuiesceTimeout k s
  | .regionScanIn r j => Sys2Proof.Machine.execRegionScanIn r j s
  | .switchWordAdvance k => Sys2Proof.Machine.execSwitchWordAdvance k s
  | .reconfDrainWaitEnd rgn => Sys2Proof.Machine.execReconfDrainWaitEnd rgn s
  | .genBlockExpiry g => Sys2Proof.Machine.execGenBlockExpiry g s
  | .send k => Sys2Proof.Machine.execSend k s
  | .sendCreditResume k => Sys2Proof.Machine.execSendCreditResume k s
  | .signal k => Sys2Proof.Machine.execSignal k s
  | .put k => Sys2Proof.Machine.execPut k s
  | .release k => Sys2Proof.Machine.execRelease k s
  | .contrib k => Sys2Proof.Machine.execContrib k s
  | .chOpen k => Sys2Proof.Machine.execChOpen k s
  | .chClose k => Sys2Proof.Machine.execChClose k s
  | .cmbArm k => Sys2Proof.Machine.execCmbArm k s
  | .cmbFail k => Sys2Proof.Machine.execCmbFail k s
  | .cmbRoundTimeout k m => Sys2Proof.Machine.execCmbRoundTimeout k m s
  | .cmbFailedWrite k m hi v => Sys2Proof.Machine.execCmbFailedWrite k m hi v s
  | .queuePeek r j => Sys2Proof.Machine.execQueuePeek r j s
  | .tokqPopRead k n => Sys2Proof.Machine.execTokqPopRead k n s
  | .msdRequest m p => Sys2Proof.Machine.execMsdRequest m p s
  | .stackTempRead m t0 t1 => Sys2Proof.Machine.execStackTempRead m t0 t1 s
  | .stackRefresh n bank => Sys2Proof.Machine.execStackRefresh n bank s
  | .stackScrubStep n => Sys2Proof.Machine.execStackScrubStep n s
  | .stackFail n => Sys2Proof.Machine.execStackFail n s
  | .stackRepair r j => Sys2Proof.Machine.execStackRepair r j s
  | .pprRowDone n => Sys2Proof.Machine.execPprRowDone n s
  | .stateDigest r j => Sys2Proof.Machine.execStateDigest r j s
  | .digestDone => Sys2Proof.Machine.execDigestDone s
  | .doorbellCmd r v => Sys2Proof.Machine.execDoorbellCmd r v s
  | .doorbellCpl q v => Sys2Proof.Machine.execDoorbellCpl q v s
  | .descriptorFetch r h => Sys2Proof.Machine.execDescriptorFetch r h s
  | .descriptorStart r => Sys2Proof.Machine.execDescriptorStart r s
  | .recordPost q => Sys2Proof.Machine.execRecordPost q s
  | .eventPost => Sys2Proof.Machine.execEventPost s
  | .hostNop r j => Sys2Proof.Machine.execHostNop r j s
  | .dmaH2d r j h => Sys2Proof.Machine.execDmaH2d r j h s
  | .dmaD2h r j => Sys2Proof.Machine.execDmaD2h r j s
  | .openWindow r j => Sys2Proof.Machine.execOpenWindow r j s
  | .closeWindow r j => Sys2Proof.Machine.execCloseWindow r j s
  | .hostWindowRequest p => Sys2Proof.Machine.execHostWindowRequest p s
  | .pcieReadCompletion n h => Sys2Proof.Machine.execPcieReadCompletion n h s
  | .mcastGroupSet r j h => Sys2Proof.Machine.execMcastGroupSet r j h s
  | .tableWrite r j h => Sys2Proof.Machine.execTableWrite r j h s
  | .floorplanRead r j => Sys2Proof.Machine.execFloorplanRead r j s
  | .floorplanCommit r j h => Sys2Proof.Machine.execFloorplanCommit r j h s
  | .crossCheck r j => Sys2Proof.Machine.execCrossCheck r j s
  | .marchPreserving r j => Sys2Proof.Machine.execMarchPreserving r j s
  | .marchDestructive r j => Sys2Proof.Machine.execMarchDestructive r j s
  | .linkRecal r j => Sys2Proof.Machine.execLinkRecal r j s
  | .resetCompute r j => Sys2Proof.Machine.execResetCompute r j s
  | .resetRegion r j => Sys2Proof.Machine.execResetRegion r j s
  | .resetLink r j => Sys2Proof.Machine.execResetLink r j s
  | .resetWarm r j => Sys2Proof.Machine.execResetWarm r j s
  | .perstAssert => Sys2Proof.Machine.execPerstAssert s
  | .perstDeassert => Sys2Proof.Machine.execPerstDeassert s
  | .fwStage r j h => Sys2Proof.Machine.execFwStage r j h s
  | .fwActivateCupola r j => Sys2Proof.Machine.execFwActivateCupola r j s
  | .fwActivateSecurity r j => Sys2Proof.Machine.execFwActivateSecurity r j s
  | .fwHandoverReady => Sys2Proof.Machine.execFwHandoverReady s
  | .fwHandoverTimeout => Sys2Proof.Machine.execFwHandoverTimeout s
  | .getNonce r j h => Sys2Proof.Machine.execGetNonce r j h s
  | .setOwner r j h => Sys2Proof.Machine.execSetOwner r j h s
  | .addImageKey r j h => Sys2Proof.Machine.execAddImageKey r j h s
  | .removeImageKey r j h => Sys2Proof.Machine.execRemoveImageKey r j h s
  | .setBootPolicy r j h => Sys2Proof.Machine.execSetBootPolicy r j h s
  | .releaseOwner r j h => Sys2Proof.Machine.execReleaseOwner r j h s
  | .makerUnlock r j h => Sys2Proof.Machine.execMakerUnlock r j h s
  | .energySnapshot r j => Sys2Proof.Machine.execEnergySnapshot r j s
  | .engHifVerWrite v => Sys2Proof.Machine.execEngHifVerWrite v s
  | .debugWindowAccess off a => Sys2Proof.Machine.execDebugWindowAccess off a s
  | .gatedAccess off wr => Sys2Proof.Machine.execGatedAccess off wr s
  | .cmdCfgWrite r v => Sys2Proof.Machine.execCmdCfgWrite r v s
  | .cplCfgWrite q v => Sys2Proof.Machine.execCplCfgWrite q v s
  | .pcieLinkDown => Sys2Proof.Machine.execPcieLinkDown s
  | .lanternTrainDone l o => Sys2Proof.Machine.execLanternTrainDone l o s
  | .lanternAutoRetrain l => Sys2Proof.Machine.execLanternAutoRetrain l s
  | .flitReceive l f ok => Sys2Proof.Machine.execFlitReceive l f ok s
  | .flitReplay l ackSeq => Sys2Proof.Machine.execFlitReplay l ackSeq s
  | .jendexIngress l hops p => Sys2Proof.Machine.execJendexIngress l hops p s
  | .timeSyncTimer => Sys2Proof.Machine.execTimeSyncTimer s
  | .timeReq l t1 t3 => Sys2Proof.Machine.execTimeReq l t1 t3 s
  | .timeRsp l t1 t2 d t4 => Sys2Proof.Machine.execTimeRsp l t1 t2 d t4 s
  | .timeRspTimeout => Sys2Proof.Machine.execTimeRspTimeout s
  | .freqAgreeTimer => Sys2Proof.Machine.execFreqAgreeTimer s
  | .freqLimit l job mhz sq urgent => Sys2Proof.Machine.execFreqLimit l job mhz sq urgent s
  | .freqSet l job mhz sq at_ => Sys2Proof.Machine.execFreqSet l job mhz sq at_ s
  | .freqSetApply => Sys2Proof.Machine.execFreqSetApply s
  | .freqSetTimeout => Sys2Proof.Machine.execFreqSetTimeout s
  | .sbarArrive l b sense => Sys2Proof.Machine.execSbarArrive l b sense s
  | .sbarRelease l b sense => Sys2Proof.Machine.execSbarRelease l b sense s
  | .linkQuiesce l engineReset => Sys2Proof.Machine.execLinkQuiesce l engineReset s
  | .peerInfo l n => Sys2Proof.Machine.execPeerInfo l n s
  | .lanternQuiesceEnd l => Sys2Proof.Machine.execLanternQuiesceEnd l s
  | .lanternRestage l => Sys2Proof.Machine.execLanternRestage l s
  | .lntFwdGo v => Sys2Proof.Machine.execLntFwdGo v s
  | .lntSysIdWrite v => Sys2Proof.Machine.execLntSysIdWrite v s
  | .lntRwinWrite n w v => Sys2Proof.Machine.execLntRwinWrite n w v s
  | .keyRenew l => Sys2Proof.Machine.execKeyRenew l s
  | .refWindowEnd ppm => Sys2Proof.Machine.execRefWindowEnd ppm s
  | .refStopped => Sys2Proof.Machine.execRefStopped s
  | .domeParkDone => Sys2Proof.Machine.execDomeParkDone s
  | .freqRampStep => Sys2Proof.Machine.execFreqRampStep s
  | .droopTrip a => Sys2Proof.Machine.execDroopTrip a s
  | .domeIdleEntry d => Sys2Proof.Machine.execDomeIdleEntry d s
  | .domeWake d => Sys2Proof.Machine.execDomeWake d s
  | .domeWakeDone d => Sys2Proof.Machine.execDomeWakeDone d s
  | .clkHoldWrite v => Sys2Proof.Machine.execClkHoldWrite v s
  | .areaTrip a => Sys2Proof.Machine.execAreaTrip a s
  | .areaRetry a => Sys2Proof.Machine.execAreaRetry a s
  | .areaRetryDone a => Sys2Proof.Machine.execAreaRetryDone a s
  | .inputVoltageExcursion mv us => Sys2Proof.Machine.execInputVoltageExcursion mv us s
  | .inputOvercurrent => Sys2Proof.Machine.execInputOvercurrent s
  | .auxFault => Sys2Proof.Machine.execAuxFault s
  | .spireBusLoss a => Sys2Proof.Machine.execSpireBusLoss a s
  | .spireShutdown => Sys2Proof.Machine.execSpireShutdown s
  | .powerCapTick measuredW => Sys2Proof.Machine.execPowerCapTick measuredW s
  | .currentLimitTick milliamps => Sys2Proof.Machine.execCurrentLimitTick milliamps s
  | .activityEstimate estimateW measuredW => Sys2Proof.Machine.execActivityEstimate estimateW measuredW s
  | .sensorRead t => Sys2Proof.Machine.execSensorRead t s
  | .energyUpdate uj => Sys2Proof.Machine.execEnergyUpdate uj s
  | .pwrCapWrite v => Sys2Proof.Machine.execPwrCapWrite v s
  | .chassisCapSet w => Sys2Proof.Machine.execChassisCapSet w s
  | .scheduledPass => Sys2Proof.Machine.execScheduledPass s
  | .xcheckPassDone sigs => Sys2Proof.Machine.execXcheckPassDone sigs s
  | .softwareArbitrationDone => Sys2Proof.Machine.execSoftwareArbitrationDone s
  | .uePreservingTest k => Sys2Proof.Machine.execUePreservingTest k s
  | .riskTick => Sys2Proof.Machine.execRiskTick s
  | .relHistSelWrite v => Sys2Proof.Machine.execRelHistSelWrite v s
  | .powerGood o => Sys2Proof.Machine.execPowerGood o s
  | .startupRefWaitEnd o => Sys2Proof.Machine.execStartupRefWaitEnd o s
  | .startupSupplyWaitEnd o => Sys2Proof.Machine.execStartupSupplyWaitEnd o s
  | .secAlarmTrigger src => Sys2Proof.Machine.execSecAlarmTrigger src s
  | .secAlarmRearm src => Sys2Proof.Machine.execSecAlarmRearm src s
  | .secAlarmPolicyWrite v => Sys2Proof.Machine.execSecAlarmPolicyWrite v s
  | .dbgLockSet => Sys2Proof.Machine.execDbgLockSet s
  | .entropyHealthFail => Sys2Proof.Machine.execEntropyHealthFail s
  | .spdmGetVersion c => Sys2Proof.Machine.execSpdmGetVersion c s
  | .spdmGetCapabilities c => Sys2Proof.Machine.execSpdmGetCapabilities c s
  | .spdmNegotiateAlgorithms c => Sys2Proof.Machine.execSpdmNegotiateAlgorithms c s
  | .spdmGetDigests c => Sys2Proof.Machine.execSpdmGetDigests c s
  | .spdmGetCertificate c => Sys2Proof.Machine.execSpdmGetCertificate c s
  | .spdmChallenge c => Sys2Proof.Machine.execSpdmChallenge c s
  | .getMeasurements c => Sys2Proof.Machine.execGetMeasurements c s
  | .spdmKeyExchange c => Sys2Proof.Machine.execSpdmKeyExchange c s
  | .spdmFinish c sess => Sys2Proof.Machine.execSpdmFinish c sess s
  | .spdmHeartbeat c sess => Sys2Proof.Machine.execSpdmHeartbeat c sess s
  | .spdmKeyUpdate c sess => Sys2Proof.Machine.execSpdmKeyUpdate c sess s
  | .spdmEndSession c sess => Sys2Proof.Machine.execSpdmEndSession c sess s
  | .ideKmKeyProg sess key => Sys2Proof.Machine.execIdeKmKeyProg sess key s
  | .kSetGo sess => Sys2Proof.Machine.execKSetGo sess s
  | .pldmSensorRead n => Sys2Proof.Machine.execPldmSensorRead n s
  | .pldmFruRead => Sys2Proof.Machine.execPldmFruRead s
  | .inputSwitchClose => Sys2Proof.Machine.execInputSwitchClose s
  | .seatOpen => Sys2Proof.Machine.execSeatOpen s
  | .inputSwitchOpen => Sys2Proof.Machine.execInputSwitchOpen s
  | .lanternSignalLoss l => Sys2Proof.Machine.execLanternSignalLoss l s
  | .refreshManagementRequest n bank => Sys2Proof.Machine.execRefreshManagementRequest n bank s
  | .bypassChainWord k d w => Sys2Proof.Machine.execBypassChainWord k d w s
  | .scheduledFlit k sPlane d w => Sys2Proof.Machine.execScheduledFlit k sPlane d w s
  | .droopLimitTick => Sys2Proof.Machine.execDroopLimitTick s
  | .fwStageDone => Sys2Proof.Machine.execFwStageDone s
  | .linkRecalDone l ok => Sys2Proof.Machine.execLinkRecalDone l ok s
  | .pcieRetrain lanes rate8 => Sys2Proof.Machine.execPcieRetrain lanes rate8 s
  | .ideIntegrityFailure => Sys2Proof.Machine.execIdeIntegrityFailure s
  | .functionLevelReset => Sys2Proof.Machine.execFunctionLevelReset s

end Sys2Proof.Machine
end

