-- ==== Sys2Proof/Machine/Tick.lean ====
section
/-!
DEFINITION. One engine cycle in which no command arrives: the clocks count, waiting cores count their cycles, and what
goes on of itself goes on by one step (R119, R135, R210, R229, R234, R381-R384, R400, R440).
-/

namespace Sys2Proof.Machine

/-- The timestamp one engine cycle later: 1000 / F ns, twice that while the clock is stretched, at the trimmed rate
(R370, R381, R383, R400). -/
def Clk.count (c : Clk) (trim : Int) : Clk :=
  let num := c.frac + 1000 * (1000000 + trim).toNat * (if c.stretch = 0 then 1 else 2)
  let den := c.f * 1000000
  { c with ts := c.ts + BitVec.ofNat 64 (num / den), frac := num % den, stretch := c.stretch - 1 }

/-- The clocks count one cycle: the timestamp while the service domain is powered, RGN_GCC once the forwarded clocks are
aligned and until the root is stopped (R229, R388, R390). -/
def State.clocks (s : State) : State :=
  let c := s.clk.count s.lnts.trim
  let run := wbit (s.bar (clkBase + 4)) 5 && !c.stopped
  { s with clk := { c with gcc := if run then c.gcc + 1 else c.gcc } }

/-- Whether the tensor unit's next operation waits for landing data (R87, R234). -/
def Core.tensorLandWait (c : Core) : Bool :=
  match (c.engine 0).queue with
  | o :: _ =>
    let sel := opFld o 0 20 2
    let opc := opFld o 0 0 8
    (opc == 1 || opc == 2) && (sel == 1 || sel == 2) && c.rowsFree 0 o && c.streamTurn sel o
      && !(c.landHas (sel - 1) ((if opc = 1 then 16 else opFld o 4 0 7) * opFld o 0x10 0 32))
  | [] => false

/-- Whether the vector unit's next operation waits for landing data (R90, R234). -/
def Core.vectorLandWait (c : Core) : Bool :=
  match (c.engine 1).queue with
  | o :: _ =>
    let d := vDesc o
    (d.sel == 1 || d.sel == 2) && c.rowsFree 1 o && c.streamTurn d.sel o && !(c.landHas (d.sel - 1) d.len1)
  | [] => false

/-- Whether a consumer waits for landing data (R87, R234). -/
def Core.landWait (c : Core) : Bool := c.tensorLandWait || c.vectorLandWait

/-- Whether the sequencer's wait is for what comes from outside the core: a flag, a barrier, or a word while every engine
is idle (R234; log entry 14). -/
def Core.remoteWait (c : Core) : Bool :=
  c.seqr.run && match c.seqr.wait with
    | .flag _ _ => true
    | .barrier _ _ _ => true
    | .word _ _ _ => c.enginesIdle
    | _ => false

/-- Whether some packets of an operation cannot be injected (R234). -/
def Core.injectWait (c : Core) : Bool := (List.range 5).any fun e => (c.engine e).run.any fun o => !o.left.isEmpty

/-- Whether a bank is on its way to ON (R151, R234; log entry 14). -/
def Core.bankWait (c : Core) : Bool := (List.range 4).any fun b => c.pwrState b == 3

/-- A core's own registers one cycle later: a waiting sequencer counts, flags age, a wait for landing data counts (R87,
R119, R135, R136). -/
def Core.cycle (c : Core) : Core :=
  let waits := c.seqr.run && c.seqr.wait != .none
  let c := if waits then (c.elapse 1).add64 0x100028 1
    else if c.seqr.run then c
    else { c with seqr := { c.seqr with flagsSeen := c.seqr.flagsOld, flagsOld := c.seqr.flags } }
  if c.landWait then c.add64 0x100328 1 else c

/-- A cycle without progress counted (R210). -/
def State.countStall (s : State) (k : SiteId) : State :=
  let c := s.core k
  let id := c.rgnId
  let held := c.net.heldDest != [] || c.net.rtx.any fun r => r.held
  if id ≠ 0 ∧ (s.region id).live ∧ wbit (c.reg 0x100504) 31 ∧ !c.isDone ∧ !(s.fenced k) ∧ !held ∧ !c.net.fenced then
    s.setCore k { c with net := { c.net with stall := c.net.stall + 1 } }
  else s

/-- A site one cycle later (R210, R234). -/
def State.siteCycle (s : State) (k : SiteId) : State :=
  let c := s.core k
  if !(s.siteOn k) || !(s.siteRuns k) || c.quiesce then s
  else
    let s := (s.setCore k c.cycle).countStall k
    let s := if c.landWait then s.slip k 0 1 else s
    let s := if c.remoteWait then s.slip k 2 1 else s
    let s := if c.injectWait then s.slip k 4 1 else s
    if c.bankWait then s.slip k 5 1 else s

/-- One engine cycle. A lantern sends one flit in it, scans under way go on, and a reset under way ends (R238, R354,
R440; log entry 1). -/
def tick (s : State) : State :=
  if !s.boot.powerGood then s
  else
    let s := s.clocks
    let s := if s.clk.stopped then s
      else (s.cores.map fun x => (Fin.ofNat 294912 x.1 : SiteId)).foldl (fun (s : State) k => s.siteCycle k) s
    let s := (List.range 48).foldl (fun (s : State) l => s.sendFlit l) s
    s.scanAll.resetEnds

end Sys2Proof.Machine
end

