-- ==== Sys2Proof/Safety.lean ====
section
/-!
DEFINITION. What claims are stated with: the invariants of the machine, a step that goes on, and what it means that a
command leaves a part of the state alone.
-/

namespace Sys2Proof.Machine

/-- The canonical form of a memory under the symbol code: data bytes and check bits. -/
def EccMem.wf (m : EccMem) : Bool := Memory.wf m.data && Tbl.wf 0 m.chk

/-- The memories of a core, its SRAM and its instruction store, are in canonical form. -/
def Core.memsOk (c : Core) : Bool := c.sram.wf && c.seqr.istore.wf

/-- Every memory is in canonical form: host memory, every core's SRAM and instruction store, every stack. -/
def State.memsOk (s : State) : Bool :=
  Tbl.wf none s.host.mem && (s.cores.all fun x => x.2.memsOk) && s.stks.tbl.all fun x => x.2.mem.wf

/-- An outcome that goes on. -/
def goesOn (o : Host.Outcome State Fault Refusal) : Bool :=
  match o with
  | .next _ => true
  | _ => false

/-- Two states that differ in the core of one site alone: every other part is the same. -/
def State.onlyCore (k : SiteId) (s t : State) : Prop :=
  t = { s with cores := t.cores } ∧ ∀ j, j ≠ k → t.core j = s.core j

/-- Two states that differ in the core of one site and in what its counters leave behind: event records and their posting
(R12, R337), the corrections of the second in progress (R430). -/
def State.coreNoted (k : SiteId) (s t : State) : Prop :=
  t = { s with cores := t.cores
               host := { s.host with events := t.host.events, evSeq := t.host.evSeq, cpl := t.host.cpl, mem := t.host.mem
                                     sent := t.host.sent, pba := t.host.pba }
               rel := { s.rel with now := t.rel.now } } ∧
    ∀ j, j ≠ k → t.core j = s.core j

/-- Two states that differ in BAR0 registers alone. -/
def State.onlyRegs (s t : State) : Prop := t = { s with regs := t.regs }

/-! ### The fabric -/

/-- Two states that differ in the packets in the fabric alone. -/
def State.onlyFlights (s t : State) : Prop := t = { s with fab := { s.fab with flights := t.fab.flights } }

/-- Two states that differ in the routers of one site alone. -/
def State.onlyRouter (k : SiteId) (s t : State) : Prop :=
  t = { s with routers := t.routers } ∧ ∀ j, j ≠ k → t.router j = s.router j

/-- A packet of the V or S plane just injected at a site or arriving there by a port. -/
def flightP (k : SiteId) (port : Port) (ejected : Bool) (hops : BitVec 4) (p : Packet) : Flight :=
  { site := k, from_ := port, ejected := ejected, hold := none, hops := hops, body := .inl p }

/-- A packet of the C plane at a site, by a port. -/
def flightC (k : SiteId) (port : Port) (ejected : Bool) (c : CPacket) : Flight :=
  { site := k, from_ := port, ejected := ejected, hold := none, hops := 0, body := .inr c }

/-- The core of a site takes up a request: it is of the type, whole, for a core of this engine, in a dome that runs; the
site is neither fenced nor under a reset; both its checks stand and no hold entry stands against it (R173, R176, R185,
R199, R203). -/
structure State.Takes (s : State) (k : SiteId) (p : Packet) (type : Byte) : Prop where
  type  : p.type = type
  whole : p.aborted = false
  core  : s.namesCore p.dest = true
  runs  : s.siteRuns k = true
  open_ : s.fenced k = false
  reset : s.inReset k = false
  hcrc  : hcrcGood p = true
  crc   : crcGood p = true
  hold  : (s.core k).net.holdFor p = none

/-- Every codeword of a core's SRAM is without error. -/
def Core.clean (c : Core) : Prop := ∀ i, c.sram.decode i = .clean

/-- The bytes of a memory after a write: `b` from `a` on, the others as before. -/
def wrote (m m' : EccMem) (a : Nat) (b : List Byte) : Prop :=
  ∀ x, memRead m'.data x = if a ≤ x ∧ x < a + b.length then b.getD (x - a) 0 else memRead m.data x

/-- A packet taken up at a site changes its core alone, in that it has made progress and in its SRAM (R142, R210). -/
def State.stored (k : SiteId) (s u : State) : Prop :=
  s.onlyCore k u ∧ u.core k = { s.core k with sram := (u.core k).sram, banks := (u.core k).banks
                                              net := { (s.core k).net with stall := 0 } }

/-- The `j`-th started descriptor of a ring is `d`; it carries the opcode and is not in progress (R327). -/
def State.begun (s : State) (r : Fin 256) (j opc : Nat) (d : Desc) : Prop :=
  s.startedAt r j = some d ∧ d.f 0 1 = opc ∧ d.busy = false

/-- The state with cores, regions and the host interface changed, and nothing else. -/
def State.onlyRegion (s t : State) : Prop := t = { s with cores := t.cores, rgns := t.rgns, host := t.host }

/-- The send engine of a core is about to dispatch `o` (R267): it heads the queue, its opcode is `opc`, every operation
before it has finished injecting, and its fields stand as R268 asks. -/
structure SendHead (s : State) (k : SiteId) (opc : Nat) (o : Op) : Prop where
  head : ((s.core k).engine 4).queue.head? = some o
  opc  : (eDesc o).opc = opc
  free : ∀ x ∈ ((s.core k).engine 4).run, x.left = [] ∧ x.waiting = false
  ok   : s.sendOk (eDesc o) = true

/-- Packets carry some bytes of a core in their order, each at most a packet of the plane and within one block of that
size, of one type and tag, each to the place its bytes have from `dest` on. -/
structure Carries (ps : List Packet) (plane : Plane) (type : Byte) (tag : Nat) (dest : DWord) (b : List Byte) : Prop where
  bytes : (ps.map fun p => p.payload).flatten = b
  each  : ∀ p ∈ ps, p.plane = plane ∧ p.type = type ∧ p.tag = BitVec.ofNat 16 tag ∧ p.payload ≠ [] ∧
    p.dest.toNat % planeMax plane + p.payload.length ≤ planeMax plane
  place : ∀ i p, ps[i]? = some p →
    p.dest = dest + BitVec.ofNat 64 ((ps.take i).map fun p => p.payload.length).sum

/-! ### The core sequencer -/

/-- The sequencer of a core is about to execute the word `w`: it runs and waits for nothing (R120), no event is due first
(R131), the word at PC is `w` in a codeword without error, its opcode is `op`, the fields `op` does not use are 0 (R113),
and its loop stack holds at most the four levels of R123. -/
structure SeqAt (s : State) (k : SiteId) (op : Nat) (w : Word) : Prop where
  ready  : (s.core k).ready = true
  fetch  : (s.core k).fetch = (s.core k, some w)
  opcode : insnOp w = op
  unused : ∃ m, insnUnused op = some m ∧ w.toNat &&& m = 0
  depth  : (s.core k).cur.ldepth.toNat ≤ 4

/-- The loop levels of a context, to four. -/
def Ctx.sameLoops (x y : Ctx) : Prop := y.ldepth = x.ldepth ∧ ∀ v, v < 4 → y.level v = x.level v

/-- What an instruction of the sequencer leaves as it was in its core: everything but the running context, the cycle
counts, the waits and delays of the sequencer, and the count of cycles without progress. -/
structure SeqKeeps (c d : Core) : Prop where
  core   : d = { c with seqr := d.seqr, w64 := d.w64, net := { c.net with stall := d.net.stall } }
  seqr   : d.seqr = { c.seqr with ctxs := d.seqr.ctxs, wait := d.seqr.wait, flagsOld := d.seqr.flagsOld
                                  flagsSeen := d.seqr.flagsSeen, avail := d.seqr.avail }
  others : ∀ i, i < 8 → i ≠ c.seqr.cur.toNat → d.ctxAt i = c.ctxAt i

/-- What an instruction leaves as it was in the running context: everything but the scalar registers, PC and loops. -/
def Ctx.keeps (x y : Ctx) : Prop :=
  y = { x with pc := y.pc, ldepth := y.ldepth, loops := y.loops, regs := y.regs }

/-- The command `i` at `s` retires in sequence after its own effect, which leads from `s` to `u`: where a next instruction
exists (R109), it goes on to a state that differs from `u` in its core alone; PC and the loops are those of the next
instruction (R123, R124), the register `rd` holds `v` unless it is s0, which discards it (R110), and nothing else of the
core has changed. -/
def Retires (i : Instr) (s u : State) (k : SiteId) (rd : Nat) (v : Word) : Prop :=
  ∀ x, loopNext (u.core k).cur.pc.toNat (u.core k).cur.ldepth.toNat (u.core k).cur = some x →
    ∃ t, exec i s = .next t ∧ u.onlyCore k t ∧ SeqKeeps (u.core k) (t.core k) ∧ (u.core k).cur.keeps (t.core k).cur ∧
      (t.core k).cur.pc = x.pc ∧ x.sameLoops (t.core k).cur ∧
      ∀ n, n < 16 → (t.core k).sreg n = if n = rd ∧ rd ≠ 0 then v else (u.core k).sreg n

/-- The command `i` at `s` moves PC to `target` (R118): it goes on to a state that differs in its core alone; `rd` holds
`v` unless it is s0; each loop level whose body does not hold the target is popped with every level inside it, and no
other (R125). -/
def Jumps (i : Instr) (s : State) (k : SiteId) (target : Nat) (rd : Nat) (v : Word) : Prop :=
  ∃ t, exec i s = .next t ∧ s.onlyCore k t ∧ SeqKeeps (s.core k) (t.core k) ∧ (s.core k).cur.keeps (t.core k).cur ∧
    (t.core k).cur.pc.toNat = target ∧
    (∀ n, n < 16 → (t.core k).sreg n = if n = rd ∧ rd ≠ 0 then v else (s.core k).sreg n) ∧
    (∀ l, l < 4 → (t.core k).cur.level l = (s.core k).cur.level l) ∧
    (t.core k).cur.ldepth.toNat ≤ (s.core k).cur.ldepth.toNat ∧
    (∀ l, l < (t.core k).cur.ldepth.toNat →
      ((s.core k).cur.level l).start.toNat ≤ target ∧ target ≤ ((s.core k).cur.level l).fin.toNat) ∧
    ((t.core k).cur.ldepth.toNat < (s.core k).cur.ldepth.toNat →
      ¬(((s.core k).cur.level (t.core k).cur.ldepth.toNat).start.toNat ≤ target ∧
        target ≤ ((s.core k).cur.level (t.core k).cur.ldepth.toNat).fin.toNat))

/-- The command `i` at `s` raises an exception (R133): it goes on to a state whose core has stopped, its five engines'
queues discarded, with the cause, the context, the code, PC and the instruction word recorded, and whose region, if it
was RUNNING or DRAINING, has halted with REGION_FAULT cause SEQ. -/
def SeqTraps (i : Instr) (s : State) (k : SiteId) (cause code : Nat) (w : Word) : Prop :=
  ∃ t, exec i s = .next t ∧ (t.core k).seqr.run = false ∧ (t.core k).seqr.fault = true ∧
    (∀ e, e < 5 → ((t.core k).engine e).queue = [] ∧ ((t.core k).engine e).run = []) ∧
    (t.core k).reg 0x10000C = BitVec.ofNat 32 (cause + 2 ^ 8 * (s.core k).seqr.cur.toNat + 2 ^ 16 * code) ∧
    (t.core k).reg 0x100010 = (s.core k).cur.pc.setWidth 32 ∧
    (t.core k).reg 0x100014 = w ∧
    ((s.region (s.core k).rgnId).live = true →
      (t.region (s.core k).rgnId).st = 6 ∧
        (t.region (s.core k).rgnId).fault.map (fun f => f.cause) = some 4)

/-- The command `i` at `s` leaves the sequencer waiting for `wt` at the same instruction: nothing else has changed. -/
def Waits (i : Instr) (s : State) (k : SiteId) (wt : Wait) : Prop :=
  ∃ t, exec i s = .next t ∧ s.onlyCore k t ∧ SeqKeeps (s.core k) (t.core k) ∧ (t.core k).cur = (s.core k).cur ∧
    (t.core k).seqr.wait = wt

/-- The command `i` at `s` switches to context `n` (R127): the running context goes on by one instruction and is left in
state `st`, `n` runs, the core's other contexts and everything else are as before. A context that was halted at a barrier
waits for its release again (R134). -/
def Switches (i : Instr) (s : State) (k : SiteId) (n : Nat) (st : BitVec 2) : Prop :=
  ∃ t, exec i s = .next t ∧ s.onlyCore k t ∧
    t.core k = { s.core k with seqr := (t.core k).seqr, w64 := (t.core k).w64
                               net := { (s.core k).net with stall := (t.core k).net.stall } } ∧
    (t.core k).seqr.cur.toNat = n ∧ (t.core k).seqr.run = true ∧ (t.core k).seqr.fault = (s.core k).seqr.fault ∧
    (t.core k).seqr.flags = (s.core k).seqr.flags ∧ (t.core k).seqr.istore = (s.core k).seqr.istore ∧
    ∀ j, j < 8 → (t.core k).ctxAt j =
      if j = n then { (s.core k).ctxAt n with st := 2, bwait := false }
      else if j = (s.core k).seqr.cur.toNat then { (s.core k).cur with pc := (s.core k).cur.pc + 1, st := st }
      else (s.core k).ctxAt j

/-- The opcodes of R114 with the command of each. -/
def seqOps : List (Nat × (SiteId → Instr)) :=
  [(0x01, .nop), (0x02, .add), (0x03, .sub), (0x04, .and), (0x05, .or), (0x06, .xor), (0x07, .shl), (0x08, .shr),
   (0x09, .sra), (0x0A, .mul), (0x0B, .slt), (0x0C, .sltu), (0x10, .addi), (0x11, .andi), (0x12, .ori), (0x13, .xori),
   (0x14, .shli), (0x15, .shri), (0x16, .srai), (0x17, .lui), (0x18, .ld), (0x19, .st), (0x1C, .ssbc), (0x1D, .step)] ++
  [(0x20, .beq), (0x21, .bne), (0x22, .blt), (0x23, .bge), (0x24, .bltu), (0x25, .bgeu), (0x26, .jal), (0x27, .jr),
   (0x28, .loop), (0x29, .loopi), (0x2C, .issue), (0x2D, .waitc), (0x2E, .waiti), (0x30, .waitw), (0x31, .barrier),
   (0x34, .fset), (0x35, .fclr), (0x36, .fwait), (0x37, .ftst), (0x38, .yield), (0x39, .ctx), (0x3A, .halt),
   (0x3B, .rete), (0x3C, .evset), (0x3D, .evclr), (0x3E, .trap)]

/-- PC stands on the last instruction of an active loop body (R125). -/
def Ctx.atBodyEnd (x : Ctx) : Prop := ∃ l, l < x.ldepth.toNat ∧ (x.level l).fin = x.pc

/-- The immediate of an instruction, read as signed (R113). -/
def immSigned (w : Word) : Int := (w.setWidth 14).toInt

end Sys2Proof.Machine
end

