-- ==== Sys2Proof/Certificates/Slice0/Obligations.lean ====
section
/-!
DEFINITION. The statements for the provers.
-/

open Sys2Proof Sys2Proof.Machine

/-- A step takes the command at the front of the queue and runs it on the state with the queue's rest. -/
def Obligations.StepRunsFrontCommand : Prop :=
  ∀ (c : Instr) (rest : List Instr) (s : State),
    step { s with pending := c :: rest } = exec c { s with pending := rest }

/-- The model's choice (log entry 1): with no command waiting a step is one engine cycle. Before power good nothing happens;
after it RGN_GCC counts once the forwarded clocks are aligned and until the root stops (R229, R388, R390), and the
timestamp advances by 1000 / F ns at the trimmed rate, by twice that while the clock is stretched (R381, R383, R400). -/
def Obligations.IdleStepIsACycle : Prop :=
  ∀ s : State, s.pending = [] →
    (s.boot.powerGood = false → step s = .next s) ∧
    (s.boot.powerGood = true → 0 < s.clk.f → s.clk.frac < s.clk.f * 1000000 → -500 ≤ s.lnts.trim → s.lnts.trim ≤ 500 →
      ∃ t, step s = .next t ∧ t.pending = [] ∧
        t.clk = { s.clk with gcc := t.clk.gcc, ts := t.clk.ts, frac := t.clk.frac, stretch := s.clk.stretch - 1 } ∧
        t.clk.gcc = s.clk.gcc + (if (s.bar 0x100004).getLsbD 5 = true ∧ s.clk.stopped = false then 1 else 0) ∧
        t.clk.frac < s.clk.f * 1000000 ∧
        (t.clk.ts - s.clk.ts).toNat * (s.clk.f * 1000000) + t.clk.frac =
          s.clk.frac + 1000 * (1000000 + s.lnts.trim).toNat * (if s.clk.stretch = 0 then 1 else 2))

/-- What reset leaves (R39, R73, R136, R170, R211, R247, R345): no command waits, the identity and block-version registers
of BAR0 and of every core hold their values, every context is OFF, the sequencer and engines are stopped and empty, every
bank is ON and reads 0, every region is EMPTY, no ring is enabled, and every memory is in canonical form. -/
def Obligations.ResetValues : Prop :=
  let s := State.reset
  s.pending = [] ∧ s.memsOk = true ∧
  (∀ p ∈ [(0x000000, 0x00010000), (0x000004, 0x56540000), (0x000008, 0x20), (0x000040, 0), (0x010000, 0x00010000),
      (0x010004, 0), (0x020000, 0x00010000), (0x020004, 0), (0x020008, 0), (0x100004, 0x00000002), (0x10001C, 0x8000000A),
      (0x200004, 0), (0x200008, 0x00010013), (0x20000C, 0x14), (0x430004, 0), (0x430008, 0x00100015),
      (0x500004, 0x803F003C), (0x50000C, 0x800010C0), (0x600008, 0x00000140)], s.bar p.1 = p.2) ∧
  (∀ k : SiteId,
    (∀ p ∈ [(0x100000, 0x00010000), (0x100004, 0), (0x10000C, 0), (0x100200, 0x00010000), (0x100300, 0x00010000),
        (0x100308, 0), (0x10030C, 0), (0x100400, 0x00010000), (0x100498, 0x80000040), (0x100500, 0x00010000),
        (0x100504, 0x80000014), (0x100600, 0x00010000), (0x100604, 0), (0x100B00, 0x00010000)],
      (s.core k).reg p.1 = p.2) ∧
    (∀ i, (s.core k).ctxAt i = Ctx.reset) ∧
    (s.core k).seqr.run = false ∧ (s.core k).seqr.done = false ∧ (s.core k).seqr.fault = false ∧ (s.core k).seqr.flags = 0 ∧
    (∀ e, (s.core k).engine e = { queue := [], run := [], issued := 0, done := 0 }) ∧
    (∀ b, b < 4 → (s.core k).pwrState b = 0 ∧ wfld ((s.core k).bankCtl b) 0 2 = 0) ∧
    (∀ a, memRead (s.core k).sram.data a = 0) ∧
    (∀ r, r < 64 → (s.core k).accRow r = { int := false, exp := 0, v := [] }) ∧
    (s.core k).checker = { lfsr := 1, misr := 0, late := [] }) ∧
  (∀ id, (s.region id).st = 0 ∧ (s.region id).conf = false) ∧
  (∀ r, r < 256 → wbit (s.bar (0x21008 + 0x20 * r)) 31 = false ∧ (s.ring r).head = 0 ∧ (s.ring r).tail = 0) ∧
  (∀ q, q < 64 → wbit (s.bar (0x24008 + 0x20 * q)) 31 = false ∧ (s.cpl q).tail = 0 ∧ (s.cpl q).phase = true)

/-- Whatever the command, and in an engine cycle without one, host memory, every core's SRAM and instruction store and
every stack stay in canonical form: equal memories stay equal data. -/
def Obligations.StepKeepsMemories : Prop :=
  ∀ s t : State, s.memsOk = true → step s = .next t → t.memsOk = true

/-- Every step goes on to a next state and takes one command from the queue, first in first out; no command adds one or
takes another (log entry 4: a command whose condition does not hold leaves the state as it is). -/
def Obligations.StepConsumesOneCommand : Prop :=
  ∀ s : State, s.memsOk = true → ∃ t, step s = .next t ∧ t.pending = s.pending.tail

/-! ### The core sequencer -/

/-- R114: the register forms of the scalar instructions write RD from RA and RB. -/
def Obligations.AluRegisterForms : Prop :=
  ∀ (s : State) (k : SiteId) (w : Word),
    let rd := insnRd w
    let a := (s.core k).sreg (insnRa w)
    let b := (s.core k).sreg (insnRb w)
    (SeqAt s k 0x02 w → Retires (.add k) s s k rd (a + b)) ∧
    (SeqAt s k 0x03 w → Retires (.sub k) s s k rd (a - b)) ∧
    (SeqAt s k 0x04 w → Retires (.and k) s s k rd (a &&& b)) ∧
    (SeqAt s k 0x05 w → Retires (.or k) s s k rd (a ||| b)) ∧
    (SeqAt s k 0x06 w → Retires (.xor k) s s k rd (a ^^^ b)) ∧
    (SeqAt s k 0x07 w → Retires (.shl k) s s k rd (a <<< (b &&& 31))) ∧
    (SeqAt s k 0x08 w → Retires (.shr k) s s k rd (a >>> (b &&& 31))) ∧
    (SeqAt s k 0x09 w → Retires (.sra k) s s k rd (a.sshiftRight' (b &&& 31))) ∧
    (SeqAt s k 0x0A w → Retires (.mul k) s s k rd (a * b)) ∧
    (SeqAt s k 0x0B w → Retires (.slt k) s s k rd (if a.toInt < b.toInt then 1 else 0)) ∧
    (SeqAt s k 0x0C w → Retires (.sltu k) s s k rd (if a.toNat < b.toNat then 1 else 0))

/-- R114: the immediate forms write RD from RA and IMM14, signed for ADDI and zero-extended for the others; LUI writes
IMM22 shifted by 10; NOP does nothing; STEP counts NUM_STEP; FTST writes the flag as it is seen. -/
def Obligations.AluImmediateForms : Prop :=
  ∀ (s : State) (k : SiteId) (w : Word),
    let rd := insnRd w
    let a := (s.core k).sreg (insnRa w)
    (SeqAt s k 0x10 w → Retires (.addi k) s s k rd (a + (w.setWidth 14).signExtend 32)) ∧
    (SeqAt s k 0x11 w → Retires (.andi k) s s k rd (a &&& (w.setWidth 14).setWidth 32)) ∧
    (SeqAt s k 0x12 w → Retires (.ori k) s s k rd (a ||| (w.setWidth 14).setWidth 32)) ∧
    (SeqAt s k 0x13 w → Retires (.xori k) s s k rd (a ^^^ (w.setWidth 14).setWidth 32)) ∧
    (SeqAt s k 0x14 w → Retires (.shli k) s s k rd (a <<< (w &&& 31))) ∧
    (SeqAt s k 0x15 w → Retires (.shri k) s s k rd (a >>> (w &&& 31))) ∧
    (SeqAt s k 0x16 w → Retires (.srai k) s s k rd (a.sshiftRight' (w &&& 31))) ∧
    (SeqAt s k 0x17 w → Retires (.lui k) s s k rd ((w.setWidth 22).setWidth 32 <<< 10)) ∧
    (SeqAt s k 0x01 w → Retires (.nop k) s s k 0 0) ∧
    (SeqAt s k 0x1D w →
      Retires (.step k) s (s.setCore k ((s.core k).setReg 0x100210 ((s.core k).reg 0x100210 + 1))) k 0 0) ∧
    (SeqAt s k 0x37 w → insnImm w < 16 →
      Retires (.ftst k) s s k rd (if (s.core k).seqr.flagsSeen.getLsbD (insnImm w) then 1 else 0))

/-- R111, R114: a LD reads a word of the core's SRAM or a register of its control block; a ST writes a word of SRAM or of
the registers R111 lets it write; each raises ADDR where its offset is misaligned, undecoded or, for a ST, not allowed. -/
def Obligations.LoadsAndStores : Prop :=
  ∀ (s : State) (k : SiteId) (w : Word),
    let c := s.core k
    let rd := insnRd w
    let a := (c.sreg (insnRa w) + (w.setWidth 14).signExtend 32).toNat
    let v := c.sreg rd
    (SeqAt s k 0x18 w →
      (a % 4 ≠ 0 ∨ (0x40000 ≤ a ∧ coreDecoded a = false) → SeqTraps (.ld k) s k 2 0 w) ∧
      (∀ b, a % 4 = 0 → a < 0x40000 → c.bankUp (a / 0x10000) = true → (c.sramRead 2 a 4).2 = some b →
        Retires (.ld k) s (s.putCore k (c.sramRead 2 a 4).1) k rd (BitVec.ofNat 32 (leNat b))) ∧
      (a % 4 = 0 → 0x40000 ≤ a → coreDecoded a = true → ¬(0x104000 ≤ a ∧ a < 0x108000) →
        ¬(0x100700 ≤ a ∧ a < 0x100740) → coreW64 a = false → a ≠ 0x100B10 →
        Retires (.ld k) s s k rd (s.coreView k a)) ∧
      (∀ u x, a % 4 = 0 → 0x40000 ≤ a → coreDecoded a = true →
        (0x100700 ≤ a → a < 0x100740 → (c.tq (a % 0x40 / 4)).cnt = 0 ∨
          c.sramUp (c.tqSlot (a % 0x40 / 4) (c.tq (a % 0x40 / 4)).rd) 4 = true) →
        s.coreRead k a = (u, some x) → Retires (.ld k) s u k rd x)) ∧
    (SeqAt s k 0x19 w →
      (a % 4 ≠ 0 ∨ (0x40000 ≤ a ∧ ¬(coreDecoded a = true ∧
        ((0x100200 ≤ a ∧ a < 0x100600) ∨ (0x100B00 ≤ a ∧ a < 0x100C00)))) → SeqTraps (.st k) s k 2 0 w) ∧
      (a % 4 = 0 → a < 0x40000 → c.bankUp (a / 0x10000) = true → (c.sramWrite 2 a (leBytes 4 v.toNat)).2 = true →
        Retires (.st k) s (s.putCore k (c.sramWrite 2 a (leBytes 4 v.toNat)).1) k 0 0) ∧
      (a % 4 = 0 → coreDecoded a = true →
        ((0x100200 ≤ a ∧ a < 0x100600) ∨ (0x100B00 ≤ a ∧ a < 0x100C00)) →
        Retires (.st k) s (s.coreWrite k a v) k 0 0))

/-- R114, R118, R125: a branch whose condition does not hold retires in sequence; one whose condition holds, JAL and JR
move PC, relative to the branching instruction for a branch and JAL; a target outside the store raises ADDR, and a
control instruction that ends an active loop body raises ILLEGAL. -/
def Obligations.BranchesAndJumps : Prop :=
  ∀ (s : State) (k : SiteId) (w : Word),
    let c := s.core k
    let pc : Int := c.cur.pc.toNat
    let a := c.sreg (insnRa w)
    let b := c.sreg (insnRb w)
    let branch (i : Instr) (cond : Prop) : Prop :=
      (c.cur.atBodyEnd → SeqTraps i s k 1 0 w) ∧
      (¬c.cur.atBodyEnd → ¬cond → Retires i s s k 0 0) ∧
      (¬c.cur.atBodyEnd → cond → 0 ≤ pc + immSigned w → pc + immSigned w < 4096 →
        Jumps i s k (pc + immSigned w).toNat 0 0) ∧
      (¬c.cur.atBodyEnd → cond → (pc + immSigned w < 0 ∨ 4096 ≤ pc + immSigned w) → SeqTraps i s k 2 0 w)
    (SeqAt s k 0x20 w → branch (.beq k) (a = b)) ∧
    (SeqAt s k 0x21 w → branch (.bne k) (a ≠ b)) ∧
    (SeqAt s k 0x22 w → branch (.blt k) (a.toInt < b.toInt)) ∧
    (SeqAt s k 0x23 w → branch (.bge k) (b.toInt ≤ a.toInt)) ∧
    (SeqAt s k 0x24 w → branch (.bltu k) (a.toNat < b.toNat)) ∧
    (SeqAt s k 0x25 w → branch (.bgeu k) (b.toNat ≤ a.toNat)) ∧
    (SeqAt s k 0x26 w →
      (c.cur.atBodyEnd → SeqTraps (.jal k) s k 1 0 w) ∧
      (¬c.cur.atBodyEnd → 0 ≤ pc + (w.setWidth 22).toInt → pc + (w.setWidth 22).toInt < 4096 →
        Jumps (.jal k) s k (pc + (w.setWidth 22).toInt).toNat (insnRd w) (BitVec.ofNat 32 (c.cur.pc.toNat + 1))) ∧
      (¬c.cur.atBodyEnd → (pc + (w.setWidth 22).toInt < 0 ∨ 4096 ≤ pc + (w.setWidth 22).toInt) →
        SeqTraps (.jal k) s k 2 0 w)) ∧
    (SeqAt s k 0x27 w →
      (c.cur.atBodyEnd → SeqTraps (.jr k) s k 1 0 w) ∧
      (¬c.cur.atBodyEnd → a.toNat < 4096 → Jumps (.jr k) s k a.toNat 0 0) ∧
      (¬c.cur.atBodyEnd → 4096 ≤ a.toNat → SeqTraps (.jr k) s k 2 0 w))

/-- R123, R125: LOOP and LOOPI push a level whose body is the LEN instructions that follow and which runs COUNT times; a
COUNT of 0 skips the body and pushes nothing; a LEN of 0 and a loop instruction that ends an active body raise ILLEGAL, a
body that would end above instruction 4,095 raises ADDR, a fifth level raises LOOP. -/
def Obligations.LoopInstructions : Prop :=
  ∀ (s : State) (k : SiteId) (w : Word),
    let x := (s.core k).cur
    let pc := x.pc.toNat
    let len := (w.setWidth 14).toNat
    let loop (i : Instr) (count : Word) : Prop :=
      (len = 0 ∨ x.atBodyEnd → SeqTraps i s k 1 0 w) ∧
      (len ≠ 0 → ¬x.atBodyEnd → 4095 < pc + len → SeqTraps i s k 2 0 w) ∧
      (len ≠ 0 → ¬x.atBodyEnd → pc + len ≤ 4095 → count ≠ 0 → x.ldepth.toNat = 4 → SeqTraps i s k 3 0 w) ∧
      (len ≠ 0 → ¬x.atBodyEnd → pc + len ≤ 4095 → count ≠ 0 → x.ldepth.toNat < 4 →
        ∃ t : State, exec i s = .next t ∧ s.onlyCore k t ∧ SeqKeeps (s.core k) (t.core k) ∧ x.keeps (t.core k).cur ∧
          (t.core k).cur.regs = x.regs ∧ (t.core k).cur.pc.toNat = pc + 1 ∧
          (t.core k).cur.ldepth.toNat = x.ldepth.toNat + 1 ∧
          (∀ l, l < 4 → (t.core k).cur.level l = if l = x.ldepth.toNat
            then { start := x.pc + 1, fin := x.pc + BitVec.ofNat 12 len, remain := count } else x.level l)) ∧
      (∀ y, len ≠ 0 → ¬x.atBodyEnd → pc + len ≤ 4095 → count = 0 → loopNext (pc + len) x.ldepth.toNat x = some y →
        ∃ t : State, exec i s = .next t ∧ s.onlyCore k t ∧ SeqKeeps (s.core k) (t.core k) ∧ x.keeps (t.core k).cur ∧
          (t.core k).cur.regs = x.regs ∧ (t.core k).cur.pc = y.pc ∧ y.sameLoops (t.core k).cur)
    (SeqAt s k 0x28 w → loop (.loop k) ((s.core k).sreg (insnRa w))) ∧
    (SeqAt s k 0x29 w → loop (.loopi k) (((w >>> 14).setWidth 12).setWidth 32))

/-- R123, R124: what follows an instruction in sequence. Outside every active body PC goes on by one, and not past
instruction 4,095; at the end of the innermost body with passes remaining it returns to the body's first instruction, with
one pass fewer and nothing else changed; with none remaining that level is popped and the next outer one is counted. -/
def Obligations.LoopBackEdge : Prop :=
  ∀ (x : Ctx) (pc d : Nat), pc < 4096 → d ≤ 4 →
    ((∀ l, d = l + 1 → (x.level l).fin.toNat ≠ pc) →
      loopNext pc d x = if pc = 4095 then none
        else some { x with pc := BitVec.ofNat 12 (pc + 1), ldepth := BitVec.ofNat 3 d }) ∧
    (∀ l y, d = l + 1 → (x.level l).fin.toNat = pc → 1 < (x.level l).remain.toNat → loopNext pc d x = some y →
      y.pc = (x.level l).start ∧ y.ldepth.toNat = d ∧
        (∀ j, y.level j = if j = l then { x.level l with remain := (x.level l).remain - 1 } else x.level j)) ∧
    (∀ l, d = l + 1 → (x.level l).fin.toNat = pc → (x.level l).remain.toNat ≤ 1 →
      loopNext pc d x = loopNext pc l x)

/-- R135: FSET and FLAGS_SET set fast flags, FCLR and FLAGS_CLR clear them; FTST sees a flag set two cycles before. -/
def Obligations.FastFlags : Prop :=
  ∀ (s : State) (k : SiteId) (w v : Word),
    let c := s.core k
    let setTo (f : BitVec 16) : State := s.setCore k { c with seqr := { c.seqr with flags := f } }
    (SeqAt s k 0x34 w → insnImm w < 16 → Retires (.fset k) s (setTo (c.seqr.flags ||| 1 <<< insnImm w)) k 0 0) ∧
    (SeqAt s k 0x35 w → insnImm w < 16 → Retires (.fclr k) s (setTo (c.seqr.flags &&& ~~~((1 : BitVec 16) <<< insnImm w))) k 0 0) ∧
    exec (.flagsSetWrite k v) s = .next (setTo (c.seqr.flags ||| v.setWidth 16)) ∧
    exec (.flagsClrWrite k v) s = .next (setTo (c.seqr.flags &&& ~~~(v.setWidth 16))) ∧
    ((c.elapse 2).seqr.flagsSeen = c.seqr.flags ∧ ((c.elapse 1).elapse 1).seqr.flagsSeen = c.seqr.flags ∧
      (c.elapse 1).seqr.flagsSeen = c.seqr.flagsOld)

/-- R115, R116, R122, R135: WAITC, WAITI, WAITW and FWAIT retire where their condition holds, FWAIT clearing its flag
where IMM14[4] asks for it, and otherwise wait at the same instruction; an engine number above 4 and a WAITW condition of
3 raise ILLEGAL. -/
def Obligations.WaitInstructions : Prop :=
  ∀ (s : State) (k : SiteId) (w : Word),
    let c := s.core k
    let a := c.sreg (insnRa w)
    let b := c.sreg (insnRb w)
    let n := insnImm w
    let wait (i : Instr) (u : State) (cond : Prop) (wt : Wait) : Prop :=
      (cond → Retires i s u k 0 0) ∧ (¬cond → Waits i u k wt)
    (SeqAt s k 0x2D w →
      (4 < n → SeqTraps (.waitc k) s k 1 0 w) ∧
      (n ≤ 4 → wait (.waitc k) s
        (((c.engine n).issued - (c.engine n).done).toNat ≤ ((c.engine n).issued - a.setWidth 16).toNat)
        (.ticket n (a.setWidth 16)))) ∧
    (SeqAt s k 0x2E w →
      wait (.waiti k) s (∀ e, e < 5 → n.testBit e = true → (c.engine e).done = (c.engine e).issued)
        (.idle (BitVec.ofNat 5 n))) ∧
    (SeqAt s k 0x30 w →
      (n = 3 → SeqTraps (.waitw k) s k 1 0 w) ∧
      (∀ bs, n < 3 → a.toNat % 4 = 0 → a.toNat < 0x40000 → c.bankUp (a.toNat / 0x10000) = true →
        c.sramRead 2 a.toNat 4 = (c, some bs) →
        let x := BitVec.ofNat 32 (leNat bs)
        wait (.waitw k) s ((n = 0 ∧ x = b) ∨ (n = 1 ∧ x ≠ b) ∨ (n = 2 ∧ 0 ≤ (x - b).toInt))
          (.word a.toNat (BitVec.ofNat 2 n) b))) ∧
    (SeqAt s k 0x36 w →
      (c.seqr.flagsSeen.getLsbD (n % 16) = true →
        Retires (.fwait k) s
          (if n < 16 then s else s.setCore k { c with seqr := { c.seqr with
            flags := c.seqr.flags &&& ~~~((1 : BitVec 16) <<< (n % 16)) } }) k 0 0) ∧
      (c.seqr.flagsSeen.getLsbD (n % 16) = false → Waits (.fwait k) s k (.flag (n % 16) (decide (16 ≤ n)))))

/-- R75, R76, R115, R121, R122: ISSUE appends the descriptor at its offset to the engine's queue and writes the ticket to
RD; it waits while four operations are queued or 64 are outstanding; an engine number above 4 raises ILLEGAL, a descriptor
that is not 32-byte aligned or lies outside SRAM raises ADDR. -/
def Obligations.IssueInstruction : Prop :=
  ∀ (s : State) (k : SiteId) (w : Word), SeqAt s k 0x2C w →
    let c := s.core k
    let off := (c.sreg (insnRa w)).toNat
    let n := insnImm w
    let e := c.engine n
    let bad := off % 32 ≠ 0 ∨ 0x40000 < off + 32
    let full := 4 ≤ e.queue.length ∨ 64 ≤ (e.issued - e.done).toNat
    (4 < n → SeqTraps (.issue k) s k 1 0 w) ∧
    (n ≤ 4 → bad → SeqTraps (.issue k) s k 2 0 w) ∧
    (n ≤ 4 → ¬bad → full → Waits (.issue k) s k (.queueFull n)) ∧
    (∀ c' b, n ≤ 4 → ¬bad → ¬full → c.bankUp (off / 0x10000) = true → c.sramRead 2 off 32 = (c', some b) →
      let o : Op := { desc := BitVec.ofNat 256 (leNat b), off := off, ctx := c.seqr.cur, seq := c.opSeq
                      seed := c.reg 0x10020C ++ c.reg 0x100208, step := c.reg 0x100210, banks := 0, writes := []
                      ssb := none, fold := [], finished := false, left := [], unacked := 0, waiting := false }
      Retires (.issue k) s
        (s.putCore k { c'.setEngine n { e with queue := e.queue ++ [o], issued := e.issued + 1 } with
          opSeq := c.opSeq + 1 }) k (insnRd w) ((e.issued + 1).setWidth 32))

/-- R119: a stalled or waiting instruction is tried again at PC, and retires once its condition holds. -/
def Obligations.StallRetires : Prop :=
  ∀ (s : State) (k : SiteId) (w : Word),
    let c := s.core k
    let u := s.setCore k { c with seqr := { c.seqr with wait := .none } }
    (∀ b sn, c.seqr.wait ≠ .barrier b sn true) → c.seqr.wait ≠ .none →
      (∀ p ∈ [(0x1C, Instr.ssbc k), (0x2C, .issue k), (0x2D, .waitc k), (0x2E, .waiti k), (0x30, .waitw k),
          (0x31, .barrier k), (0x36, .fwait k)],
        SeqAt u k p.1 w → exec (.stallRetire k) s = exec p.2 u) ∧
      (SeqAt u k 0x2E w → (∀ e, e < 5 → (insnImm w).testBit e = true → (c.engine e).done = (c.engine e).issued) →
        Retires (.stallRetire k) s u k 0 0)

/-- R125, R127: YIELD switches to the first READY context after the running one, or is a NOP; CTX switches to a READY
context, is a NOP for the running one, and else raises CTX; HALT marks its context HALTED and switches as YIELD does, or
stops the sequencer with DONE set; each raises ILLEGAL at the end of an active loop body. -/
def Obligations.ContextSwitches : Prop :=
  ∀ (s : State) (k : SiteId) (w : Word),
    let c := s.core k
    let cur := c.seqr.cur.toNat
    let ready (n : Nat) : Prop := (c.ctxAt n).st = 1
    let next (i : Nat) : Prop := 1 ≤ i ∧ i ≤ 7 ∧ ready ((cur + i) % 8) ∧ ∀ j, 1 ≤ j → j < i → ¬ready ((cur + j) % 8)
    let alone : Prop := ∀ j, 1 ≤ j → j ≤ 7 → ¬ready ((cur + j) % 8)
    (SeqAt s k 0x38 w →
      (c.cur.atBodyEnd → SeqTraps (.yield k) s k 1 0 w) ∧
      (∀ i, ¬c.cur.atBodyEnd → next i → c.cur.pc ≠ 4095 → Switches (.yield k) s k ((cur + i) % 8) 1) ∧
      (¬c.cur.atBodyEnd → alone → Retires (.yield k) s s k 0 0)) ∧
    (SeqAt s k 0x39 w →
      (c.cur.atBodyEnd → SeqTraps (.ctx k) s k 1 0 w) ∧
      (¬c.cur.atBodyEnd → insnImm w = cur → Retires (.ctx k) s s k 0 0) ∧
      (¬c.cur.atBodyEnd → insnImm w ≠ cur → ready (insnImm w) → c.cur.pc ≠ 4095 →
        Switches (.ctx k) s k (insnImm w) 1) ∧
      (¬c.cur.atBodyEnd → insnImm w ≠ cur → ¬ready (insnImm w) → SeqTraps (.ctx k) s k 4 0 w)) ∧
    (SeqAt s k 0x3A w →
      (c.cur.atBodyEnd → SeqTraps (.halt k) s k 1 0 w) ∧
      (∀ i, ¬c.cur.atBodyEnd → next i → Switches (.halt k) s k ((cur + i) % 8) 3) ∧
      (¬c.cur.atBodyEnd → alone →
        ∃ t : State, exec (.halt k) s = .next t ∧ (t.core k).seqr.run = false ∧ (t.core k).seqr.done = true ∧
          (t.core k).cur = { c.cur with pc := c.cur.pc + 1, st := 3 }))

/-- R130, R131: EVSET makes SW pending in a context that is not OFF, and else raises CTX; EVCLR clears pending events of
its own context; an enabled pending event is taken with the PC saved in EPC, EV_ACTIVE set and PC at the vector; RETE goes
back, and raises ILLEGAL outside a handler. -/
def Obligations.EventsAndHandlers : Prop :=
  ∀ (s : State) (k : SiteId) (w : Word),
    let c := s.core k
    let n := insnImm w
    (SeqAt s k 0x3C w →
      ((c.ctxAt n).st = 0 → SeqTraps (.evset k) s k 4 0 w) ∧
      ((c.ctxAt n).st ≠ 0 →
        Retires (.evset k) s (s.setCore k (c.setCtx n { c.ctxAt n with pend := (c.ctxAt n).pend ||| 8 })) k 0 0)) ∧
    (SeqAt s k 0x3D w →
      Retires (.evclr k) s (s.setCore k (c.setCtx c.seqr.cur.toNat
        { c.cur with pend := c.cur.pend &&& ~~~(BitVec.ofNat 4 n) })) k 0 0) ∧
    (SeqAt s k 0x3B w →
      (c.cur.atBodyEnd ∨ c.cur.evActive = false → SeqTraps (.rete k) s k 1 0 w) ∧
      (¬c.cur.atBodyEnd → c.cur.evActive = true →
        ∃ t : State, exec (.rete k) s = .next t ∧ s.onlyCore k t ∧ SeqKeeps c (t.core k) ∧
          (t.core k).cur = { c.cur with pc := c.cur.epc, evActive := false })) ∧
    (c.seqr.run = true → c.cur.pend &&& c.cur.en ≠ 0 → c.cur.evActive = false →
      (c.seqr.wait = .none ∨ ∃ e t, c.seqr.wait = .ticket e t ∨ (∃ m, c.seqr.wait = .idle m) ∨
        (∃ o q v, c.seqr.wait = .word o q v) ∨ ∃ f b, c.seqr.wait = .flag f b) →
      ∃ t : State, exec (.eventEntry k) s = .next t ∧ (t.core k).seqr.wait = .none ∧
        (t.core k).cur = { c.cur with pc := c.cur.vec, epc := c.cur.pc, evActive := true } ∧
        ((c.cur.pend &&& c.cur.en) &&& 7 = 0 → s.onlyCore k t ∧ SeqKeeps c (t.core k)))

/-- R133: the exceptions that no operation of an instruction raises. TRAP raises TRAP with its code; an opcode that is not
listed, and a listed one with a bit set in a field it does not use, raise ILLEGAL; sequential execution past instruction
4,095 raises ADDR; a fetch with an uncorrectable codeword raises ECC. -/
def Obligations.SequencerExceptions : Prop :=
  ∀ (s : State) (k : SiteId) (w : Word),
    let c := s.core k
    (SeqAt s k 0x3E w → SeqTraps (.trap k) s k 5 (insnImm w) w) ∧
    (c.ready = true → c.fetch = (c, some w) → c.cur.ldepth.toNat ≤ 4 → insnOp w ∉ seqOps.map (·.1) →
      SeqTraps (.illegalInstruction k) s k 1 0 w) ∧
    (∀ p ∈ seqOps, ∀ m, c.ready = true → c.fetch = (c, some w) → c.cur.ldepth.toNat ≤ 4 → insnOp w = p.1 →
      insnUnused p.1 = some m → w.toNat &&& m ≠ 0 → SeqTraps (p.2 k) s k 1 0 w) ∧
    (SeqAt s k 0x01 w → c.cur.pc = 4095 → c.cur.ldepth = 0 → SeqTraps (.nop k) s k 2 0 w) ∧
    (∀ c', c.ready = true → c.fetch = (c', none) → ∀ p ∈ seqOps,
      ∃ t : State, exec (p.2 k) s = .next t ∧ (t.core k).seqr.run = false ∧ (t.core k).seqr.fault = true ∧
        (t.core k).reg 0x10000C = BitVec.ofNat 32 (6 + 2 ^ 8 * c.seqr.cur.toNat) ∧
        (t.core k).reg 0x100010 = c.cur.pc.setWidth 32)

/-- R287: BARRIER waits for its send engine's operations, then flips the core's sense bit of the barrier, sends an arrival
with that sense into the core's own router and waits for the release. -/
def Obligations.BarrierInstruction : Prop :=
  ∀ (s : State) (k : SiteId) (w : Word), SeqAt s k 0x31 w →
    let c := s.core k
    let b := insnImm w
    ((c.engine 4).done ≠ (c.engine 4).issued →
      Waits (.barrier k) s k (.barrier (BitVec.ofNat 14 b) (c.senseOf b) false)) ∧
    ((c.engine 4).done = (c.engine 4).issued →
      ∃ t : State, exec (.barrier k) s = .next t ∧
        (s.injectC k .loc (mkC 2 0 c.net.epoch 0 0 (b + 2 ^ 15 * (!(c.senseOf b)).toNat) 0)).onlyCore k t ∧
        (t.core k).seqr.wait = .barrier (BitVec.ofNat 14 b) (!(c.senseOf b)) true ∧ (t.core k).cur = c.cur ∧
        ∀ j, (t.core k).senseOf j = if j = b then !(c.senseOf b) else c.senseOf j)

/-- R57: SSBC commits the SSB at its offset once every operation that names it has merged: AMAX_CUR becomes 0, COMMITS
counts, a finite AMAX_CUR goes into the history after HEAD and a NaN or infinite one sets NF_SEEN and counts NUM_SSB_NF; a
STATIC or TRACK policy leaves the scale as it is. An invalid SSB raises SSB, a bad offset ADDR. -/
def Obligations.SsbCommit : Prop :=
  (∀ (s : State) (k : SiteId) (w : Word), SeqAt s k 0x1C w →
    let c := s.core k
    let off := (c.sreg (insnRa w)).toNat
    (off % 32 ≠ 0 ∨ 0x40000 < off + 96 → SeqTraps (.ssbc k) s k 2 0 w) ∧
    (off % 32 = 0 → off + 96 ≤ 0x40000 → c.sramUp off 96 = true → c.ssbOwed off = true →
      Waits (.ssbc k) s k (.commit off)) ∧
    (∀ b, off % 32 = 0 → off + 96 ≤ 0x40000 → c.sramUp off 96 = true → c.ssbOwed off = false →
      c.sramRead 2 off 96 = (c, some b) →
      (ssbValid b none = false → SeqTraps (.ssbc k) s k 7 0 w) ∧
      (ssbValid b none = true →
        let d := (c.sramWrite 2 off (ssbCommitted b).1).1
        Retires (.ssbc k) s (s.putCore k (if (ssbCommitted b).2 then d.bump 0x10022C 1 else d)) k 0 0))) ∧
  (∀ (b : List Byte), b.length = 96 →
    let r := (ssbCommitted b).1
    let a := leAt b 8 4
    let head := (leAt b 3 1) % 16
    r.length = 96 ∧ leAt r 8 4 = 0 ∧ leAt r 0xC 4 = (leAt b 0xC 4 + 1) % 2 ^ 32 ∧ slice r 0x50 16 = slice b 0x50 16 ∧
    (ssbCommitted b).2 = (f32 (BitVec.ofNat 32 a)).nonFinite ∧
    ((f32 (BitVec.ofNat 32 a)).nonFinite = true → slice r 0x10 64 = slice b 0x10 64 ∧ leAt r 3 1 % 16 = head ∧
      (leAt r 3 1).testBit 5 = true) ∧
    ((f32 (BitVec.ofNat 32 a)).nonFinite = false → leAt r 3 1 % 16 = (head + 1) % 16 ∧
      leAt r (0x10 + 4 * ((head + 1) % 16)) 4 = a ∧
      ∀ i, i < 16 → i ≠ (head + 1) % 16 → leAt r (0x10 + 4 * i) 4 = leAt b (0x10 + 4 * i) 4) ∧
    (leAt b 2 1 = 0 ∨ leAt b 2 1 = 3 → leAt r 4 4 = leAt b 4 4))

/-! ### The grid, registers and counters -/

/-- R18: dome d lies in dome row d div 4 and dome column d mod 4, and covers the X and Y ranges of the table. -/
def Obligations.DomePlacement : Prop :=
  ∀ k : SiteId,
    (siteX k < 768 ∧ siteY k < 384 ∧ mkSite (siteX k) (siteY k) = k ∧ siteDome k < 12) ∧
    ∀ p ∈ [(0, 0, 0), (1, 192, 0), (2, 384, 0), (3, 576, 0), (4, 0, 128), (5, 192, 128), (6, 384, 128), (7, 576, 128),
        (8, 0, 256), (9, 192, 256), (10, 384, 256), (11, 576, 256)],
      (siteDome k = p.1 ↔ (p.2.1 ≤ siteX k ∧ siteX k ≤ p.2.1 + 191 ∧ p.2.2 ≤ siteY k ∧ siteY k ≤ p.2.2 + 127)) ∧
      p.2.1 = p.1 % 4 * 192 ∧ p.2.2 = p.1 / 4 * 128

/-- R25: a spire area is a block of 32 by 32 sites within one dome, numbered by dome, area row and area column; when an
area is off all its sites are off; each area column holds the spare the table names. -/
def Obligations.SpireAreas : Prop :=
  (∀ k : SiteId,
    siteArea k = siteDome k * 24 + (siteY k % 128) / 32 * 6 + (siteX k % 192) / 32 ∧ siteArea k < 288 ∧
    (∀ j : SiteId, siteArea j = siteArea k ↔ siteX j / 32 = siteX k / 32 ∧ siteY j / 32 = siteY k / 32) ∧
    (∀ j : SiteId, siteArea j = siteArea k → siteDome j = siteDome k) ∧
    ∀ s : State, (s.area (siteArea k)).on = false → s.siteOn k = false) ∧
  ∀ p ∈ [(0, none), (1, some 47), (2, some 95), (3, none), (4, some 143), (5, some 191)], ∀ k : SiteId,
    siteX k % 192 / 32 = p.1 → (isSpare k = true ↔ p.2 = some (siteX k % 192))

/-- R8, R9: a write to a RW register of a core's control block sets its fields and ignores the reserved bits, a write to a
RO register has no effect; the same for registers of BAR0 whose block is enabled. -/
def Obligations.RegisterWrites : Prop :=
  ∀ (s : State) (k : SiteId) (v : Word),
    (s.siteOn k = true →
      (∀ p ∈ [(0x100004, 0x7), (0x100204, 0x1), (0x100208, 0xFFFFFFFF), (0x10020C, 0xFFFFFFFF), (0x100210, 0xFFFFFFFF),
          (0x100498, 0x8000FFFF), (0x100504, 0x8000001F), (0x100B08, 0xFFFFFFFF)],
        ∃ t : State, exec (.registerWrite (.core k) p.1 v) s = .next t ∧ s.onlyCore k t ∧
          t.core k = { s.core k with regs := (t.core k).regs } ∧ (t.core k).reg p.1 = v &&& p.2 ∧
          ∀ o, o ≠ p.1 → (t.core k).reg o = (s.core k).reg o) ∧
      (∀ off ∈ [0x100000, 0x100008, 0x10000C, 0x100010, 0x100014, 0x100020, 0x100030, 0x100200, 0x100220, 0x100300,
          0x10030C, 0x100480, 0x100494, 0x1004A4, 0x100520, 0x100600, 0x10060C],
        exec (.registerWrite (.core k) off v) s = .next s)) ∧
    (s.siteOn k = false → ∀ off, exec (.registerWrite (.core k) off v) s = .next s) ∧
    (∀ p ∈ [(0x010004, 0x7F), (0x020008, 0x3FF), (0x10001C, 0x800000FF), (0x200008, 0x00FFFF1F), (0x430010, 0xFFFFFFFF),
        (0x500004, 0x803FFFFF)],
      s.gated p.1 = false →
      ∃ t : State, exec (.registerWrite .bar0 p.1 v) s = .next t ∧ t = { s with regs := t.regs } ∧ t.bar p.1 = v &&& p.2 ∧
        ∀ o, o ≠ p.1 → t.bar o = s.bar o) ∧
    (∀ off ∈ [0x000000, 0x000004, 0x000008, 0x200004, 0x500010, 0x600004],
      s.gated off = false → exec (.registerWrite .bar0 off v) s = .next s)

/-- R14: where COUNTER_OVF is masked when an S32 counter saturates, no event is queued, and none is raised when the mask is
later removed; the OVF bit records the saturation. R12: the counter stops at 0xFFFF_FFFF; the event names it where an EPID
resolves to its site. R13: writing 1 to an OVF bit clears the bit and its counter. -/
def Obligations.S32Counters : Prop :=
  ∀ (s : State) (k : SiteId) (v : Word),
    let unmask (t : State) : Prop := ∃ u : State, exec (.registerWrite .bar0 0x020008 v) t = .next u ∧ u.host = t.host
    (∀ p ∈ [(0x100230, 0x100220, 4), (0x100334, 0x100330, 1), (0x100490, 0x100480, 4), (0x10053C, 0x100520, 7),
        (0x100650, 0x10064C, 1), (0x100C20, 0x100C04, 7), (0x100D20, 0x100D08, 6)],
      (∀ i n, i < p.2.2 → 0 < n →
        let c := s.core k
        let off := p.2.1 + 4 * i
        let d := c.bump off n
        let t := s.modCore k fun c => c.bump off n
        ((d.reg off).toNat = min ((c.reg off).toNat + n) 0xFFFFFFFF) ∧
        ((d.reg p.1).getLsbD i = ((c.reg p.1).getLsbD i || decide (0xFFFFFFFF ≤ (c.reg off).toNat + n))) ∧
        t.core k = d ∧
        (s.eventMasked 0x16 = true → t.host = s.host ∧ unmask t) ∧
        (s.fab.epidAt s.curVer k = none → t.host = s.host) ∧
        ((c.reg off).toNat + n < 0xFFFFFFFF ∨ (c.reg p.1).getLsbD i = true → t.host = s.host) ∧
        (∀ e, 0xFFFFFFFF ≤ (c.reg off).toNat + n → (c.reg p.1).getLsbD i = false → s.fab.epidAt s.curVer k = some e →
          s.eventMasked 0x16 = false → s.eventsOpen = true →
          (Tbl.get none t.host.events 0x16).isSome = true)) ∧
      (s.siteOn k = true →
        ∃ t : State, exec (.counterOvfClear (.core k) p.1 v) s = .next t ∧ s.onlyCore k t ∧
          t.core k = { s.core k with regs := (t.core k).regs } ∧
          ∀ i, i < p.2.2 →
            ((t.core k).reg p.1).getLsbD i = (((s.core k).reg p.1).getLsbD i && !(v.getLsbD i)) ∧
            (t.core k).reg (p.2.1 + 4 * i) = if v.getLsbD i then 0 else (s.core k).reg (p.2.1 + 4 * i))) ∧
    (∀ off ovf bit n, off ≠ ovf → off ≠ 0x20008 → ovf ≠ 0x20008 → bit < 32 → 0 < n →
      let t := s.bumpBar off ovf bit n
      (t.bar off).toNat = min ((s.bar off).toNat + n) 0xFFFFFFFF ∧
      ((t.bar ovf).getLsbD bit = ((s.bar ovf).getLsbD bit || decide (0xFFFFFFFF ≤ (s.bar off).toNat + n))) ∧
      (s.eventMasked 0x16 = true → t.host = s.host ∧ unmask t)) ∧
    (∀ p ∈ [(0x100028, 0x100024, 1), (0x110084, 0x110080, 1), (0x200058, 0x200050, 1), (0x50002C, 0x500024, 2),
        (0x600014, 0x600010, 1)], s.gated p.1 = false →
      ∃ t : State, exec (.counterOvfClear .bar0 p.1 v) s = .next t ∧ s.onlyRegs t ∧
        ∀ i, i < p.2.2 →
          (t.bar p.1).getLsbD i = ((s.bar p.1).getLsbD i && !(v.getLsbD i)) ∧
          t.bar (p.2.1 + 4 * i) = if v.getLsbD i then 0 else s.bar (p.2.1 + 4 * i))

/-- R15, R16: a W64 counter counts modulo 2^64; a read of its low word answers that word and latches the high word, and the
high word reads as latched until the low word is read again. -/
def Obligations.W64Counters : Prop :=
  ∀ (s : State) (k : SiteId) (off : Nat),
    (∀ n, ((s.core k).add64 off n).ctr64 off = (s.core k).ctr64 off + BitVec.ofNat 64 n) ∧
    (s.siteOn k = true → coreW64 off = true →
      let x := if off = 0x100620 then s.clk.gcc else (s.core k).ctr64 off
      ∃ t : State, exec (.w64LowRead (.core k) off) s = .next t ∧ t.host.last = leBytes 4 (x.toNat % 2 ^ 32) ∧
        t = { s with cores := t.cores, host := { s.host with last := t.host.last, abort := false } } ∧
        (∀ j, j ≠ k → t.core j = s.core j) ∧
        t.core k = { s.core k with latch := (t.core k).latch } ∧
        (∀ o, Tbl.get 0 (t.core k).latch o = if o = off then BitVec.ofNat 32 (x.toNat / 2 ^ 32)
          else Tbl.get 0 (s.core k).latch o) ∧
        t.coreView k (off + 4) = BitVec.ofNat 32 (x.toNat / 2 ^ 32) ∧
        ∀ n, (t.setCore k ((t.core k).add64 off n)).coreView k (off + 4) = BitVec.ofNat 32 (x.toNat / 2 ^ 32)) ∧
    (s.barIsLow off = true → s.gated off = false →
      ∃ t : State, exec (.w64LowRead .bar0 off) s = .next t ∧ t.host.last = leBytes 4 ((s.barW64 off).toNat % 2 ^ 32) ∧
        t = { s with latch := t.latch, host := { s.host with last := t.host.last, abort := false } } ∧
        ∀ o, Tbl.get 0 t.latch o = if o = off then BitVec.ofNat 32 ((s.barW64 off).toNat / 2 ^ 32)
          else Tbl.get 0 s.latch o)

/-! ### Core memory -/

/-- R144, R154, R164, R165, R170: what a write to BANK_CTL_b does to the bank's owner, RETAIN, MAP and power; an entry to RET
or OFF completes; a waking bank reaches ON, zero-filled where it was OFF and with its contents where it was in RET; a write
to WIN_n sets its fields unless a busy access engine lands into that window. -/
def Obligations.BankControl : Prop :=
  (∀ (s : State) (k : SiteId) (b : Fin 4) (v : Word),
    let c := s.core k
    let w := c.bankCtl b
    let own := wfld v 0 2
    let takes := own ≠ 3 ∧ c.bankHeld b = false
    let notOn := wfld w 18 2 ≠ 0 ∨ wfld w 16 2 ≠ 0
    ∃ t : State, exec (.bankCtlWrite k b v) s = .next t ∧ s.onlyCore k t ∧
      t.core k = { c with regs := (t.core k).regs, banks := (t.core k).banks } ∧
      (∀ o, o ≠ 0x100410 + 4 * b.val → (t.core k).reg o = c.reg o) ∧
      (∀ j, j ≠ b.val → (t.core k).bank j = c.bank j) ∧
      let w' := (t.core k).bankCtl b
      wfld w' 0 2 = (if own ≠ 3 ∧ c.bankHeld b = false then own else wfld w 0 2) ∧
      w'.getLsbD 4 = v.getLsbD 4 ∧ w'.getLsbD 5 = v.getLsbD 5 ∧ w'.getLsbD 8 = v.getLsbD 8 ∧
      w'.getLsbD 9 = w.getLsbD 9 ∧
      (takes → own ≠ 0 → notOn → wfld w' 16 2 = 0) ∧
      (¬(takes ∧ own ≠ 0 ∧ notOn) →
        (wfld v 16 2 = 3 ∨
          (wfld v 16 2 ≠ 0 ∧ ((t.core k).mapped b = true ∨ w.getLsbD 9 = true)) ∨
          (wfld v 16 2 = 2 ∧ v.getLsbD 4 = true) →
          wfld w' 16 4 = wfld w 16 4 ∧ (t.core k).bank b = c.bank b) ∧
        (wfld v 16 2 ≠ 3 → (t.core k).mapped b = false → w.getLsbD 9 = false →
          ¬(wfld v 16 2 = 2 ∧ v.getLsbD 4 = true) → wfld w' 16 2 = wfld v 16 2)) ∧
      (wfld w 18 2 = 0 → wfld w' 18 2 = 0)) ∧
  ∀ (s : State) (k : SiteId) (b : Fin 4) (n : Fin 16) (v : Word),
    let c := s.core k
    let w := c.bankCtl b
    (∀ x, (c.bank b).entering = some x →
      ∃ t : State, exec (.bankPowerEntryDone k b) s = .next t ∧ s.onlyCore k t ∧
        t.core k = { c with regs := (t.core k).regs, banks := (t.core k).banks } ∧
        (∀ o, o ≠ 0x100410 + 4 * b.val → (t.core k).reg o = c.reg o) ∧
        (t.core k).bankCtl b = setFld w 18 2 x.toNat ∧ (t.core k).bank b = { c.bank b with entering := none } ∧
        ∀ j, j ≠ b.val → (t.core k).bank j = c.bank j) ∧
    (wfld w 18 2 = 3 →
      ∃ t : State, exec (.bankWakeDone k b) s = .next t ∧ s.onlyCore k t ∧
        t.core k = { c with regs := (t.core k).regs, banks := (t.core k).banks, sram := (t.core k).sram } ∧
        (∀ o, o ≠ 0x100410 + 4 * b.val → (t.core k).reg o = c.reg o) ∧
        (t.core k).bankCtl b = setFld w 18 2 0 ∧
        (t.core k).bank b = { scrubRow := (c.bank b).scrubRow, fromOff := false
                              entering := if wfld w 16 2 = 0 then none else some (BitVec.ofNat 2 (wfld w 16 2))
                              scrubHold := if (c.bank b).fromOff then none else (c.bank b).scrubHold } ∧
        (∀ a, memRead (t.core k).sram.data a =
          if (c.bank b).fromOff = true ∧ a / 0x10000 = b.val then 0 else memRead c.sram.data a)) ∧
    ((∀ a, a < 2 → c.landWin a ≠ n.val ∨ c.accBusy a = false) →
      ∃ t : State, exec (.winWrite k n v) s = .next t ∧ s.onlyCore k t ∧
        t.core k = { c with regs := (t.core k).regs } ∧ (t.core k).win n = v &&& 0xC7FF0FFF ∧
        ∀ o, o ≠ 0x100440 + 4 * n.val → (t.core k).reg o = c.reg o) ∧
    (∀ a, a < 2 → c.landWin a = n.val → c.accBusy a = true → ∃ t : State, exec (.winWrite k n v) s = .next t ∧ s.onlyCore k t ∧
      t.core k = c)

/-- R155-R158: every word encoded decodes without error; an error confined to one symbol, in the data or in the check bits,
is corrected; one confined to two symbols is reported as uncorrectable, positions 32 to 35 being the check symbols. -/
def Obligations.SymbolCode : Prop :=
  (∀ d, d < 2 ^ 128 →
    eccDecode d (eccEncode d) = .clean ∧
    (∀ p e, p < 32 → 0 < e → e < 16 → eccDecode (d ^^^ (e <<< (4 * p))) (eccEncode d) = .corrected d (eccEncode d)) ∧
    (∀ p e, p < 4 → 0 < e → e < 16 →
      eccDecode d (eccEncode d ^^^ BitVec.ofNat 16 (e <<< (4 * p))) = .corrected d (eccEncode d))) ∧
  ∀ d p q e f, d < 2 ^ 128 → p < q → q < 36 → 0 < e → e < 16 → 0 < f → f < 16 →
    let r := d + 2 ^ 128 * (eccEncode d).toNat
    let r' := r ^^^ (e <<< (4 * p)) ^^^ (f <<< (4 * q))
    eccDecode (r' % 2 ^ 128) (BitVec.ofNat 16 (r' / 2 ^ 128)) = .bad

/-- R160, R161: the scrub reads the next row of an ON bank, counts what its decoders find and holds the corrections; the
write-back writes the held codewords and nothing else. -/
def Obligations.Scrubbing : Prop :=
  ∀ (s : State) (k : SiteId) (b : Fin 4),
    let c := s.core k
    let x := c.bank b
    let base := 4096 * b.val + 4 * x.scrubRow
    (c.scrubOn = true → c.bankUp b = true → x.scrubHold = none →
      ∃ t : State, exec (.scrubRow k b) s = .next t ∧ s.coreNoted k t ∧
        t.core k = { c with regs := (t.core k).regs, banks := (t.core k).banks } ∧
        (∀ j, j ≠ b.val → (t.core k).bank j = c.bank j) ∧
        ((t.core k).bank b) = { x with scrubRow := (x.scrubRow + 1) % 1024, scrubHold := ((t.core k).bank b).scrubHold } ∧
        (∀ i m ch, i < 4 → c.sram.decode (base + i) = .corrected m ch →
          ∃ h, ((t.core k).bank b).scrubHold = some (x.scrubRow, h) ∧ (i, leBytes 16 m) ∈ h) ∧
        ((∀ i, i < 4 → c.sram.decode (base + i) = .clean) →
          s.onlyCore k t ∧ ((t.core k).bank b).scrubHold = none ∧ (t.core k).regs = c.regs)) ∧
    (c.scrubOn = false ∨ c.bankUp b = false →
      ∃ t : State, exec (.scrubRow k b) s = .next t ∧ s.onlyCore k t ∧ t.core k = c) ∧
    (∀ row h, x.scrubHold = some (row, h) → (∀ f ∈ h, f.1 < 4 ∧ f.2.length = 16) → (h.map (·.1)).Nodup →
      ∃ t : State, exec (.scrubWriteback k b) s = .next t ∧ s.onlyCore k t ∧
        t.core k = { c with sram := (t.core k).sram, banks := (t.core k).banks } ∧
        (∀ j, j ≠ b.val → (t.core k).bank j = c.bank j) ∧
        ((t.core k).bank b) = { x with scrubHold := none } ∧
        (∀ f ∈ h, (t.core k).sram.cw (4096 * b.val + 4 * row + f.1) = leNat f.2 ∧
          (t.core k).sram.decode (4096 * b.val + 4 * row + f.1) = .clean) ∧
        (∀ i, (∀ f ∈ h, i ≠ 4096 * b.val + 4 * row + f.1) →
          (t.core k).sram.cw i = c.sram.cw i ∧ (t.core k).sram.decode i = c.sram.decode i))

/-- R166-R169: a march test starts on a bank that is not mapped and, if it is destructive, not retained, and is else
refused; it ends with every byte of the bank 0 if destructive and with every correctable codeword corrected if
preserving; an abort keeps the contents of a preserving test and zero-fills after a destructive one. -/
def Obligations.MarchTests : Prop :=
  ∀ (s : State) (k : SiteId) (v : Word),
    let c := s.core k
    let bank := wfld v 0 2
    let zeroed (m m' : EccMem) (b : Nat) : Prop :=
      ∀ a, memRead m'.data a = if a / 0x10000 = b then 0 else memRead m.data a
    (v.getLsbD 31 = true → wfld v 8 2 ≤ 1 → c.march = none →
      ∃ t : State, exec (.marchStart k v) s = .next t ∧ s.onlyCore k t ∧
        t.core k = { c with regs := (t.core k).regs, march := (t.core k).march } ∧
        (c.mapped bank = true → (t.core k).march = none ∧ wfld ((t.core k).reg 0x1004A4) 28 4 = 4) ∧
        (c.mapped bank = false → wfld v 8 2 = 0 → (c.bankCtl bank).getLsbD 4 = false →
          (t.core k).march = some { bank := bank, preserving := false, req := none } ∧
            wfld ((t.core k).reg 0x1004A4) 28 4 = 1) ∧
        (c.mapped bank = false → wfld v 8 2 = 0 → (c.bankCtl bank).getLsbD 4 = true →
          (t.core k).march = none ∧ wfld ((t.core k).reg 0x1004A4) 28 4 = 5) ∧
        (c.mapped bank = false → wfld v 8 2 = 1 →
          (t.core k).march = some { bank := bank, preserving := true, req := none } ∧
            ((t.core k).bankCtl bank).getLsbD 9 = true)) ∧
    (∀ m, v.getLsbD 31 = true → c.march = some m →
      ∃ t : State, exec (.marchStart k v) s = .next t ∧ s.onlyCore k t ∧ (t.core k).march = some m ∧ (t.core k).sram = c.sram) ∧
    (∀ m, c.march = some m → m.req = none → m.bank < 4 →
      (∃ t : State, exec (.marchAbort k) s = .next t ∧ s.onlyCore k t ∧ (t.core k).march = none ∧
        wfld ((t.core k).reg 0x1004A4) 28 4 = 6 ∧
        (m.preserving = true → (t.core k).sram = c.sram) ∧
        (m.preserving = false → zeroed c.sram (t.core k).sram m.bank)) ∧
      (∃ t : State, exec (.marchDone k []) s = .next t ∧ (t.core k).march = none ∧
        ((t.core k).bankCtl m.bank).getLsbD 9 = false ∧
        (m.preserving = false → s.onlyCore k t ∧ wfld ((t.core k).reg 0x1004A4) 28 4 = 2 ∧
          zeroed c.sram (t.core k).sram m.bank) ∧
        (m.preserving = true →
          (∀ i d ch, i / 4096 = m.bank → c.sram.decode i = .corrected d ch → d < 2 ^ 128 →
            (t.core k).sram.cw i = d) ∧
          ∀ i, (i / 4096 ≠ m.bank ∨ c.sram.decode i = .clean ∨ c.sram.decode i = .bad) →
            (t.core k).sram.cw i = c.sram.cw i)))

/-! ### The engines of a core -/

/-- R82-R89: a WLOAD whose checks pass leaves the shadow tile not valid and fills the tile being loaded, from local SRAM
without wrapping column n with the bytes at its address plus n strides; at completion that tile is the shadow tile. A TMM
swaps the tiles if asked, and takes each row it covers, in order, through the chunks of its activations; at completion it
counts in DONE. An AZERO zeroes its rows. An operation whose checks fail faults the engine. -/
def Obligations.TensorOperations : Prop :=
  ∀ (s : State) (k : SiteId) (o : Op) (rest : List Op),
    let c := s.core k
    let e := c.engine 0
    let opc := opFld o 0 0 8
    let kb := opFld o 4 16 2
    let rows := opFld o 4 0 7
    let queued (d : Core) (f : Op → Prop) : Prop :=
      ∃ x, (d.engine 0) = { e with queue := rest, run := e.run ++ [x] } ∧ f x ∧ x.seq = o.seq ∧ x.finished = false
    let retired (e : Engine) (run : List Op) : Engine :=
      { e with run := run.drop (finishedHead run), done := e.done + BitVec.ofNat 16 (finishedHead run) }
    let finished (x : Op) : List Op := e.run.map fun y => if y.seq = x.seq then { y with finished := true } else y
    (e.queue = o :: rest →
      (opc = 1 → c.loadBusy = false →
        (∀ f, c.wloadCheck o = some f → exec (.wload k) s = .next (s.engineFault k 0 f.1 f.2 o.off)) ∧
        (∀ f d m, c.wloadCheck o = none → c.elemsReady o 16 = true → Format.ofCode (opFld o 0 8 8) = some f →
          c.wloadRun o f = (d, some m) →
          ∃ u : State, exec (.wload k) s = .next (u.pump k) ∧ s.coreNoted k u ∧ (u.core k).shadow = none ∧
            (u.core k).loading = some m ∧ (u.core k).active = c.active ∧ (u.core k).acc = c.acc ∧
            (u.core k).sram = c.sram ∧ queued (u.core k) (fun x => x.desc = o.desc) ∧
            m.fmt.toNat = opFld o 0 8 8 ∧ m.kb = kb ∧ (m.sparse = true ↔ opFld o 0 16 1 = 1) ∧
            (opFld o 0 20 2 = 0 → opFld o 0 16 1 = 0 → c.wrapWin (opFld o 8 0 32) = none →
              (∀ i, c.sram.decode i = .clean) →
              m.cols = (List.range 16).map fun n =>
                memReads c.sram.data (opFld o 8 0 32 + n * opFld o 0x10 0 32) (packedLen f kb)))) ∧
      (opc = 2 → (opFld o 0 17 1 = 1 → c.loadBusy = false) → c.rowsFree 0 o = true →
        (∀ f, c.tmmCheck o = some f → exec (.tmm k) s = .next (s.engineFault k 0 f.1 f.2 o.off)) ∧
        (∀ af wf m d, c.tmmCheck o = none → Format.ofCode (opFld o 0 8 8) = some af → (swapped c o).1 = some m →
          Format.ofCode m.fmt.toNat = some wf → c.elemsReady o rows = true →
          (({ c with active := (swapped c o).1, shadow := (swapped c o).2 } : Core).tmmRun o wf af m) = (d, none) →
          ∃ u : State, exec (.tmm k) s = .next (u.pump k) ∧ s.coreNoted k u ∧
            (u.core k).active = (if opFld o 0 17 1 = 1 then c.shadow else c.active) ∧
            (u.core k).shadow = (if opFld o 0 17 1 = 1 then c.active else c.shadow) ∧
            (u.core k).sram = c.sram ∧ queued (u.core k) (fun x => x.desc = o.desc) ∧
            (∀ r, r < opFld o 4 8 6 ∨ opFld o 4 8 6 + rows ≤ r → (u.core k).accRow r = c.accRow r) ∧
            (∀ kp, pairKP wf af m.sparse = some kp →
              (u.core k).ctr64 0x100320 = c.ctr64 0x100320 + BitVec.ofNat 64 (rows * 32 * (kb + 1) / kp)) ∧
            (opFld o 0 20 2 = 0 → af.scaling = .none → c.wrapWin (opFld o 8 0 32) = none →
              (∀ i, c.sram.decode i = .clean) →
              ∀ i, i < rows → (u.core k).accRow (opFld o 4 8 6 + i) =
                (tmmRow wf af kb (opFld o 0 18 2 == 0) (c.accRow (opFld o 4 8 6 + i))
                  (unpack af.bits (32 * (kb + 1))
                    (memReads c.sram.data (opFld o 8 0 32 + i * opFld o 0x10 0 32) (packedLen af kb))) []
                  (m.cols.map fun x => tileCodes wf m.sparse kb x) m.scales).1))) ∧
      (opc = 3 → c.rowsFree 0 o = true →
        (∀ f, azeroCheck o = some f → exec (.azero k) s = .next (s.engineFault k 0 f.1 f.2 o.off)) ∧
        (azeroCheck o = none →
          ∃ u : State, exec (.azero k) s = .next (u.checkDone k) ∧ s.onlyCore k u ∧
            (∀ r, (u.core k).accRow r = if opFld o 4 8 6 ≤ r ∧ r < opFld o 4 8 6 + rows
              then { int := false, exp := 0, v := [] } else c.accRow r) ∧
            (u.core k).engine 0 = retired { e with queue := rest } (e.run ++ [{ o with finished := true }]) ∧
            (u.core k).sram = c.sram ∧ (u.core k).regs = c.regs))) ∧
    (∀ x, c.firstRunning 0 (fun y => opFld y 0 0 8 == 1) = some x →
      ∃ u : State, exec (.wloadComplete k) s = .next (u.checkDone k) ∧ s.onlyCore k u ∧
        (u.core k).shadow = c.loading ∧ (u.core k).loading = none ∧ (u.core k).active = c.active ∧
        (u.core k).acc = c.acc ∧ (u.core k).sram = c.sram ∧ (u.core k).engine 0 = retired e (finished x)) ∧
    (∀ x, c.firstRunning 0 (fun y => opFld y 0 0 8 == 2) = some x → c.checker.late = [] →
      ∃ u : State, exec (.tmmComplete k) s = .next (u.checkDone k) ∧ s.onlyCore k u ∧
        (u.core k).active = c.active ∧ (u.core k).shadow = c.shadow ∧ (u.core k).acc = c.acc ∧
        (u.core k).sram = c.sram ∧ (u.core k).engine 0 = retired e (finished x))

/-- R68, R85: an INT row adds each chunk's exact integer products, kept to 32 bits; for INT8 an entry is the sum, or the
nearest 32-bit integer, and whether that saturated is counted. -/
def Obligations.IntegerRows : Prop :=
  ∀ (kb : Nat) (e : Int) (acc : Word) (a w : List Nat), kb = 0 → a.length = 32 → w.length = 32 →
    let exact := acc.toInt + ((List.range 32).map fun i => sgn 8 (a.getD i 0) * sgn 8 (w.getD i 0)).sum
    let r := intCell .int8 kb e acc a [] w []
    (-(2 ^ 31) ≤ exact → exact ≤ 2 ^ 31 - 1 → r.1.toInt = exact ∧ r.2 = 0) ∧
    (2 ^ 31 - 1 < exact → r.1.toInt = 2 ^ 31 - 1 ∧ r.2 = 1) ∧
    (exact < -(2 ^ 31) → r.1.toInt = -(2 ^ 31) ∧ r.2 = 1)

/-- R78, R80, R90-R92: a vector operation whose interlocks hold and whose checks pass dispatches and leaves SRAM as it is;
one whose checks fail faults. From FP32 to FP32, with local operands that do not wrap, no SSB and no compression, it owes
the results of R91 and R92 at DST; a DRAIN owes the entries of its FLOAT rows; an AMAX owes nothing at DST and its largest
magnitude to its SSB. -/
def Obligations.VectorDispatch : Prop :=
  ∀ (s : State) (k : SiteId) (o : Op) (rest : List Op), ((s.core k).engine 1).queue = o :: rest →
    ∀ p ∈ [(1, Instr.vuAdd k), (2, .vuSub k), (3, .vuMul k), (4, .vuFma k), (5, .vuMax k), (6, .vuMin k), (7, .vuExp2 k),
        (8, .vuRcp k), (9, .vuRsqrt k), (0xA, .vuLog2 k), (0xB, .vuRsum k), (0xC, .vuRmax k), (0xD, .vuCvt k),
        (0xE, .vuDrain k), (0xF, .vuAmax k)],
      let c := s.core k
      let d := vDesc o
      let stream := d.sel = 1 ∨ d.sel = 2
      let data := c.sram.data
      let local_ := d.sel = 0 ∧ d.ssbEn = false ∧ d.comp = false ∧ d.fi = .fp32 ∧ d.fo = .fp32 ∧
        c.wrapWin d.src1 = none ∧ c.wrapWin d.src2 = none ∧ c.wrapWin d.dst = none ∧ ∀ i, c.sram.decode i = .clean
      let el (base i : Nat) : Word := toF32 (f32 (BitVec.ofNat 32 (leNat (memReads data (base + 4 * i) 4))))
      let a := (List.range d.count).map (el d.src1)
      let b := (List.range d.count).map fun i => el d.src2 (if d.bcast then 0 else i)
      let owes (x : Op) (l : List Word) : Prop := x.writes = [(d.dst, l.flatMap fun w => leBytes 4 (toF32 (f32 w)).toNat)]
      d.opc = p.1 →
        (d.fieldsOk = false → exec p.2 s = .next (s.engineFault k 1 2 0 o.off)) ∧
        (d.fieldsOk = true → d.formatsOk = false → exec p.2 s = .next (s.engineFault k 1 1 0 o.off)) ∧
        (d.fieldsOk = true → d.formatsOk = true → c.rowsFree 1 o = true → (stream → c.streamTurn d.sel o = true) →
          (c.vOperands d = none → exec p.2 s = .next (s.engineFault k 1 2 0 o.off)) ∧
          (∀ g, c.vOperands d = some g → (stream → c.landHas (d.sel - 1) d.len1 = true) →
            ∀ c' x f, c.vRun o d g = (c', some x, f) →
              ∃ u : State, exec p.2 s = .next (u.pump k) ∧ s.coreNoted k u ∧ (u.core k).sram = c.sram ∧ (u.core k).acc = c.acc ∧
                (u.core k).engine 1 = { c.engine 1 with queue := rest, run := (c.engine 1).run ++ [x] } ∧
                x.desc = o.desc ∧ x.seq = o.seq ∧ x.finished = o.finished ∧
                (local_ →
                  (d.opc = 1 → owes x (List.zipWith (fun v w => toF32 ((f32 v).add (f32 w))) a b)) ∧
                  (d.opc = 2 → owes x (List.zipWith (fun v w => toF32 ((f32 v).add (f32 w).neg)) a b)) ∧
                  (d.opc = 3 → owes x (List.zipWith (fun v w => toF32 ((f32 v).mul (f32 w))) a b)) ∧
                  (d.opc = 4 → owes x ((List.range d.count).map fun i =>
                    toF32 (((f32 (el d.src1 i)).mul (f32 (el d.src2 (if d.bcast then 0 else i)))).add
                      (f32 (el d.dst i))))) ∧
                  (d.opc = 5 → owes x (List.zipWith vmax a b)) ∧ (d.opc = 6 → owes x (List.zipWith vmin a b)) ∧
                  (d.opc = 7 → owes x (a.map vexp2)) ∧ (d.opc = 8 → owes x (a.map vrcp)) ∧
                  (d.opc = 9 → owes x (a.map vrsqrt)) ∧ (d.opc = 0xA → owes x (a.map vlog2)) ∧
                  (d.opc = 0xB → owes x [rsum a]) ∧ (d.opc = 0xC → owes x [rmax a]) ∧ (d.opc = 0xD → owes x a)) ∧
                (d.opc = 0xE → d.ssbEn = false → d.comp = false → d.fo = .fp32 → c.wrapWin d.dst = none →
                  (∀ r, (c.accRow r).int = false) →
                  owes x ((List.range d.count).map fun i => Tbl.get 0 (c.accRow (d.base + i / 16)).v (i % 16))) ∧
                (d.opc = 0xF → x.writes = [] ∧ (x.ssb.map fun y => y.1) = some d.ssb)))

/-- R77, R90: the oldest vector operation completes: its writes take effect, byte by byte, and it retires in issue order; a
write that meets an uncorrectable codeword faults the engine. -/
def Obligations.VectorCompletion : Prop :=
  ∀ (s : State) (k : SiteId) (o : Op) (rest : List Op), ((s.core k).engine 1).run = o :: rest → o.ssb = none →
    let c := s.core k
    let d := vDesc o
    let side := ((c.opSegs d.dscl 1 0 (scaleBytes d.fo d.outs)).getD []).map (·.1)
    (∀ c', c.applyWrites side o.writes = (c', false) →
      ((c.armed && o.fold != []) = false →
      exec (.vuOpComplete k) s = .next ((s.putCore k c').engineFault k 1 3 rUNCORR o.off))) ∧
    (∀ c', c.applyWrites side o.writes = (c', true) → c.checker.late = [] →
      ∃ u : State, exec (.vuOpComplete k) s = .next (u.checkDone k) ∧ s.coreNoted k u ∧ (u.core k).sram = c'.sram ∧
        (u.core k).checker = { c.checker with misr :=
          if c.armed = true ∧ o.fold ≠ [] then misrFold (o.fold.length / 8 + 1) c.checker.misr o.fold
          else c.checker.misr } ∧
        ((∀ x ∈ rest, x.seq ≠ o.seq ∧ x.finished = false) →
          (u.core k).engine 1 = { c.engine 1 with run := rest, done := (c.engine 1).done + 1 }) ∧
        (∀ a b, o.writes = [(a, b)] → (∀ i, c.sram.decode i = .clean) → ∀ x, memRead (u.core k).sram.data x =
          if a ≤ x ∧ x < a + b.length then b.getD (x - a) 0 else memRead c.sram.data x))

/-- R92, R93: RMAX is the largest element, a NaN where one is a NaN; RSUM of one element is that element added to +0; the
special inputs of RCP, RSQRT, EXP2 and LOG2 give the results of the table, whatever the approximations are. -/
def Obligations.VectorValues : Prop :=
  (∀ l : List Word, l ≠ [] →
    ((∃ x ∈ l, f32 x = .nan) → rmax l = nan32 ∨ l.length = 1) ∧
    ((∀ x ∈ l, f32 x ≠ .nan) → rmax l ∈ l ∧ ∀ x ∈ l, (f32 (rmax l)).lt (f32 x) = false)) ∧
  (∀ w : Word, rsum [w] = toF32 ((f32 0).add (f32 w))) ∧
  (vmax 0 0x80000000 = 0 ∧ vmax 0x80000000 0 = 0 ∧ vmin 0 0x80000000 = 0x80000000 ∧ vmin 0x80000000 0 = 0x80000000) ∧
  (∀ w : Word, f32 w = .nan → vrcp w = nan32 ∧ vrsqrt w = nan32 ∧ vexp2 w = nan32 ∧ vlog2 w = nan32) ∧
  (∀ w : Word, (∃ m e, f32 w = .fin true (m + 1) e) ∨ w = 0xFF800000 → vrsqrt w = nan32 ∧ vlog2 w = nan32) ∧
  (vrcp 0 = 0x7F800000 ∧ vrcp 0x80000000 = 0xFF800000 ∧ vrcp 0x7F800000 = 0 ∧ vrcp 0xFF800000 = 0x80000000 ∧
    vrsqrt 0 = 0x7F800000 ∧ vrsqrt 0x80000000 = 0xFF800000 ∧ vrsqrt 0x7F800000 = 0 ∧
    vlog2 0 = 0xFF800000 ∧ vlog2 0x80000000 = 0xFF800000 ∧ vlog2 0x7F800000 = 0x7F800000 ∧ vexp2 0xFF800000 = 0) ∧
  (∀ w : Word, (Val.fin false 128 0).lt (f32 w) = true → vexp2 w = 0x7F800000) ∧
  (∀ w : Word, (f32 w).lt (.fin true 150 0) = true → vexp2 w = 0)

/-- R98, R99, R101, R104: a stream without PRED whose checks pass begins at its first run and slot, a joined stream counting
its slots as asked for; one in progress sends what it may; one whose checks fail faults with DESC. A read of a dense stream
covers one to four slots that the engine holds credits for and does not cross a 256-byte boundary of its source. A stream
whose last byte has landed completes. -/
def Obligations.AccessStreams : Prop :=
  ∀ (s : State) (k : SiteId) (a1 : Bool),
    let c := s.core k
    let a := a1.toNat
    let x := c.acc_ a
    let e := c.engine (2 + a)
    (∀ p ∈ [(1, Instr.stream k a1), (2, .mcLead k a1), (3, .mcJoin k a1)],
      (∀ t, x.cur = some t → (sDesc t.op).opc = p.1 → exec p.2 s = .next (s.pump k)) ∧
      (∀ o rest, x.cur = none → e.queue = o :: rest →
        let d := sDesc o
        let n := d.runs * d.slots
        d.opc = p.1 →
          (c.streamOk a (s.region c.rgnId).sched d = false → exec p.2 s = .next (s.engineFault k (2 + a) 2 0 o.off)) ∧
          (c.streamOk a (s.region c.rgnId).sched d = true → d.pred = false →
            ∃ u t, exec p.2 s = .next (u.pump k) ∧ s.onlyCore k u ∧
              u.core k = { c with accEng := (u.core k).accEng, eng := (u.core k).eng } ∧
              (u.core k).engine (2 + a) = { e with queue := rest, run := e.run ++ [o] } ∧
              (∀ i, i ≠ 2 + a → (u.core k).engine i = c.engine i) ∧
              t.op = o ∧ t.run = 0 ∧ t.pos = 0 ∧ t.fetch = none ∧
              (u.core k).acc_ a = (if p.1 = 3 then
                { x with cur := some t, sent := x.sent + n
                         joins := x.joins ++ [{ group := d.group, base := x.sent, freed := x.sent, stop := x.sent + n }] }
                else { x with cur := some t })))) ∧
    (∀ t d u, d.opc ≠ 2 → x.cur = some t → s.denseStep k a t d = some u →
      ∃ n r, 1 ≤ n ∧ n ≤ 4 ∧ n ≤ c.credits a ∧
        (d.runAddr t.run + BitVec.ofNat 64 (64 * t.pos)).toNat % 256 + 64 * n ≤ 256 ∧
        ((u.core k).acc_ a).sent = x.sent + n ∧ ((u.core k).acc_ a).outs = x.outs ++ [r] ∧
        r.slots = (List.range n).map (x.sent + ·) ∧ r.pkt.type = tRD_REQ ∧ r.pkt.bytes.toNat = 64 * n ∧
        r.pkt.dest = d.runAddr t.run + BitVec.ofNat 64 (64 * t.pos)) ∧
    (∀ t, x.cur = some t → x.streamDone t = true →
      ∃ u : State, exec (.streamComplete k a1) s = .next (u.checkDone k) ∧ s.onlyCore k u ∧
        (u.core k).acc_ a = { x with cur := none } ∧ (u.core k).sram = c.sram ∧
        (∀ rest, e.run = t.op :: rest → (∀ y ∈ rest, y.seq ≠ t.op.seq ∧ y.finished = false) →
          (u.core k).engine (2 + a) = { e with run := rest, done := e.done + 1 }))

/-- R98, R108: a write to CE_LAND names the landing window of each engine that is not busy and restores its full credits; a
write to CHK_SEED_HI loads the LFSR with the seed, or with 1 where both words are 0, and CLEAR sets the MISR to 0, at once
or when the operation in the way completes. -/
def Obligations.LandingAndChecker : Prop :=
  ∀ (s : State) (k : SiteId) (v : Word),
    let c := s.core k
    (∃ t : State, exec (.ceLandWrite k v) s = .next t ∧ s.onlyCore k t ∧
      t.core k = { c with regs := (t.core k).regs, accEng := (t.core k).accEng } ∧
      (∀ o, o ≠ 0x100308 → (t.core k).reg o = c.reg o) ∧
      ∀ a, a < 2 →
        (c.accBusy a = true → (t.core k).landWin a = c.landWin a ∧ (t.core k).acc_ a = c.acc_ a) ∧
        (c.accBusy a = false → (t.core k).landWin a = wfld v (8 * a) 4 ∧
          ((t.core k).acc_ a).sent = 0 ∧ ((t.core k).acc_ a).ready = 0 ∧ ((t.core k).acc_ a).taken = 0 ∧
          (t.core k).credits a = winSize ((t.core k).landW a))) ∧
    (c.checkerBusy = false →
      (∃ t : State, exec (.chkSeedLoad k v) s = .next t ∧ s.onlyCore k t ∧
        t.core k = { c with regs := (t.core k).regs, checker := (t.core k).checker } ∧
        (t.core k).reg 0x100B0C = v ∧ (∀ o, o ≠ 0x100B0C → (t.core k).reg o = c.reg o) ∧
        (t.core k).checker = { c.checker with
          lfsr := if v = 0 ∧ c.reg 0x100B08 = 0 then 1 else v ++ c.reg 0x100B08 }) ∧
      (∃ t : State, exec (.chkClear k) s = .next t ∧ s.onlyCore k t ∧
        t.core k = { c with regs := (t.core k).regs, checker := { c.checker with misr := 0 } } ∧
        (t.core k).reg 0x100B04 = c.reg 0x100B04 &&& 1 ∧ (∀ o, o ≠ 0x100B04 → (t.core k).reg o = c.reg o))) ∧
    (c.checkerBusy = true →
      (∃ t : State, exec (.chkSeedLoad k v) s = .next t ∧ s.onlyCore k t ∧
        t.core k = { c with checker := { c.checker with late := c.checker.late ++ [(0x100B0C, v)] } }) ∧
      (∃ t : State, exec (.chkClear k) s = .next t ∧ s.onlyCore k t ∧ (t.core k).checker.misr = c.checker.misr ∧
        (t.core k).checker.lfsr = c.checker.lfsr ∧ (t.core k).regs = c.regs))

/-! ### The fabric -/

/-- R173, R188, R189, R196, R208: where no exception entry, hole or avoided link stands in the way a router follows the
default order; a packet at its own site is ejected, and one that goes on crosses the link in its way, or is answered HOLE
or dropped where the link is down or claimed. A routed flit with an uncorrectable error loses its packet and marks the
link down in both directions. -/
def Obligations.RouterForwarding : Prop :=
  ∀ (s : State) (n : Nat) (x : Flight), s.fab.flights[n]? = some x → x.ejected = false →
    let k := x.site
    let rest := s.fab.flights.eraseIdx n
    let u : State := s.takeFlight n
    (∀ p, x.body = .inl p → faEngine p.dest = s.ownId → p.type ≠ tMC_WR →
      let route := s.hop k p.epoch p.plane p.lane x.from_ p.dx.toNat p.dy.toNat
      (p.dsite = k → ∃ t : State, exec (.routerPacketArrive n) s = .next t ∧ s.onlyFlights t ∧
        t.fab.flights = rest ++ [flightP k x.from_ true x.hops p]) ∧
      ((∀ i, i < 128 → ((s.router k).excAt p.epoch i).getLsbD 47 = false) → s.fab.holesOf p.epoch = 0 →
        s.fab.avoidOf p.epoch = [] → ∀ d, defaultHop k p.dsite = some d → ∃ up, route = .go d up) ∧
      (∀ d up m, route = .go d up → neighbour k d = some m →
        (s.linkUp k d = true → s.claimed k d p.plane = false →
          ∃ t : State, exec (.routerPacketArrive n) s = .next t ∧ s.onlyFlights t ∧
            t.fab.flights = rest ++ [flightP m (.link (Dir.back d)) false x.hops { p with lane := p.lane || up }]) ∧
        (s.linkUp k d = false ∨ s.claimed k d p.plane = true →
          (isResponse p.type = true → exec (.routerPacketArrive n) s = .next (u.modCore k fun c => c.bump 0x100538 1)) ∧
          (isResponse p.type = false → exec (.routerPacketArrive n) s =
            .next ((u.modCore k fun c => c.bump 0x10052C 1).routerRefuse k { p with lane := p.lane || up } rHOLE)))) ∧
      (∀ code, route = .refuse code →
        exec (.routerPacketArrive n) s = .next (if isResponse p.type = true then u.modCore k fun c => c.bump 0x100538 1
          else u.routerRefuse k p code))) ∧
    (∀ k' d, defaultHop k k' = some d ↔
      (siteX k' < siteX k ∧ d = .w) ∨ (siteX k ≤ siteX k' ∧ siteY k' < siteY k ∧ d = .n) ∨
      (siteX k < siteX k' ∧ siteY k ≤ siteY k' ∧ d = .e) ∨
      (siteX k' = siteX k ∧ siteY k < siteY k' ∧ d = .s)) ∧
    (∀ d m, x.from_ = .link d → neighbour k d = some m →
      ∃ t : State, exec (.linkUe n) s = .next t ∧ t.fab.flights = rest ∧ (t.router k).down.getLsbD (Dir.num d) = true ∧
        (t.router m).down.getLsbD (Dir.num (Dir.back d)) = true ∧ t.epochReg.getLsbD 4 = true ∧
        (∀ j, j ≠ k → j ≠ m → t.router j = s.router j) ∧ (∀ j, j ≠ k → t.core j = s.core j) ∧
        t.core k = (s.core k).bump 0x100534 1 ∧ t.linkUp k d = false ∧
        t.rel.now = (s.rel.now.1, s.rel.now.2.1, s.rel.now.2.2 + 1)) ∧
    (∀ k' d, s.downLinks.contains (linkName k' d) = true → s.fab.lost.contains (linkName k' d) = false →
      (∃ t : State, exec (.linkRetrainDone k' d true) s = .next t ∧
        t = { s with fab := { s.fab with retrained := t.fab.retrained } } ∧ linkName k' d ∈ t.fab.retrained) ∧
      ∃ t : State, exec (.linkRetrainDone k' d false) s = .next t ∧
        t = { s with fab := { s.fab with lost := s.fab.lost ++ [linkName k' d] }, rel := t.rel } ∧
        t.rel.logSq = s.rel.logSq + 1)

/-- R37, R142, R150, R173, R176, R185, R199, R203: a read and a write of a core's SRAM that its core takes up read and
store its bytes, and are answered RD_RESP or acknowledged; what stands against a request is answered with its code. -/
def Obligations.CoreRequests : Prop :=
  ∀ (s : State) (k : SiteId) (p : Packet),
    let c := s.core k
    let off := faOff p.dest
    let u := s.land k (.inl p)
    let kinds := [(tRD_REQ, Instr.rdReq k p), (tWR, .wr k p), (tLAND, .land k p), (tCONTRIB, .combinerContribution k p)]
    (s.Takes k p tRD_REQ → off + p.bytes.toNat ≤ 0x40000 → c.clean →
      (s.sramBusy k off p.bytes.toNat = false → ∃ t, u.stored k t ∧ (t.core k).sram = c.sram ∧
        exec (.rdReq k p) s = .next
          (t.respond k (faEpid p.dest) p tRD_RESP rOK p.seq p.tag (memReads c.sram.data off p.bytes.toNat))) ∧
      (s.sramBusy k off p.bytes.toNat = true → exec (.rdReq k p) s = .next
        (((u.modCore k Core.progress).modCore k fun c => c.bump 0x10048C 1).respond k (faEpid p.dest) p tRD_RESP rBUSY
          p.seq p.tag []))) ∧
    (s.Takes k p tWR → off + p.payload.length ≤ 0x40000 → c.clean →
      (s.sramBusy k off p.payload.length = false → ∃ t, u.stored k t ∧ wrote c.sram (t.core k).sram off p.payload ∧
        exec (.wr k p) s = .next (t.ackPacket k p) ∧
        (c.net.acks.find? (fun a => a.engine == p.srcEngine && a.epid == p.srcEpid && a.plane == p.plane) = none →
          ((t.ackPacket k p).core k).net.acks = c.net.acks ++
            [{ engine := p.srcEngine, epid := p.srcEpid, plane := p.plane, base := p.seq, mask := 1 }])) ∧
      (s.sramBusy k off p.payload.length = true → exec (.wr k p) s = .next
        (((u.modCore k Core.progress).modCore k fun c => c.bump 0x10048C 1).nakFrom k p rBUSY))) ∧
    (∀ n, s.Takes k p tRD_REQ → p.bytes.toNat = n → 0x40000 < off + n → wordsDecode off n = false →
      exec (.rdReq k p) s = .next ((u.modCore k Core.progress).respond k (faEpid p.dest) p tRD_RESP rBADOFF p.seq p.tag [])) ∧
    (∀ n, s.Takes k p tWR → p.payload.length = n → 0x40000 < off + n → wordsDecode off n = false →
      exec (.wr k p) s = .next ((u.modCore k Core.progress).nakFrom k p rBADOFF)) ∧
    (∀ i ∈ kinds, s.siteRuns k = true →
      (p.type = i.1 → p.aborted = true → exec i.2 s = .next (u.modCore k fun c => c.bump 0x100538 1)) ∧
      (p.type = i.1 → p.aborted = false → s.namesCore p.dest = true →
        (s.fenced k = true → exec i.2 s = .next (u.routerRefuse k p rFENCED)) ∧
        (s.fenced k = false → s.inReset k = true → exec i.2 s = .next (u.routerRefuse k p rRESET)) ∧
        (s.fenced k = false → s.inReset k = false →
          (hcrcGood p = false → exec i.2 s = .next ((u.modCore k fun c => c.bump 0x100520 1).regionFault k 6 0)) ∧
          (hcrcGood p = true → crcGood p = false → c.net.holdFor p = none → c.net.holds.length < 4 →
            ∃ t : State, exec i.2 s = .next (t.nakFrom k p rCRC) ∧ u.coreNoted k t ∧
              (t.core k).net.holds = c.net.holds ++ [{ engine := p.srcEngine, epid := p.srcEpid, plane := p.plane
                                                       vc := isResponse p.type, seq := p.seq }] ∧
              (t.core k).sram = c.sram) ∧
          (hcrcGood p = true → crcGood p = true → ∀ h, c.net.holdFor p = some h →
            (p.resend && p.seq == h.seq) = false → exec i.2 s = .next (u.nakFrom k p rHELD)))))

/-- R104, R150, R205, R225, R275, R276, R282: a channel landing its core takes up writes the ring or the status word, which
notifies where it changes; one for a channel that does not receive is answered CLOSED. A contribution piece is staged, or
discarded where it is late. A multicast write at a router of its tree goes down every link of the entry and, at a member,
into its memory without an answer. A token is appended, discarded where its generation is stale, held at the router where
the queue is full, and dropped where there is no queue. -/
def Obligations.LandingsAndTokens : Prop :=
  ∀ (s : State) (k : SiteId),
    let c := s.core k
    (∀ p : Packet,
      let off := faOff p.dest
      let n := p.payload.length
      let u := s.land k (.inl p)
      let ch := p.tag.toNat % 64
      let w0 := c.ch ch 0
      (s.Takes k p tLAND → c.clean →
        (c.chState ch ≠ 1 ∨ c.chSend ch = true → exec (.land k p) s = .next
          (((u.modCore k Core.progress).modCore k fun c => c.bump 0x100D08 1).nakFrom k p rCLOSED)) ∧
        (c.chState ch = 1 → c.chSend ch = false → faEngine (c.chPeer ch) = p.srcEngine.toNat →
          faEpid (c.chPeer ch) = p.srcEpid.toNat → off + n ≤ 0x40000 →
          (∀ b ∈ banksOf off n, s.bankShut k b = false) →
          (p.tag.getLsbD 6 = false → (c.ringOf ch).1 ≤ off → off + n ≤ (c.ringOf ch).1 + (c.ringOf ch).2 →
            ∃ t, u.stored k t ∧ wrote c.sram (t.core k).sram off p.payload ∧
              exec (.land k p) s = .next (t.ackPacket k p)) ∧
          (p.tag.getLsbD 6 = true → off = (c.ch ch 0x14).toNat → n = 4 →
            ∃ t, u.onlyCore k t ∧ wrote c.sram (t.core k).sram off p.payload ∧
              exec (.land k p) s = .next (t.ackPacket k p) ∧
              (t.core k).seqr.flags = (if memReads c.sram.data off 4 ≠ p.payload ∧ w0.getLsbD 16 = true
                then c.seqr.flags ||| 1 <<< wfld w0 12 4 else c.seqr.flags) ∧
              (memReads c.sram.data off 4 ≠ p.payload → w0.getLsbD 20 = true →
                ((t.core k).ctxAt (wfld w0 17 3)).pend = (c.ctxAt (wfld w0 17 3)).pend ||| 4) ∧
              (memReads c.sram.data off 4 = p.payload ∨ w0.getLsbD 20 = false → (t.core k).seqr.ctxs = c.seqr.ctxs)))) ∧
      (s.Takes k p tCONTRIB → c.clean → 0x310000 ≤ off → off < 0x330000 → off % 64 = 0 → n = 64 →
        let m := off / 0x4000 - 196
        let e := off % 0x4000 / 4
        let i := p.tag.toNat % 64
        let behind := (p.tag.toNat / 64 + 1024 - c.cbRound m % 1024) % 1024
        let at_ := (c.cb m 0x24).toNat + (i % c.cbSlots m) * (4 * c.cbLen m) + 4 * e
        e < c.cbLen m → e < 4096 → c.cbState m ≠ 0 → i < (c.cbNext m).getD 64 + c.cbSlots m →
        (∀ b ∈ banksOf (c.cb m 0x24).toNat (c.cbSlots m * (4 * c.cbLen m)), s.bankShut k b = false) →
        (behind = 0 → (c.cb64 m 8).getLsbD i = true → (c.cb64 m 0x10).getLsbD i = false →
          (c.round m).folded.getLsbD i = false →
          ∃ t, u.onlyCore k t ∧ wrote c.sram (t.core k).sram at_ p.payload ∧
            exec (.combinerContribution k p) s = .next (((t.ackPacket k p).cmbRun k m).sendOn k) ∧
            (Tbl.get 0 ((t.core k).round m).pieces i).getLsbD (e / 16) = true ∧
            (c.cbLen m = 16 → (t.core k).cb64 m 0x18 = c.cb64 m 0x18 ||| BitVec.ofNat 64 (2 ^ i))) ∧
        (512 ≤ behind ∨ (behind = 0 ∧ ((c.cb64 m 8).getLsbD i = false ∨ (c.cb64 m 0x10).getLsbD i = true ∨
            (c.round m).folded.getLsbD i = true)) →
          exec (.combinerContribution k p) s = .next
            (((u.modCore k Core.progress).modCore k fun c => c.bump 0x100D18 1).ackPacket k p))) ∧
      (∀ port tr, p.type = tMC_WR → s.treeAt p.epoch k (faEpid p.dest % 0x4000) = some tr →
        (p.dsite = k ∨ ∃ d, port = .link d ∧ tr.up = Dir.num d) →
        let v := tr.links.foldl (fun (s : State) d => s.crossP k d 0 p) u
        exec (.mcWr k p port) s = .next (if tr.out.getLsbD 4 = true then v.mcEject k p else v) ∧
        (tr.out = 16 → s.fenced k = false → s.inReset k = false → p.aborted = false → hcrcGood p = true →
          crcGood p = true → p.tag = 0 → c.clean → off + n ≤ 0x40000 → s.sramBusy k off n = false →
          ∃ t : State, exec (.mcWr k p port) s = .next t ∧ u.stored k t ∧ wrote c.sram (t.core k).sram off p.payload)) ∧
      (∀ port, p.type = tMC_WR → s.treeAt p.epoch k (faEpid p.dest % 0x4000) = none → p.dsite = k →
        exec (.mcWr k p port) s = .next (u.modCore k fun c => c.bump 0x100538 1))) ∧
    (∀ p : CPacket, p.type = 1 → s.fenced k = false → s.inReset k = false →
      let u := s.land k (.inr p)
      let q := p.sub.toNat
      let cfg := c.tqCfg q
      let x := c.tq q
      (cGood p = false ∨ 15 < q ∨ cfg.getLsbD 31 = false →
        exec (.token k p) s = .next (u.modCore k fun c => c.bump 0x100538 1)) ∧
      (cGood p = true → q ≤ 15 → cfg.getLsbD 31 = true →
        ((c.ctxAt (wfld cfg 28 3)).gen ≠ p.gen →
          exec (.token k p) s = .next (u.modCore k fun x => x.progress.bump 0x10064C 1)) ∧
        ((c.ctxAt (wfld cfg 28 3)).gen = p.gen →
          (c.tqDepth q ≤ x.cnt → ∃ t : State, exec (.token k p) s = .next t ∧ u.onlyFlights t ∧
            t.fab.flights = u.fab.flights ++ [flightC k .loc true p]) ∧
          (x.cnt < c.tqDepth q → c.clean →
            ∃ t : State, exec (.token k p) s = .next t ∧ u.onlyCore k t ∧
              wrote c.sram (t.core k).sram (c.tqSlot q (x.rd + x.cnt)) (leBytes 4 p.arg.toNat) ∧
              (t.core k).tq q = { x with cnt := x.cnt + 1 } ∧ (∀ j, j ≠ q → (t.core k).tq j = c.tq j) ∧
              (t.core k).seqr = c.seqr ∧ (t.core k).regs = c.regs))))

/-- R134, R194, R206, R236, R287: a barrier arrival is marked, and once every port of the entry has arrived goes up or, at
the root, becomes a release; a release frees the core that waits for it. A halt stops the sequencer and the engines of a
core of its region and generation. A release token moves the group's position up by the least advanced port. A fence stops
the source, which reports once it has settled; a flip starts it in the new version; at the root the last FENCE_DONE
switches the version. -/
def Obligations.ControlPlane : Prop :=
  ∀ (s : State) (k : SiteId) (p : CPacket) (port : Port), cGood p = true →
    let c := s.core k
    let r := s.router k
    let u := s.land k (.inr p)
    let b := p.arg.toNat % 2 ^ 14
    let sense := p.arg.getLsbD 15
    let key := 2 * b + sense.toNat
    (∀ tr, p.type = 2 → s.treeAt p.epoch k b = some tr →
      let a := Tbl.get 0 r.arr key ||| Port.bit port
      (tr.out &&& Port.bit port = 0 → exec (.barArrive k p port) s = .next (u.modCore k fun c => c.bump 0x100538 1)) ∧
      (tr.out &&& Port.bit port ≠ 0 → tr.out &&& ~~~a ≠ 0 → ∃ t : State, exec (.barArrive k p port) s = .next t ∧ u.onlyRouter k t ∧
        t.router k = { r with arr := (t.router k).arr } ∧
        ∀ j, Tbl.get 0 (t.router k).arr j = if j = key then a else Tbl.get 0 r.arr j) ∧
      (tr.out &&& Port.bit port ≠ 0 → tr.out &&& ~~~a = 0 →
        ∃ v, u.onlyRouter k v ∧ Tbl.get 0 (v.router k).arr key = 0 ∧
          (tr.up < 4 → exec (.barArrive k p port) s = .next (v.crossC k port (Dir.ofNum tr.up) p)) ∧
          (tr.up = 7 → s.sbarOn b = false →
            ∃ t : State, exec (.barArrive k p port) s = .next t ∧ v.onlyFlights t ∧
              t.fab.flights = u.fab.flights ++ [flightC k .loc false (mkC 3 0 p.epoch 0 0 (barArg b sense) 0)]))) ∧
    (∀ tr, p.type = 3 → s.treeAt p.epoch k b = some tr → tr.out = 16 →
      (∀ x, c.seqr.run = true → c.seqr.wait = .barrier (BitVec.ofNat 14 b) sense true →
        (∀ i, (c.ctxAt i).bwait = false) → loopNext c.cur.pc.toNat c.cur.ldepth.toNat c.cur = some x →
        ∃ t : State, exec (.barRelease k p) s = .next t ∧ u.onlyCore k t ∧ (t.core k).seqr.wait = .none ∧
          (t.core k).cur.pc = x.pc ∧ (t.core k).cur.regs = c.cur.regs ∧ (t.core k).sram = c.sram) ∧
      (c.seqr.wait ≠ .barrier (BitVec.ofNat 14 b) sense true →
        ∃ t : State, exec (.barRelease k p) s = .next t ∧ u.onlyCore k t ∧ (t.core k).seqr.wait = c.seqr.wait ∧
          ∀ i, i < 8 → (t.core k).ctxAt i = { c.ctxAt i with bwait := (c.ctxAt i).bwait &&
            !((c.ctxAt i).bar == BitVec.ofNat 14 b && (c.ctxAt i).sense == sense) })) ∧
    (p.type = 4 → c.rgnId = p.arg.toNat → (s.region c.rgnId).gen = p.gen → (s.region c.rgnId).scanReq = none →
      (s.region c.rgnId).stopReq = none → (∀ o, c.seqr.wait ≠ .commit o) → (∀ o q w, c.seqr.wait ≠ .barrier o q w) →
      ∃ t : State, exec (.haltBroadcast k p) s = .next t ∧ u.onlyCore k t ∧ (t.core k).seqr.run = false ∧
        (∀ e, e < 5 → ((t.core k).engine e).queue = [] ∧ ((t.core k).engine e).run = []) ∧
        (∀ a, a < 2 → ((t.core k).acc_ a).outs = [] ∧ ((t.core k).acc_ a).cur = none) ∧
        (t.core k).net.rtx = c.net.rtx ∧ (t.core k).sram = c.sram ∧ (t.core k).seqr.ctxs = c.seqr.ctxs) ∧
    (p.type = 4 → c.rgnId ≠ p.arg.toNat ∨ (s.region c.rgnId).gen ≠ p.gen → exec (.haltBroadcast k p) s = .next u) ∧
    (∀ tr slot, p.type = 5 → slot < 5 → Port.bit port = 1 <<< slot →
      let g := p.dx.toNat + ((p.dy.toNat % 16) <<< 10)
      s.treeAt p.epoch k g = some tr → tr.out.getLsbD slot = true →
      let base := Tbl.get 0 r.relSent g
      let pos (q : Nat) : BitVec 16 := if q = slot then p.arg else Tbl.get 0 r.rel (8 * g + q)
      ∃ v n, u.onlyRouter k v ∧ (∀ q, q < 5 → Tbl.get 0 (v.router k).rel (8 * g + q) = pos q) ∧
        (∀ q, q < 5 → tr.out.getLsbD q = true → n ≤ (pos q - base).toNat) ∧
        (∃ q, q < 5 ∧ tr.out.getLsbD q = true ∧ n = (pos q - base).toNat) ∧
        Tbl.get 0 (v.router k).relSent g = base + BitVec.ofNat 16 n ∧
        exec (.mcRelease k p port) s = .next (if n = 0 then v
          else if tr.up = 7 then (v.modCore k fun c => c.mcCredit g n).pump k
          else v.crossC k port (Dir.ofNum tr.up)
            (mkC 5 0 p.epoch p.dx.toNat p.dy.toNat (base + BitVec.ofNat 16 n).toNat 0))) ∧
    (p.type = 6 → s.epochReg.getLsbD 2 = true →
      let settled := (c.net.rtx.all fun r => r.held) && (List.range 2).all fun a => (c.acc_ a).outs.all fun o => o.held
      (settled = true → c.net.fdSent = false → ∃ t v, exec (.epochFence k p) s = .next t ∧ u.onlyCore k v ∧
        v.onlyFlights t ∧ (v.core k).net.fenced = true ∧ (v.core k).net.fdSent = true ∧
        t.fab.flights = u.fab.flights ++ [flightC k .loc false (mkC 8 0 (!s.curVer) 0 0 0 0)]) ∧
      (settled = false → ∃ t : State, exec (.epochFence k p) s = .next t ∧ u.onlyCore k t ∧ (t.core k).net.fenced = true ∧
        (t.core k).net.fdSent = c.net.fdSent)) ∧
    (p.type = 7 → c.net.rtx = [] → (∀ a, a < 2 → (c.acc_ a).outs = []) → c.seqr.run = false →
      (∀ m, m < 8 → c.cbState m ≠ 2) →
      ∃ t : State, exec (.flip k p) s = .next (t.sendOn k) ∧ u.onlyCore k t ∧ (t.core k).net = { c.net with
        epoch := p.epoch, fenced := false, stopped := false, fdSent := false, heldDest := [], stall := 0 }) ∧
    (∀ f, p.type = 8 → s.epochReg.getLsbD 2 = true → s.fab.flip = some f →
      let tr := s.fenceTree p.epoch k
      let d := r.fdone ||| Port.bit port
      (tr.out &&& ~~~d ≠ 0 → ∃ t : State, exec (.fenceDone k p port) s = .next t ∧ u.onlyRouter k t ∧
        t.router k = { r with fdone := d }) ∧
      (tr.out &&& ~~~d = 0 → ∃ v, u.onlyRouter k v ∧ v.router k = { r with fdone := d } ∧
        (tr.up = 7 → exec (.fenceDone k p port) s = .next (v.switchVersion.sendFlip.afterFlip f) ∧
          v.switchVersion.curVer = !s.curVer) ∧
        (tr.up ≠ 7 → exec (.fenceDone k p port) s = .next (v.crossC k .loc (Dir.ofNum tr.up) p))))

/-- R99, R178, R195, R198, R200, R201: what an answer or a timer does with a packet of the retransmit buffer and with a
read. An ACK releases the packet each of its bits names; a refusal makes the source wait BUSY_GAP, send the packet and its
later flow again, hold it for the next flip, or complete it with the code; a read's bytes land in its slots. -/
def Obligations.SourceAnswers : Prop :=
  ∀ (s : State) (k : SiteId) (p : Packet),
    let c := s.core k
    let u := s.land k (.inl p)
    let seen : Prop := p.aborted = false ∧ s.fenced k = false ∧ hcrcGood p = true ∧ crcGood p = true
    let again (v : State) (r : Rtx) (n : Nat) : Prop := (v.core k).net.rtx =
      c.net.rtx.map fun x => if x.ord = r.ord then { x with attempts := n } else x
    (∀ i ∈ [(tACK, Instr.ack k p), (tNAK, .nak k p), (tRD_RESP, .rdResp k p)], p.type = i.1 →
      (p.aborted = true ∨ s.fenced k = true → exec i.2 s = .next (u.modCore k fun c => c.bump 0x100538 1)) ∧
      (p.aborted = false → s.fenced k = false → (hcrcGood p = false ∨ crcGood p = false) →
        exec i.2 s = .next (u.modCore k fun c => c.bump 0x100520 1))) ∧
    (∀ j r, p.type = tACK → seen → j < 16 → p.tag = 1 <<< j → c.rtxOf (Packet.ofPlane p) (p.seq + BitVec.ofNat 8 j) = some r →
      ∃ v : State, exec (.ack k p) s = .next ((v.sendAnswered k r rOK).goOn k) ∧ u.onlyCore k v ∧
        v.core k = { c with net := { c.net with rtx := c.net.rtx.filter (fun x => x.ord != r.ord), stall := 0 } }) ∧
    (∀ r, p.type = tNAK → seen → c.rtxOf (Packet.ofPlane p) p.seq = some r →
      (p.resp = rBUSY ∨ (p.resp = rRESET ∧ r.attempts < 3) → ∃ t : State, exec (.nak k p) s = .next t ∧ u.onlyCore k t ∧
        (t.core k).net.rtx = c.net.rtx.map fun x => if x.ord = r.ord then { x with gap := true, attempts :=
          if p.resp = rBUSY then r.attempts else r.attempts + 1 } else x) ∧
      (p.resp = rHELD → ∃ v : State, exec (.nak k p) s = .next (v.resendFrom k r.pkt r.ord) ∧ u.onlyCore k v ∧ again v r r.attempts) ∧
      (p.resp = rCRC → r.attempts < 3 → ∃ v : State, exec (.nak k p) s = .next (v.resendFrom k r.pkt r.ord) ∧ u.onlyCore k v ∧
        again v r (r.attempts + 1)) ∧
      (p.resp = rHOLE → ∃ v : State, exec (.nak k p) s = .next ((v.holdSent k r.pkt r.ord).fenceCheck k) ∧ u.onlyCore k v ∧
        again v r r.attempts) ∧
      ((p.resp = rCRC ∨ p.resp = rRESET) → 3 ≤ r.attempts → ∃ v : State, exec (.nak k p) s = .next (v.finishRtx k r rTIMEOUT) ∧
        u.onlyCore k v ∧ again v r r.attempts) ∧
      (p.resp ∉ [rOK, rBUSY, rHELD, rHOLE, rRESET, rCRC] → ∃ v : State, exec (.nak k p) s = .next (v.finishRtx k r p.resp) ∧
        u.onlyCore k v ∧ again v r r.attempts)) ∧
    (∀ pl sq r, c.rtxOf pl sq = some r →
      (r.held = true → exec (.resendTimeout k (.packet pl sq)) s = .next s) ∧
      (r.held = false → c.net.fenced = false → r.attempts < 3 → ∃ v,
        exec (.resendTimeout k (.packet pl sq)) s = .next (v.resendFrom k r.pkt r.ord) ∧ s.onlyCore k v ∧
        again v r (r.attempts + 1)) ∧
      (r.held = false → c.net.fenced = false → 3 ≤ r.attempts → ∃ v,
        exec (.resendTimeout k (.packet pl sq)) s = .next (v.finishRtx k r rTIMEOUT) ∧ s.onlyCore k v ∧
        again v r r.attempts) ∧
      (r.held = false → c.net.fenced = true → ∃ v,
        exec (.resendTimeout k (.packet pl sq)) s = .next ((v.holdSent k r.pkt r.ord).fenceCheck k) ∧ s.onlyCore k v ∧
        again v r r.attempts) ∧
      (r.gap = true → c.net.fenced = false →
        exec (.busyGapExpiry k (.packet pl sq)) s = .next (s.resendFrom k r.pkt r.ord)) ∧
      (r.gap = false → exec (.busyGapExpiry k (.packet pl sq)) s = .next s)) ∧
    (∀ key pl ord, (∀ x ∈ s.flowFrom k key pl ord, ord ≤ x.1 ∧ x.2.plane = pl ∧ s.destKey x.2.dest = key) ∧
      (s.flowFrom k key pl ord).Pairwise fun a b => a.1 ≤ b.1) ∧
    (∀ a o t i, p.type = tRD_RESP → seen → p.resp = rOK → c.readOf p.tag = some (a, o) → (c.acc_ a).cur = some t →
      (sDesc t.op).opc = 1 → o.header = none → o.slots = [i] → p.payload.length = 64 → c.clean →
      let w := c.landW a
      0 < winSize w →
      ∃ v : State, exec (.rdResp k p) s = .next (v.goOn k) ∧ u.onlyCore k v ∧
        wrote c.sram (v.core k).sram (winBase w + 64 * (i % winSize w)) p.payload ∧
        ((v.core k).acc_ a).outs = (c.acc_ a).outs.filter (fun y => y.ord != o.ord) ∧
        ((v.core k).acc_ a).cur = some t ∧
        (i = (c.acc_ a).ready → i < ((v.core k).acc_ a).ready) ∧
        (i ≠ (c.acc_ a).ready → (c.acc_ a).ready ∉ (c.acc_ a).landed →
          ((v.core k).acc_ a).ready = (c.acc_ a).ready ∧ i ∈ ((v.core k).acc_ a).landed)) ∧
    (∀ a o, p.type = tRD_RESP → seen → p.resp ∉ [rOK, rBUSY, rHELD, rHOLE, rRESET, rCRC] →
      c.readOf p.tag = some (a, o) → ∃ v : State, exec (.rdResp k p) s = .next (v.failRead k a o p.resp) ∧ u.onlyCore k v) ∧
    (∀ i a, c.net.acks[i]? = some a →
      ∃ v : State, exec (.ackFlush k i) s = .next (v.answer k c.net.epoch (s.epidOf k) a.engine a.epid a.plane tACK rOK a.base a.mask [])
        ∧ s.onlyCore k v ∧ v.core k = { c with net := { c.net with acks := c.net.acks.erase a } })

/-- R193, R194, R195, R197, R210: a COPY and a CHECK start unless one runs; a finished COPY makes the inactive version the
active one's copy; a CHECK shows match or the first site that differs; a flip asked for while none is under way starts with
its CHECK, or with the fence, or completes INTEGRITY; settling ends; the cupola leads a version around what is lost; and a
core without progress faults its region. -/
def Obligations.VersionsAndFlips : Prop :=
  ∀ s : State,
    let busy := s.flipBusy
    (s.gated 0x200010 = false →
      (s.fab.staging = 0 → busy = false → ∃ t : State, exec .fabCopy s = .next t ∧
        t = { s with regs := t.regs, fab := { s.fab with staging := 1 } } ∧ t.stageResult = 1 ∧ t.epochReg.getLsbD 1 = true) ∧
      (s.fab.staging = 0 → ∃ t : State, exec .fabCheck s = .next t ∧
        t = { s with regs := t.regs, fab := { s.fab with staging := 2 } } ∧ t.stageResult = 2 ∧ t.epochReg.getLsbD 1 = true) ∧
      (s.fab.staging ≠ 0 → exec .fabCopy s = .next s ∧ exec .fabCheck s = .next s) ∧
      (busy = true → exec .fabCopy s = .next s)) ∧
    (s.fab.staging = 1 → s.fab.waiting = [] → ∃ t : State, exec .fabCopyDone s = .next t ∧
      t = { s with regs := t.regs, fab := t.fab, routers := t.routers } ∧ t.fab.staging = 0 ∧
      t.epochReg.getLsbD 1 = false ∧ t.stageResult = 0 ∧
      (∀ b, b < 6144 → t.fab.core (!s.curVer) b = s.fab.core s.curVer b ∧ t.fab.core s.curVer b = s.fab.core s.curVer b) ∧
      (∀ i, i < 66 → t.fab.endpoint (!s.curVer) i = s.fab.endpoint s.curVer i) ∧
      (∀ g, g < 16384 → t.fab.groupRoot (!s.curVer) g = s.fab.groupRoot s.curVer g)) ∧
    (∀ bad, s.fab.staging = 2 → s.fab.flip = none → s.fab.waiting = [] → s.stageResult = 2 → bad.length < 2 ^ 20 →
      ∃ t : State, exec (.fabCheckDone bad) s = .next t ∧ t = { s with regs := t.regs, fab := { s.fab with staging := 0 } } ∧
        t.stageResult = (if bad = [] then 3 else 4) ∧ t.epochReg.getLsbD 1 = false ∧
        wfld (t.bar 0x200014) 4 20 = bad.length ∧
        (∀ k rest, bad = k :: rest → t.bar 0x200018 = BitVec.ofNat 32 (2 ^ 31 + siteX k + (siteY k <<< 10)))) ∧
    (∀ (r : Fin 256) j d, s.startedAt r j = some d → d.f 0 1 = 0x12 → d.busy = false →
      let f : Flip := { req := some (r.val, d.uid), why := .host, check := d.bits 8 0 1 == 1 }
      (s.gate 3 = false → exec (.epochFlip r j) s = .next (s.complete (r.val, d.uid) stGATED)) ∧
      (s.gate 3 = true → busy = true → ∃ t : State, exec (.epochFlip r j) s = .next t ∧
        t = { s with host := t.host, fab := { s.fab with waiting := s.fab.waiting ++ [f] } }) ∧
      (s.gate 3 = true → busy = false → s.fab.waiting = [] → s.fab.staging = 0 → f.check = true →
        ∃ t : State, exec (.epochFlip r j) s = .next t ∧
          t = { s with host := t.host, regs := t.regs, fab := { s.fab with flip := some f, staging := 2 } } ∧
          t.stageResult = 2) ∧
      (s.gate 3 = true → busy = false → s.fab.waiting = [] → f.check = false → s.stageResult ≠ 3 →
        ∃ v : State, exec (.epochFlip r j) s = .next (v.complete (r.val, d.uid) stINTEGRITY) ∧
          v = { s with host := v.host }) ∧
      (∀ root, s.gate 3 = true → busy = false → s.fab.waiting = [] → f.check = false → s.stageResult = 3 →
        s.firstSite = some root →
        ∃ t : State, exec (.epochFlip r j) s = .next t ∧ t.fab.flip = some f ∧ t.fab.treeRoot = root ∧
          t.epochReg.getLsbD 2 = true ∧ t.curVer = s.curVer ∧
          t.fab.flights = s.fab.flights ++ [flightC root .loc false (mkC 6 0 (!s.curVer) 0 0 0 0)])) ∧
    (s.epochReg.getLsbD 3 = true → s.fab.waiting = [] → ∃ t : State, exec .settleEnd s = .next t ∧ s.onlyRegs t ∧
      t.epochReg.getLsbD 3 = false ∧ ∀ o, o ≠ 0x200004 → t.bar o = s.bar o) ∧
    (s.epochReg.getLsbD 4 = true → busy = false → s.fab.staging = 0 →
      ∃ t : State, exec (.cupolaRestage false) s = .next t ∧ t.curVer = s.curVer ∧ t.stageResult = 4 ∧
        t.fab.holesOf (!s.curVer) = s.offAreas ∧ t.fab.holesOf s.curVer = s.fab.holesOf s.curVer) ∧
    (∀ k : SiteId, let c := s.core k
      let w := c.reg 0x100504
      c.rgnId ≠ 0 → (s.region c.rgnId).live = true → w.getLsbD 31 = true → c.isDone = false → s.fenced k = false →
        c.net.heldDest = [] → (∀ r ∈ c.net.rtx, r.held = false) → c.net.fenced = false →
        ∃ v : State, exec (.stallDetect k) s = .next (v.regionFault k 5 0) ∧ s.onlyCore k v ∧
          v.core k = { c with net := { c.net with stall := 2 ^ max 10 (wfld w 0 5) } } ∧
          ((v.regionFault k 5 0).region c.rgnId).st = 6 ∧
          (((v.regionFault k 5 0).region c.rgnId).fault.map fun f => f.cause) = some 5)

/-! ### Regions -/

/-- R230, R231, R237, R242: REGION_START seals the region where its image asks and arms RGN_LAUNCH in every core 2^22
cycles ahead; a core armed too late makes the margin double, and beyond 2^26 the start times out; an armed core begins at
its START_CTX in its cycle, at once in a routed region. REGION_DRAIN closes the input channels and sets DRAIN_FLAG in every
core, in a scheduled region by the arm of RGN_DRAIN_AT. A blocked generation is free again after its time. -/
def Obligations.RegionLaunch : Prop :=
  ∀ s : State,
    (∀ (r : Fin 256) j d, s.begun r j 5 d →
      let id := d.f 8 2
      let x := s.region id
      let at_ := s.clk.gcc.toNat + 2 ^ 22
      (s.ready = false ∨ x.st ≠ 1 → exec (.regionStart r j) s = .next (s.complete (r.val, d.uid) stNOTREADY)) ∧
      (s.ready = true → x.st = 1 → x.startReq ≠ none →
        exec (.regionStart r j) s = .next (s.complete (r.val, d.uid) stBUSY)) ∧
      (s.ready = true → x.st = 1 → x.startReq = none → s.placed x = false →
        exec (.regionStart r j) s = .next (s.complete (r.val, d.uid) stSTALE)) ∧
      (s.ready = true → x.st = 1 → x.startReq = none → s.placed x = true → at_ < 2 ^ 64 →
        ∃ t : State, exec (.regionStart r j) s = .next t ∧ s.onlyRegion t ∧ t.host = (s.setBusy (r.val, d.uid)).host ∧
          t.region id = { x with startReq := some (r.val, d.uid), sealed := x.sealBit, marginLog := 22 } ∧
          (∀ i, i ≠ id → t.region i = s.region i) ∧
          (∀ e ∈ s.regionCores id, (t.core e.2).launchAt = at_ ∧ (t.core e.2).launch = true ∧
            ((t.core e.2).reg 0x100608).getLsbD 6 = false ∧ (t.core e.2).seqr = (s.core e.2).seqr) ∧
          ∀ k, (∀ e ∈ s.regionCores id, e.2 ≠ k) → t.core k = s.core k)) ∧
    (∀ (k : SiteId) (v : Word),
      let c := s.core k
      let x := s.region c.rgnId
      let at_ := (c.reg 0x100610).toNat + (v.toNat <<< 32)
      (s.clk.gcc.toNat ≤ at_ → ∃ t : State, exec (.rgnLaunchArm k v) s = .next t ∧ s.onlyCore k t ∧
        t.core k = { c with regs := (t.core k).regs, launch := true } ∧ (t.core k).launchAt = at_ ∧
        ((t.core k).reg 0x100608).getLsbD 6 = false) ∧
      (at_ < s.clk.gcc.toNat → x.startReq = none ∨ x.st ≠ 1 → ∃ t : State, exec (.rgnLaunchArm k v) s = .next t ∧
        s.onlyCore k t ∧ t.core k = { c with regs := (t.core k).regs, launch := false } ∧
        ((t.core k).reg 0x100608).getLsbD 6 = true) ∧
      (∀ q, at_ < s.clk.gcc.toNat → x.startReq = some q → x.st = 1 → x.marginLog < 26 →
        s.clk.gcc.toNat + 2 ^ (x.marginLog + 1) < 2 ^ 64 → ∃ t : State, exec (.rgnLaunchArm k v) s = .next t ∧ s.onlyRegion t ∧
        t.region c.rgnId = { x with marginLog := x.marginLog + 1 } ∧
        ∀ e ∈ s.regionCores c.rgnId, (t.core e.2).launchAt = s.clk.gcc.toNat + 2 ^ (x.marginLog + 1) ∧
          (t.core e.2).launch = true) ∧
      (∀ q, at_ < s.clk.gcc.toNat → x.startReq = some q → x.st = 1 → 26 ≤ x.marginLog →
        ∃ v', exec (.rgnLaunchArm k v) s = .next (v'.complete q stTIMEOUT) ∧ s.onlyRegion v' ∧ v'.host = s.host ∧
          v'.region c.rgnId = { x with startReq := none, sealed := false } ∧
          ∀ e ∈ s.regionCores c.rgnId, (v'.core e.2).launch = false)) ∧
    (∀ k : SiteId,
      let c := s.core k
      let x := s.region c.rgnId
      let n := wfld (c.reg 0x100004) 0 3
      (c.launch = true → (x.sched = true → c.launchAt = s.clk.gcc.toNat) → (x.st = 1 ∧ x.startReq ≠ none) ∨ x.live = true →
        (c.ctxAt n).st = 1 → (c.ctxAt n).bwait = false →
        ∃ t : State, exec (.regionLaunch k) s = .next t ∧ s.onlyRegion t ∧ t.host = s.host ∧
          t.region c.rgnId = { x with st := if x.st = 1 then 2 else x.st } ∧ (∀ i, i ≠ c.rgnId → t.region i = s.region i) ∧
          (∀ j, j ≠ k → t.core j = s.core j) ∧ (t.core k).launch = false ∧ (t.core k).launched = true ∧
          (t.core k).seqr.run = true ∧ (t.core k).seqr.cur.toNat = n ∧ (t.core k).seqr.wait = .none ∧
          (t.core k).ctxAt n = { c.ctxAt n with st := 2 } ∧ (t.core k).swPos = wfld (c.reg 0x100640) 0 10 ∧
          (t.core k).sram = c.sram) ∧
      (c.launch = false ∨ (x.sched = true ∧ c.launchAt ≠ s.clk.gcc.toNat) → exec (.regionLaunch k) s = .next s) ∧
      (∀ v : Word, ∃ t : State, exec (.rgnDrainAtArm k v) s = .next t ∧ s.onlyCore k t ∧
        t.core k = { c with regs := (t.core k).regs, drainArm := true } ∧
        (t.core k).drainAt = (c.reg 0x100618).toNat + (v.toNat <<< 32)) ∧
      (c.drainArm = true → c.drainAt = s.clk.gcc.toNat → ∃ t : State, exec (.drainFlagCycle k) s = .next t ∧ s.onlyCore k t ∧
        t.core k = { c with drainArm := false, seqr := { c.seqr with
          flags := c.seqr.flags ||| 1 <<< wfld (c.reg 0x100648) 0 4 } }) ∧
      (c.drainArm = false ∨ c.drainAt ≠ s.clk.gcc.toNat → exec (.drainFlagCycle k) s = .next s)) ∧
    (∀ (r : Fin 256) j d, s.begun r j 7 d →
      let id := d.f 8 2
      let x := s.region id
      let at_ := s.clk.gcc.toNat + 2 ^ 22
      (s.ready = false ∨ x.st ≠ 2 ∨ x.scanReq ≠ none →
        exec (.regionDrain r j) s = .next (s.complete (r.val, d.uid) stNOTREADY)) ∧
      (s.ready = true → x.st = 2 → x.scanReq = none → at_ < 2 ^ 64 →
        ∃ t : State, exec (.regionDrain r j) s = .next t ∧ s.onlyRegion t ∧ t.host = (s.setBusy (r.val, d.uid)).host ∧
          t.region id = { x with st := 3, drainReq := some (r.val, d.uid) } ∧
          (∀ e ∈ s.regionCores id, let c := s.core e.2
            (∀ n, n < 64 → (t.core e.2).chState n =
              if c.chState n ≠ 0 ∧ c.chSend n = false ∧ (c.ch n 0).getLsbD 4 = true then 0 else c.chState n) ∧
            (x.sched = true → (t.core e.2).drainArm = true ∧ (t.core e.2).drainAt = at_ ∧
              (t.core e.2).seqr.flags = c.seqr.flags) ∧
            (x.sched = false → (t.core e.2).seqr.flags = c.seqr.flags ||| 1 <<< x.drainFlag.toNat)) ∧
          ∀ k, (∀ e ∈ s.regionCores id, e.2 ≠ k) → t.core k = s.core k)) ∧
    (∀ g : Fin 8, ∃ t : State, exec (.genBlockExpiry g) s = .next t ∧
      t = { s with rgns := { s.rgns with blocked := t.rgns.blocked } } ∧
      ∀ i, i < 8 → t.rgns.blocked.getLsbD i = (s.rgns.blocked.getLsbD i && decide (i ≠ g.val)))

/-- R215, R236, R238, R239: REGION_STOP sends HALT down the region's tree and completes once every core has halted; on a
region that has ended it completes OK, on one that has not begun NOT_READY. REGION_SCAN_OUT sends HALT too; a core that is
not quiet in time has its engines stopped, and its record is marked. REGION_SCAN_IN writes the records back, a RUNNING
context as READY and the recorded context as START_CTX; records that do not fit the region reset it. -/
def Obligations.RegionHaltAndScan : Prop :=
  ∀ s : State,
    let halted (x : Region) (id : Nat) (t : State) : Prop :=
      let g := s.fab.groupRoot s.curVer x.haltGroup.toNat
      t.fab.flights = s.fab.flights ++ (if g.getLsbD 31 = true then
        [flightC (mkSite (wfld g 0 10) (wfld g 10 9)) .loc false (mkC 4 x.gen.toNat s.curVer 0 0 id 0)] else [])
    (∀ (r : Fin 256) j d, s.begun r j 6 d →
      let id := d.f 8 2
      let x := s.region id
      (s.ready = false ∨ x.st ≤ 1 → exec (.regionStop r j) s = .next (s.complete (r.val, d.uid) stNOTREADY)) ∧
      (s.ready = true → 4 ≤ x.st → exec (.regionStop r j) s = .next (s.complete (r.val, d.uid) stOK)) ∧
      (s.ready = true → x.live = true → x.stopReq = none → x.scanReq = none →
        (∃ e ∈ s.regionCores id, (s.core e.2).halted = false) → ∃ t : State, exec (.regionStop r j) s = .next t ∧
          t = { s with rgns := t.rgns, host := t.host, fab := { s.fab with flights := t.fab.flights } } ∧
          t.host = (s.setBusy (r.val, d.uid)).host ∧ halted x id t ∧
          t.region id = { x with stopReq := some (r.val, d.uid), late := [] } ∧ ∀ i, i ≠ id → t.region i = s.region i) ∧
      (s.ready = true → x.live = true → x.stopReq = none → x.scanReq = none → x.startReq = none → x.drainReq = none →
        (∀ e ∈ s.regionCores id, (s.core e.2).halted = true) →
        ∃ v : State, exec (.regionStop r j) s = .next (v.complete (r.val, d.uid) stOK) ∧
          v = { s with rgns := v.rgns, host := v.host, fab := { s.fab with flights := v.fab.flights } } ∧ halted x id v ∧
          (v.region id).st = 5 ∧ (v.region id).sealed = false ∧ v.rgns.blocked.getLsbD x.gen.toNat = true)) ∧
    (∀ (r : Fin 256) j d, s.begun r j 8 d →
      let id := d.f 8 2
      let x := s.region id
      (x.conf = true → x.sched = true → exec (.regionScanOut r j) s = .next (s.complete (r.val, d.uid) stDENIED)) ∧
      (x.sched = false → s.ready = false ∨ x.st ≠ 2 →
        exec (.regionScanOut r j) s = .next (s.complete (r.val, d.uid) stNOTREADY)) ∧
      (s.ready = true → x.sched = false → x.st = 2 → x.stopReq = none → x.scanReq = none →
        ∃ t : State, exec (.regionScanOut r j) s = .next t ∧
          t = { s with rgns := t.rgns, host := t.host, fab := { s.fab with flights := t.fab.flights } } ∧
          t.host = (s.setBusy (r.val, d.uid)).host ∧ halted x id t ∧
          t.region id = { x with scanReq := some (r.val, d.uid, BitVec.ofNat 64 (d.f 0x10 8)), late := [] })) ∧
    (∀ k : SiteId,
      let c := s.core k
      let x := s.region c.rgnId
      (x.scanReq = none ∨ x.live = false ∨ c.quiet = true ∨ k ∈ x.late → exec (.scanQuiesceTimeout k) s = .next s) ∧
      (x.scanReq ≠ none → x.live = true → c.quiet = false → k ∉ x.late →
        ∃ v : State, exec (.scanQuiesceTimeout k) s = .next (v.scanCheck c.rgnId) ∧ s.onlyRegion v ∧ v.host = s.host ∧
          v.region c.rgnId = { x with late := x.late ++ [k] } ∧ (∀ j, j ≠ k → v.core j = s.core j) ∧
          (v.core k).seqr.run = false ∧ (∀ e, e < 5 → (v.core k).engineIdle e = true) ∧ (v.core k).sram = c.sram ∧
          ((∃ e ∈ v.regionCores c.rgnId, e.2 ∉ x.late ++ [k] ∧ (v.core e.2).quiet = false) →
            v.scanCheck c.rgnId = v))) ∧
    (∀ (c : Core) e q, leAt (c.record e q).2 0 4 = e % 2 ^ 32 ∧ leAt (c.record e q).2 4 4 = c.rgnId ∧
      leAt (c.record e q).2 0xC 4 = 1 ∧ leAt (c.record e q).2 0x10 4 = q.toNat) ∧
    (∀ (r : Fin 256) j d, s.begun r j 9 d →
      let id := d.f 8 2
      let x := s.region id
      let n := (s.regionCores id).length
      (s.ready = false ∨ x.st ≠ 1 ∨ x.startReq ≠ none →
        exec (.regionScanIn r j) s = .next (s.complete (r.val, d.uid) stNOTREADY)) ∧
      (∀ v b, s.ready = true → x.st = 1 → x.startReq = none →
        s.fabRead entCupola (BitVec.ofNat 64 (d.f 0x10 8)) (recordLen * n) = (v, rOK, b) →
        (∀ i, i < n → leAt b (recordLen * i + 0xC) 4 = 1 ∧ recordLen * (i + 1) ≤ b.length) →
        ((∃ i e, (s.regionCores id)[i]? = some e ∧
            (leAt b (recordLen * i) 4 ≠ e.1 ∨ leAt b (recordLen * i + 0x10) 4 ≠ 1)) →
          ∃ u : State, exec (.regionScanIn r j) s = .next (u.complete (r.val, d.uid) stINTEGRITY) ∧ u.rgns = v.rgns ∧
            ∀ e ∈ s.regionCores id, (u.core e.2).seqr.run = false ∧ (u.core e.2).eng = [] ∧ (u.core e.2).tokq = [] ∧
              ∀ i, i < 8 → ((u.core e.2).ctxAt i).st = 0) ∧
        ((∀ i e, (s.regionCores id)[i]? = some e →
            leAt b (recordLen * i) 4 = e.1 ∧ leAt b (recordLen * i + 0x10) 4 = 1) →
          ((s.regionCores id).map (·.2)).Nodup →
          ∃ u : State, exec (.regionScanIn r j) s = .next (u.complete (r.val, d.uid) stOK) ∧ v.onlyRegion u ∧ u.rgns = v.rgns ∧
            u.host = v.host ∧ ∀ i e, (s.regionCores id)[i]? = some e →
              u.core e.2 = (v.core e.2).restore (slice b (recordLen * i) recordLen)))) ∧
    (∀ (c : Core) (b : List Byte), let u := c.restore b
      (∀ i, i < 8 → let st := fld (leAt b (0x100 + 0x100 * i) 4) 12 2
        (u.ctxAt i).st.toNat = (if st = 2 then 1 else st) ∧
        (u.ctxAt i).pc.toNat = fld (leAt b (0x100 + 0x100 * i) 4) 0 12) ∧
      wfld (u.reg 0x100004) 0 3 = fld (leAt b 0x44 4) 0 3 ∧ u.seqr.flags.toNat = fld (leAt b 0x48 4) 0 16)

/-- R172, R208, R209, R226, R227, R228, R285: while its region runs, the switch store of a scheduled core goes from entry to
entry, LOOP after END; an output the word feeds from an input takes its flit, and the local one writes it to the eject
window at the next place. A flit or chain word is decoded codeword by codeword, and an uncorrectable one raises LINK. A
word of a chain lands in A1's window for a chained tensor unit, or is folded into the running sum of the chain combiner. -/
def Obligations.SwitchesAndChains : Prop :=
  (∀ w : BitVec 576,
    (∀ i, i < 4 → eccDecode (fld w.toNat (128 * i) 128) (BitVec.ofNat 16 (fld w.toNat (512 + 16 * i) 16)) = .clean) →
      flitDecode w.toNat vWords = some (w.toNat % 2 ^ 512, 0)) ∧
  (∀ w : BitVec 576, eccDecode (fld w.toNat 0 64) (BitVec.ofNat 16 (fld w.toNat 512 16)) = .clean →
      flitDecode w.toNat sWords = some (w.toNat % 2 ^ 64, 0)) ∧
  ∀ (s : State) (k : SiteId),
    let c := s.core k
    (s.switching k = true → ∃ t : State, exec (.switchWordAdvance k) s = .next t ∧ s.onlyCore k t ∧ t.core k =
      { c with swPos := if c.swPos = wfld (c.reg 0x100640) 20 10 then wfld (c.reg 0x100640) 10 10
                        else (c.swPos + 1) % 1024 }) ∧
    (s.switching k = false → exec (.switchWordAdvance k) s = .next s) ∧
    (∀ (sPlane : Bool) (w : BitVec 576),
      let n := if sPlane then 8 else 64
      let win (i : Nat) : Word := c.win (wfld (c.reg 0x10063C) (schField i) 4)
      let place (i : Nat) : Nat := winBase (win i) + Tbl.get 0 c.schPos i % (64 * winSize (win i))
      let past (i : Nat) : Nat := (Tbl.get 0 c.schPos i + n) % (64 * winSize (win i))
      let inp := if sPlane then 1 else 0
      let out := if sPlane then 3 else 2
      (s.switching k = false ∨ (c.reg 0x10063C).getLsbD sPlane.toNat = false →
        ∀ d, exec (.scheduledFlit k sPlane d w) s = .next s) ∧
      (s.switching k = true → (c.reg 0x10063C).getLsbD sPlane.toNat = true →
        (∀ d, flitDecode w.toNat (if sPlane then sWords else vWords) = none →
          exec (.scheduledFlit k sPlane (some d) w) s =
            .next ((s.modCore k fun c => c.bump 0x100534 1).regionFault k 7 0)) ∧
        (∀ d x ce, flitDecode w.toNat (if sPlane then sWords else vWords) = some (x, ce) → c.clean →
          ∃ t : State, exec (.scheduledFlit k sPlane (some d) w) s = .next t ∧ s.coreNoted k t ∧ (t.core k).seqr = c.seqr ∧
            ((t.core k).reg 0x100530).toNat = min 0xFFFFFFFF ((c.reg 0x100530).toNat + ce) ∧
            ((c.feeds sPlane (1 + Dir.num d)).2 = true → winValid (win out) = true →
              wrote c.sram (t.core k).sram (place out) (leBytes n x) ∧ Tbl.get 0 (t.core k).schPos out = past out ∧
              ∀ i, i ≠ out → Tbl.get 0 (t.core k).schPos i = Tbl.get 0 c.schPos i) ∧
            ((c.feeds sPlane (1 + Dir.num d)).2 = false →
              (t.core k).sram = c.sram ∧ (t.core k).schPos = c.schPos)) ∧
        ((c.feeds sPlane 5).1 = true → winValid (win inp) = true → c.clean →
          ∃ t : State, exec (.scheduledFlit k sPlane none w) s = .next t ∧ s.onlyCore k t ∧
            Tbl.get 0 (t.core k).schPos inp = past inp ∧ (t.core k).seqr = c.seqr ∧
            ((c.feeds sPlane 5).2 = true → winValid (win out) = true → Tbl.get 0 (t.core k).schPos out = past out ∧
              wrote c.sram (t.core k).sram (place out) (memReads c.sram.data (place inp) n)) ∧
            ((c.feeds sPlane 5).2 = false → (t.core k).sram = c.sram)) ∧
        ((c.feeds sPlane 5).1 = false → exec (.scheduledFlit k sPlane none w) s = .next s))) ∧
    (∀ (d : Dir) (w : BitVec 576),
      (c.rgnId = 0 ∨ Dir.num d ∉ c.taps 0 → exec (.bypassChainWord k d w) s = .next s) ∧
      (c.rgnId ≠ 0 → Dir.num d ∈ c.taps 0 → flitDecode w.toNat vWords = none →
        exec (.bypassChainWord k d w) s = .next ((s.modCore k fun c => c.bump 0x100534 1).regionFault k 7 0)) ∧
      (∀ x, c.rgnId ≠ 0 → Dir.num d ∈ c.taps 0 → flitDecode w.toNat vWords = some (x, 0) → c.clean →
        ((c.reg 0x100644).getLsbD 8 = true → (s.region c.rgnId).sched = true → c.engineIdle 3 = true →
          (c.acc_ 1).cur = none → c.landOk 1 = true → c.credits 1 ≠ 0 →
          let a := (c.acc_ 1).sent
          ∃ v : State, exec (.bypassChainWord k d w) s = .next (v.pump k) ∧ s.onlyCore k v ∧
            wrote c.sram (v.core k).sram (winBase (c.landW 1) + 64 * (a % winSize (c.landW 1))) (leBytes 64 x) ∧
            ((v.core k).acc_ 1).sent = a + 1 ∧ ((v.core k).acc_ 1).cur = none) ∧
        (∀ m i, (c.reg 0x100644).getLsbD 8 = false →
          ((List.range 8).find? fun m => c.cbState m == 1 && wbit (c.cb m 0) 5) = some m → c.cbUp m = true →
          c.chainOwn m = some i → (c.cb64 m 0x18).getLsbD i = true → (c.cb64 m 0x10).getLsbD i = false →
          let e := 16 * (c.round m).n
          let own := (c.cb m 0x24).toNat + (i % c.cbSlots m) * 4 * c.cbLen m + 4 * e
          let sum := (List.range 16).map fun q => fadd (BitVec.ofNat 32 (fld x (32 * q) 32))
            (BitVec.ofNat 32 (leNat (memReads c.sram.data (own + 4 * q) 4)))
          ∃ v : State, exec (.bypassChainWord k d w) s = .next (if e + 16 < c.cbLen m then v else v.chainEnd k m) ∧
            s.onlyCore k v ∧ wrote c.sram (v.core k).sram ((c.cb m 0x20).toNat + 4 * e) (sum.flatMap fun y => leBytes 4 y.toNat) ∧
            (v.core k).round m = { c.round m with n := (c.round m).n + 1 } ∧ (v.core k).seqr = c.seqr) ∧
        ((c.reg 0x100644).getLsbD 8 = false → (∀ m, m < 8 → c.cbState m ≠ 1 ∨ (c.cb m 0).getLsbD 5 = false) →
          ∃ t : State, exec (.bypassChainWord k d w) s = .next t ∧ s.onlyCore k t ∧ t.core k = c)))

/-- R221, R222, R240, R242, R332: a load that is not ready, whose image cannot be read, or whose image a check refuses
completes with that status and DETAIL and changes nothing else; an accepted one configures the cores of its region, each
context with the next generation, and is LOADED, or waits for the flip of its exception entries. RECONF 1 drains what it
takes the place of first, and goes on when all of it has run empty. -/
def Obligations.ImageLoads : Prop :=
  ∀ s : State,
    (∀ (r : Fin 256) j d, s.begun r j 4 d →
      let req := (r.val, d.uid)
      let reconf := d.bits 0x18 0 2
      (s.ready = false → ∀ h, exec (.loadImage r j h) s = .next (s.complete req stNOTREADY)) ∧
      (s.ready = true → ∀ (b : List Byte) code,
        exec (.loadImage r j (.failed b code)) s = .next (s.complete req stWINDOW code.toNat)) ∧
      (∀ b, s.ready = true → b.length = d.f 0x10 8 →
        (∀ e, s.checkImage b reconf = .inr e →
          exec (.loadImage r j (.data b)) s = .next (s.complete req e.1 (e.2 <<< 8))) ∧
        (∀ im, s.checkImage b reconf = .inl im → (∀ x ∈ s.imageDomes im, s.domeState x = 0) →
          (reconf ≠ 1 ∨ s.replaced im = [] → exec (.loadImage r j (.data b)) s = .next (s.loadNow req im)) ∧
          (∀ id, reconf = 1 → s.replaced im = [id] → (s.region id).st ≠ 2 →
            ∃ t : State, exec (.loadImage r j (.data b)) s = .next t ∧ s.onlyRegion t ∧ t.host = (s.setBusy req).host ∧
              t.cores = s.cores ∧ t.region id = { s.region id with reload := some (req.1, req.2, b) }) ∧
          (∀ id, reconf = 1 → s.replaced im = [id] → (s.region id).st = 2 →
            ∃ v : State, exec (.loadImage r j (.data b)) s = .next (v.beginDrain id none) ∧ v.cores = s.cores ∧
              v.region id = { s.region id with reload := some (req.1, req.2, b) })))) ∧
    (∀ req im i id r, im.regions = [(i, r)] → im.ids = [id] → s.replaced im = [] →
      let v := (s.setBusy req).abortXchk ((s.namedCores r).map fun e => siteArea e.2).eraseDups
      (∀ e, v.loadRegion im (0, id, r) = .inr e → s.loadNow req im = (v.unload im).complete req e.1 e.2) ∧
      (∀ u, v.loadRegion im (0, id, r) = .inl u →
        (∀ g, v.rgns.nextGen = some g → u.rgns.gen = g + 1 ∧ (u.region id).gen = g ∧ (u.region id).st = r.st ∧
          ∀ e ∈ v.namedCores r, ∀ n, n < 8 → ((u.core e.2).ctxAt n).gen = g) ∧
        ((u.region id).routes = [] → s.loadNow req im = (((u.setRegion id { u.region id with st := 1 }).noteImage
          im.mark).complete req stOK 0 1)) ∧
        ((u.region id).routes ≠ [] → s.loadNow req im = u.askFlip
          { req := some req, why := .load [id] im.mark, check := true }))) ∧
    (∀ g i, s.rgns.nextGen = some g → i < (g - s.rgns.gen).toNat →
      s.rgns.blocked.getLsbD ((s.rgns.gen.toNat + i) % 8) = true) ∧
    (∀ g, s.rgns.nextGen = some g → s.rgns.blocked.getLsbD g.toNat = false) ∧
    (s.rgns.nextGen = none ↔ s.rgns.blocked = 255) ∧
    (∀ (w : BitVec 16),
      let rgn := w.toNat
      let x := s.region rgn
      let v := s.setRegion rgn { x with reload := none }
      (x.reload = none ∨ x.live = true ∨ s.runEmpty rgn = false → exec (.reconfDrainWaitEnd w) s = .next s) ∧
      (∀ q u b, x.reload = some (q, u, b) → x.live = false → s.runEmpty rgn = true → (s.descOf (q, u)).isSome = true →
        (∀ y ∈ v.rgns.tbl, ∀ z, y.2.reload = some z → (z.1, z.2.1) ≠ (q, u)) →
        exec (.reconfDrainWaitEnd w) s = .next (match v.checkImage b 1 with
          | .inr e => v.complete (q, u) e.1 (e.2 <<< 8)
          | .inl im => v.loadNow (q, u) im)) ∧
      (∀ q u b y z, x.reload = some (q, u, b) → x.live = false → s.runEmpty rgn = true → y ∈ v.rgns.tbl →
        y.2.reload = some z → (z.1, z.2.1) = (q, u) → exec (.reconfDrainWaitEnd w) s = .next v))

/-! ### The send engine -/

/-- R267, R269, R271, R272, R273, R277, R278, R279, R281, R291: what each operation of the send engine is about to inject
and what it does to its channel. A SEND of a record that would cross the end of the ring is preceded by a pad; it waits for
its credits; on a channel that is not OPEN it sends nothing. SIGNAL, PUT and CONTRIB send their bytes, RELEASE returns ring
space, CH_OPEN takes the template and CH_CLOSE closes. -/
def Obligations.SendEngine : Prop :=
  ∀ (s : State) (k : SiteId) (o : Op),
    let c := s.core k
    let d := eDesc o
    let n := (8 + d.len + 63) / 64
    let size := wfld (c.ch d.ch 0x10) 0 11
    let pos := (c.ch d.ch 0x1C).toNat % size
    let pad := if pos + n > size then size - pos else 0
    let wr := c.ch d.ch 0x1C + BitVec.ofNat 32 (pad + n)
    let msgs := wfld (c.ch d.ch 0x24) 0 16
    let credit := pad + n + (c.ch d.ch 0x1C - c.ch d.ch 0x20).toNat ≤ size
    let body := memReads c.sram.data d.src d.len
    let peerCh := wfld (c.ch d.ch 4) 0 6
    let sent : List Packet :=
      (if pad = 0 then [] else s.landPackets k o d.ch (64 * pos) (recordHeader 0 true 0 0 pad)) ++
      s.landPackets k o d.ch (if pad = 0 then 64 * pos else 0) (recordHeader d.len false d.user msgs n ++ body) ++
      [s.toSend k o (c.chPlane d.ch) (c.chPeer d.ch + BitVec.ofNat 64 (c.ch d.ch 0x14).toNat) tLAND (peerCh + 64)
        (leBytes 4 ((((msgs + 1) % 65536) <<< 16) + wr.toNat % size))]
    let after := (c.setChan (64 * d.ch + 0x1C) wr).setChan (64 * d.ch + 0x24) (BitVec.ofNat 32 ((msgs + 1) % 65536))
    let stopped (i : Instr) : Prop := exec i s = .next (s.engineFault k 4 2 0 o.off)
    (SendHead s k 1 o →
      (c.chSend d.ch = false → stopped (.send k)) ∧
      (c.chSend d.ch = true → c.chState d.ch ≠ 1 → ∃ v : State, exec (.send k) s = .next (v.sendOn k) ∧ s.coreNoted k v ∧
        v.core k = ((c.pend o.ctx.toNat 0).bump 0x100D10 1).startSend o) ∧
      (c.chSend d.ch = true → c.chState d.ch = 1 → size < n → stopped (.send k)) ∧
      (c.chSend d.ch = true → c.chState d.ch = 1 → n ≤ size → ¬credit → ∃ t : State, exec (.send k) s = .next t ∧
        s.onlyCore k t ∧ t.core k = c.startSend { o with waiting := true }) ∧
      (c.chSend d.ch = true → c.chState d.ch = 1 → n ≤ size → credit → c.sramUp d.src d.len = true → c.clean →
        ∃ v : State, exec (.send k) s = .next (v.sendOn k) ∧ s.onlyCore k v ∧
          v.core k = after.startSend { o with left := sent, waiting := false })) ∧
    ((c.engine 4).run.find? (fun x => x.waiting) = some o →
      (c.chState d.ch ≠ 1 → ∃ v : State, exec (.sendCreditResume k) s = .next (v.sendOn k) ∧ s.coreNoted k v ∧
        v.core k = ((c.pend o.ctx.toNat 0).bump 0x100D10 1).mapOp 4 o.seq fun x => { x with waiting := false }) ∧
      (c.chState d.ch = 1 → ¬credit → exec (.sendCreditResume k) s = .next s) ∧
      (c.chState d.ch = 1 → credit → c.sramUp d.src d.len = true → c.clean →
        ∃ v : State, exec (.sendCreditResume k) s = .next (v.sendOn k) ∧ s.onlyCore k v ∧
          v.core k = after.mapOp 4 o.seq fun _ => { o with left := sent, waiting := false })) ∧
    (∀ at_ b, faOff (c.chPeer d.ch) = 0 → (c.ch d.ch 0x18).toNat % 256 = 0 →
      Carries (s.landPackets k o d.ch at_ b) (c.chPlane d.ch) tLAND peerCh
        (c.chPeer d.ch + BitVec.ofNat 64 ((c.ch d.ch 0x18).toNat + at_)) b) ∧
    (∀ b : List Byte, Carries (s.putPackets k o d b) (if d.plane then .s else .v) (if s.isGroup d.dest then tMC_WR else tWR)
      0 d.dest b) ∧
    (SendHead s k 2 o → ∃ v : State, exec (.signal k) s = .next (v.sendOn k) ∧ s.onlyCore k v ∧
      v.core k = c.startSend { o with left := [s.toSend k o (if d.plane then .s else .v) d.dest
        (if s.isGroup d.dest then tMC_WR else tWR) 0 (leBytes 4 d.src)] }) ∧
    (SendHead s k 3 o → c.sramUp d.src d.len = true → c.clean → ∃ v : State, exec (.put k) s = .next (v.sendOn k) ∧
      s.onlyCore k v ∧ v.core k = c.startSend { o with left := s.putPackets k o d body }) ∧
    (SendHead s k 4 o →
      (c.chSend d.ch = true → stopped (.release k)) ∧
      (c.chSend d.ch = false →
        let rd := c.ch d.ch 0x20 + BitVec.ofNat 32 d.len
        ∃ v : State, exec (.release k) s = .next (v.sendOn k) ∧ s.onlyCore k v ∧
          v.core k = (c.setChan (64 * d.ch + 0x20) rd).startSend { o with left := (if c.chState d.ch = 1 then
            [s.toSend k o .s (c.chPeer d.ch + BitVec.ofNat 64 (0x200020 + 64 * peerCh)) tWR 0 (leBytes 4 rd.toNat)]
            else []) })) ∧
    (SendHead s k 5 o → c.sramUp d.src (4 * d.len) = true → c.clean → ∃ v : State, exec (.contrib k) s = .next (v.sendOn k) ∧
      s.onlyCore k v ∧ v.core k = c.startSend { o with left := ((List.range (d.len / 16)).map fun i =>
        s.toSend k o .s (d.dest + BitVec.ofNat 64 (0x310000 + 0x4000 * d.cmb + 64 * i)) tCONTRIB
          (d.idx + (d.round <<< 6)) (memReads c.sram.data (d.src + 64 * i) 64)) }) ∧
    (SendHead s k 6 o →
      let b := memReads c.sram.data d.src 64
      (c.chState d.ch = 1 → stopped (.chOpen k)) ∧
      (c.chState d.ch ≠ 1 → c.sramUp d.src 64 = true → c.clean →
        (c.chTemplateOk b = false → ∃ v : State, exec (.chOpen k) s = .next (v.engineFault k 4 2 0 o.off) ∧ s.onlyCore k v ∧
          v.core k = c) ∧
        (c.chTemplateOk b = true → ∃ v : State, exec (.chOpen k) s = .next (v.sendOn k) ∧ s.onlyCore k v ∧
          v.core k = ({ c with chan := (v.core k).chan } : Core).startSend o ∧
          ∀ i w, i < 64 → w < 16 → (v.core k).ch i (4 * w) = if i = d.ch then
            (if w = 0 then setFld (tw b 0) 0 2 1 else tw b (4 * w)) else c.ch i (4 * w)))) ∧
    (SendHead s k 7 o → ∃ v : State, exec (.chClose k) s = .next (v.sendOn k) ∧ s.onlyCore k v ∧
      v.core k = (c.setChState d.ch 0).startSend o ∧ (v.core k).chState d.ch = 0) ∧
    (∀ i ∈ [(1, Instr.send k), (2, .signal k), (3, .put k), (4, .release k), (5, .contrib k), (6, .chOpen k), (7, .chClose k),
        (8, .cmbArm k), (9, .cmbFail k)], (c.engine 4).queue.head? = some o → d.opc = i.1 →
      (∀ x ∈ (c.engine 4).run, x.left = [] ∧ x.waiting = false) → s.sendOk d = false → stopped i.2)

/-- R224, R280, R283, R284, R293: CMB_ARM takes the template and begins a round; CMB_FAIL and a write to FAILED declare
contributors failed; a round that times out raises CMB_TIMEOUT once and, with AUTO_FAIL, declares those that are missing
failed; a round with nobody awaited completes. A load of TOKQ_POP takes the oldest token. QUEUE_PEEK writes its record
to host memory and changes nothing in the core. -/
def Obligations.CombinersAndQueues : Prop :=
  ∀ (s : State) (k : SiteId),
    let c := s.core k
    (∀ o, SendHead s k 8 o →
      let d := eDesc o
      let b := memReads c.sram.data d.src 64
      (c.cbState d.cmb ≠ 0 → exec (.cmbArm k) s = .next (s.engineFault k 4 2 0 o.off)) ∧
      (c.cbState d.cmb = 0 → c.sramUp d.src 64 = true → c.clean →
        (cmbTemplateOk b = false → ∃ v : State, exec (.cmbArm k) s = .next (v.engineFault k 4 2 0 o.off) ∧ s.onlyCore k v ∧
          v.core k = c) ∧
        (cmbTemplateOk b = true → ∃ v : State, exec (.cmbArm k) s = .next ((v.cmbRun k d.cmb).sendOn k) ∧ s.onlyCore k v ∧
          v.core k = ({ c with cmb := (v.core k).cmb, cmbRound := (v.core k).cmbRound } : Core).startSend o ∧
          (v.core k).round d.cmb = { folded := 0, n := 0, pieces := [], timed := false } ∧
          ∀ i w, i < 8 → w < 16 → (v.core k).cb i (4 * w) = if i = d.cmb then
            (if w = 0 then setFld (tw b 0) 0 2 1 else tw b (4 * w)) else c.cb i (4 * w)))) ∧
    (∀ o, SendHead s k 9 o →
      let d := eDesc o
      ∃ v : State, exec (.cmbFail k) s = .next ((v.cmbRun k d.cmb).sendOn k) ∧ s.onlyCore k v ∧
        v.core k = (c.setCb64 d.cmb 0x10 (c.cb64 d.cmb 0x10 ||| d.dest)).startSend o ∧
        (v.core k).cb64 d.cmb 0x10 = c.cb64 d.cmb 0x10 ||| d.dest) ∧
    (∀ m : Fin 8,
      let w0 := c.cb m 0
      let r := c.round m
      (c.cbState m ≠ 1 ∨ r.timed = true → exec (.cmbRoundTimeout k m) s = .next s) ∧
      (c.cbState m = 1 → r.timed = false → ∃ v : State, exec (.cmbRoundTimeout k m) s = .next (v.cmbRun k m) ∧ s.coreNoted k v ∧
        (v.core k).round m = { r with timed := true } ∧
        ((v.core k).ctxAt (wfld w0 12 3)).pend = (c.ctxAt (wfld w0 12 3)).pend ||| 2 ∧
        ((v.core k).reg 0x100D1C).toNat = min 0xFFFFFFFF ((c.reg 0x100D1C).toNat + 1) ∧
        (v.core k).cb64 m 0x10 = (if w0.getLsbD 3 = true then
          c.cb64 m 0x10 ||| (c.cb64 m 8 &&& ~~~(c.cb64 m 0x18)) else c.cb64 m 0x10)) ∧
      (∀ hi v, ∃ u : State, exec (.cmbFailedWrite k m hi v) s = .next (u.cmbRun k m) ∧ s.onlyCore k u ∧
        u.core k = { c with cmb := (u.core k).cmb } ∧
        ∀ w, w < 64 → (u.core k).cb m w = if w = 0x10 + 4 * hi.toNat then (if c.cbState m = 0 then v else c.cb m w ||| v)
          else c.cb m w) ∧
      (∀ i, i < 64 → c.cbNext m = some i →
        (c.cb64 m 8).getLsbD i = true ∧ (c.cb64 m 0x10).getLsbD i = false ∧ r.folded.getLsbD i = false ∧
        ∀ j, j < i → (c.cb64 m 8).getLsbD j = false ∨ (c.cb64 m 0x10).getLsbD j = true ∨ r.folded.getLsbD j = true) ∧
      (c.cbState m = 1 → w0.getLsbD 5 = false → w0.getLsbD 6 = false → c.cbNext m = none → c.cbUp m = true →
        c.cb64 m 8 ≠ 0 →
        let u := s.cmbRun k m
        (u.core k).cbRound m = (c.cbRound m + 1) % 65536 ∧ (u.core k).cb64 m 0x18 = 0 ∧
          (u.core k).cbState m = (if w0.getLsbD 4 = true then 1 else 0) ∧
          (u.core k).cb64 m 0x10 = c.cb64 m 0x10 ∧
          (u.core k).round m = { folded := 0, n := 0, pieces := [], timed := false } ∧
          (u.core k).seqr.flags = if w0.getLsbD 7 = true then c.seqr.flags ||| 1 <<< wfld w0 8 4 else c.seqr.flags)) ∧
    (∀ n : Fin 16, c.clean →
      let q := c.tq n
      (q.cnt = 0 → exec (.tokqPopRead k n) s = .next s) ∧
      (q.cnt ≠ 0 → ∃ t : State, exec (.tokqPopRead k n) s = .next t ∧ s.onlyCore k t ∧
        t.core k = c.setTq n { rd := (q.rd + 1) % c.tqDepth n, cnt := q.cnt - 1 })) ∧
    (∀ (r : Fin 256) j d, s.begun r j 0x17 d →
      let e := d.bits 8 0 19
      (s.fab.coreSite s.curVer e = none →
        exec (.queuePeek r j) s = .next (s.complete (r.val, d.uid) stWINDOW rNOEND.toNat)) ∧
      (s.fab.coreSite s.curVer e = some k → s.fenced k = true →
        exec (.queuePeek r j) s = .next (s.complete (r.val, d.uid) stFENCED)) ∧
      (s.fab.coreSite s.curVer e = some k → s.fenced k = false → s.siteRuns k = true →
        let b := (s.peekRecord k e).1
        exec (.queuePeek r j) s = .next ((s.hostWrite (d.f 0x10 8) b).complete (r.val, d.uid)
          (if (s.peekRecord k e).2 = true then stPARTIAL else stOK)) ∧
        leAt b 0 4 = 1 ∧ leAt b 4 4 = e ∧ leAt b 8 8 = s.clk.gcc.toNat ∧ leAt b 0x18 2 = c.rgnId))

/-! ### Stack memory -/

/-- R296, R299, R300, R302, R304, R306, R307, R308, R309, R311, R312, R313, R314: a request inside one unit of a stack
that serves reads or writes its bytes and counts, one outside is answered BAD_OFFSET, one at a stack that does not serve
BUSY or, FAILED, UNCORR. Temperatures set the refresh interval; the scrub writes corrections back and counts what it finds;
a repair takes the stack offline, row by row; a digest covers every populated stack's part of its range. -/
def Obligations.StackMemory : Prop :=
  ∀ s : State,
    (∀ (m : Fin 16) (p : Packet),
      let k := p.dsite
      let a := faStack p.dest
      let i := (stackOf s.stackN a).1
      let loc := (stackOf s.stackN a).2
      let x := s.stack i
      let u := s.land k (.inl p)
      faEngine p.dest = s.ownId → faM p.dest = true → i / 2 = m.val → p.aborted = false → hcrcGood p = true →
      crcGood p = true → (s.core k).net.holdFor p = none →
      (p.type = tRD_REQ → let n := p.bytes.toNat
        (s.unitOk a n = false → exec (.msdRequest m p) s =
          .next (u.respond k (s.answerEpid p.dest) p tRD_RESP rBADOFF p.seq p.tag [])) ∧
        (s.unitOk a n = true → x.st ≠ 2 → exec (.msdRequest m p) s = .next (u.respond k (s.answerEpid p.dest) p tRD_RESP
          (if x.st = 4 then rUNCORR else rBUSY) p.seq p.tag [])) ∧
        (s.unitOk a n = true → x.st = 2 → (∀ c, x.mem.decode c = .clean) →
          ∃ v : State, exec (.msdRequest m p) s = .next (v.respond k (s.answerEpid p.dest) p tRD_RESP rOK p.seq p.tag
              (memReads x.mem.data loc n)) ∧ v = { u with w64 := v.w64, rel := v.rel } ∧
            v.ctr64 (stkOff i 0x30) = s.ctr64 (stkOff i 0x30) + 1) ∧
        (s.unitOk a n = true → x.st = 2 → (x.mem.read loc n).ue ≠ 0 →
          ∃ v : State, exec (.msdRequest m p) s = .next (v.respond k (s.answerEpid p.dest) p tRD_RESP rUNCORR p.seq p.tag []) ∧
            (v.stack i).mem = x.mem)) ∧
      (p.type = tWR → let n := p.payload.length
        (s.unitOk a n = false → exec (.msdRequest m p) s = .next (u.nakFrom k p rBADOFF)) ∧
        (s.unitOk a n = true → x.st ≠ 2 →
          exec (.msdRequest m p) s = .next (u.nakFrom k p (if x.st = 4 then rUNCORR else rBUSY))) ∧
        (s.unitOk a n = true → x.st = 2 → (∀ c, x.mem.decode c = .clean) →
          ∃ v : State, exec (.msdRequest m p) s = .next (v.ackNow k p) ∧
            v = { u with stks := v.stks, w64 := v.w64, rel := v.rel } ∧ wrote x.mem (v.stack i).mem loc p.payload ∧
            (∀ j, j ≠ i → v.stack j = s.stack j) ∧ v.ctr64 (stkOff i 0x38) = s.ctr64 (stkOff i 0x38) + 1))) ∧
    (∀ (m : Fin 16) t0 t1, ∃ t : State, exec (.stackTempRead m t0 t1) s = .next t ∧ t = { s with stks := t.stks } ∧
      ∀ j, t.stack j = if (s.stack j).alive = true ∧ j = 2 * m.val then
          { s.stack j with temp := t0, interval := Config.refreshInterval t0 }
        else if (s.stack j).alive = true ∧ j = 2 * m.val + 1 then
          { s.stack j with temp := t1, interval := Config.refreshInterval t1 }
        else s.stack j) ∧
    (∀ (k : Fin 32) (bank : Fin 1024), ∀ i ∈ [Instr.stackRefresh k bank, .refreshManagementRequest k bank],
      ((s.stack k).alive = false → exec i s = .next s) ∧
      ((s.stack k).alive = true → ∃ t : State, exec i s = .next t ∧ t = { s with stks := t.stks } ∧
        t.stack k = { s.stack k with refresh := (t.stack k).refresh } ∧ (∀ j, j ≠ k.val → t.stack j = s.stack j) ∧
        ∀ b, Tbl.get 0 (t.stack k).refresh b = if b = bank.val then s.clk.ts else Tbl.get 0 (s.stack k).refresh b)) ∧
    (∀ k : Fin 32,
      let x := s.stack k
      let on := x.st = 2 ∧ (s.bar (stkOff k 8)).getLsbD 31 = true
      let next := if x.scrub + 1 < stackCws then x.scrub + 1 else 0
      (¬on → exec (.stackScrubStep k) s = .next s) ∧
      (on → ∃ t : State, exec (.stackScrubStep k) s = .next t ∧ (t.stack k).scrub = next ∧ (∀ j, j ≠ k.val → t.stack j = s.stack j) ∧
        (x.mem.decode x.scrub = .clean → t = { s with stks := t.stks } ∧ (t.stack k).mem = x.mem ∧
          (t.stack k).cands = x.cands) ∧
        (∀ d y, x.mem.decode x.scrub = .corrected d y → (t.stack k).mem = x.mem.put x.scrub d ∧
          (t.bar (stkOff k 0x0C)).toNat = min 0xFFFFFFFF ((s.bar (stkOff k 0x0C)).toNat + 1) ∧
          ((∃ v ∈ x.lastPass, sameRow (x.scrub / 16) v = true) → x.cands.length < 64 →
            ∃ v ∈ (t.stack k).cands, v = x.scrub / 16 ∨ sameRow (x.scrub / 16) v = true)) ∧
        (x.mem.decode x.scrub = .bad → (t.stack k).mem = x.mem ∧
          (t.bar (stkOff k 0x10)).toNat = min 0xFFFFFFFF ((s.bar (stkOff k 0x10)).toNat + 1) ∧
          (x.cands.length < 64 → ∃ v ∈ (t.stack k).cands, v = x.scrub / 16 ∨ sameRow (x.scrub / 16) v = true)))) ∧
    (∀ k : Fin 32,
      let x := s.stack k
      (x.alive = false → exec (.stackFail k) s = .next s) ∧
      (x.alive = true → x.repair = none → ∃ t : State, exec (.stackFail k) s = .next t ∧
        t = { s with stks := t.stks, rel := t.rel } ∧ t.stack k = { x with st := 4 } ∧
        (∀ j, j ≠ k.val → t.stack j = s.stack j) ∧ Tbl.get false t.rel.stackFail k = true ∧
        t.rel.logSq = s.rel.logSq + 1) ∧
      (∀ q, x.alive = true → x.repair = some q → ∃ v : State, exec (.stackFail k) s =
          .next ((v.testDone q.req stPARTIAL).complete q.req stPARTIAL) ∧ v.stack k = { x with st := 4, repair := none } ∧
        v.host = s.host) ∧
      (x.repair = none → exec (.pprRowDone k) s = .next s) ∧
      (∀ q u rest, x.repair = some { req := q, todo := u :: rest } →
        ∃ v : State, exec (.pprRowDone k) s = .next (v.repairOn k q (if s.boot.warm = true then [] else rest)) ∧
          (v.stack k).cands = x.cands.erase u ∧ (v.stack k).st = x.st ∧ v.ppr k = ((s.ppr k).1, min 255 ((s.ppr k).2 + 1)) ∧
          Tbl.get 0 v.rel.stackRep k = Tbl.get 0 s.rel.stackRep k + 1 ∧ v.host.cmd = s.host.cmd)) ∧
    (∀ (r : Fin 256) j d, s.begun r j 0x15 d → d.f 8 1 = 4 → s.gate 6 = true →
      let k := d.f 0xC 4
      let x := s.stack k
      let q := (r.val, d.uid)
      (s.ready = false → exec (.stackRepair r j) s = .next (s.complete q stNOTREADY)) ∧
      (s.ready = true → s.repairing = true → exec (.stackRepair r j) s = .next (s.complete q stBUSY)) ∧
      (s.ready = true → s.repairing = false → 32 ≤ k ∨ x.st ≠ 2 →
        exec (.stackRepair r j) s = .next (s.complete q stNOTREADY)) ∧
      (s.ready = true → s.repairing = false → k < 32 → x.st = 2 → x.digest = false →
        (x.cands = [] → ∃ v : State, exec (.stackRepair r j) s = .next ((v.testDone q stOK).complete q stOK) ∧ v.ppr k = (0, 0) ∧
          v.stack k = { x with candOvf := false, repair := none }) ∧
        (∀ u rest, x.cands = u :: rest → Config.repairResource k u (Tbl.get 0 s.rel.stackRep k) = true →
          ∃ t : State, exec (.stackRepair r j) s = .next t ∧ t = { s with host := t.host, regs := t.regs, stks := t.stks } ∧
            t.host = (s.setBusy q).host ∧ t.ppr k = (0, 0) ∧
            t.stack k = { x with st := 3, candOvf := false, repair := some { req := q, todo := x.cands } }) ∧
        (∀ u, x.cands = [u] → Config.repairResource k u (Tbl.get 0 s.rel.stackRep k) = false →
          ∃ v : State, exec (.stackRepair r j) s = .next ((v.testDone q stPARTIAL).complete q stPARTIAL) ∧ v.ppr k = (1, 0) ∧
            v.stack k = { x with candOvf := false, repair := none }))) ∧
    (∀ (r : Fin 256) j d, s.begun r j 0x16 d →
      let q := (r.val, d.uid)
      (s.gate 4 = false → exec (.stateDigest r j) s = .next (s.complete q stGATED)) ∧
      (s.gate 4 = true → s.ready = false → exec (.stateDigest r j) s = .next (s.complete q stNOTREADY)) ∧
      (s.gate 4 = true → s.ready = true → s.digestRange (d.f 8 8) (d.f 0x10 8) = false →
        exec (.stateDigest r j) s = .next (s.complete q stINTEGRITY)) ∧
      (s.gate 4 = true → s.ready = true → s.digestRange (d.f 8 8) (d.f 0x10 8) = true → s.stks.digest ≠ none →
        exec (.stateDigest r j) s = .next s) ∧
      (s.gate 4 = true → s.ready = true → s.digestRange (d.f 8 8) (d.f 0x10 8) = true → s.stks.digest = none →
        ∃ t : State, exec (.stateDigest r j) s = .next t ∧ t = { s with host := t.host, stks := t.stks } ∧
          t.host = (s.setBusy q).host ∧ t.stks.digest =
            some { req := q, base := d.f 8 8, len := d.f 0x10 8, host := BitVec.ofNat 64 (d.f 0x18 8) } ∧
          ∀ k, k < 32 → t.stack k = if (s.stack k).st = 2 then { s.stack k with digest := true } else s.stack k)) ∧
    (s.stks.digest = none → exec .digestDone s = .next s) ∧
    (∀ g, s.stks.digest = some g →
      let ks := (List.range 32).filter fun k => s.populated k
      let part := ks.any fun k => (s.stack k).st == 4
      let ds (k : Nat) : BitVec 256 := if k ∈ ks ∧ (s.stack k).st = 2 then
        Config.sha3 (memReads (s.stack k).mem.data (g.base / s.stackN) (g.len / s.stackN)) else 0
      ((∃ k ∈ ks, (s.stack k).st ≠ 2 ∧ (s.stack k).st ≠ 4) → exec .digestDone s = .next s) ∧
      ((∀ k ∈ ks, (s.stack k).st = 4 ∨ ((s.stack k).st = 2 ∧ ∀ c, (s.stack k).mem.decode c = .clean)) →
        ∃ v : State, exec .digestDone s = .next (v.complete g.req (if part = true then stPARTIAL else stOK)) ∧
          v.host = (s.hostWrite g.host.toNat (digestRecord (s.bar 0x44).toNat g.base g.len
            (if part = true then 0 else Config.sha3 (ks.flatMap fun k => leBytes 32 (ds k).toNat)) ds)).host ∧
          v.stks.digest = none ∧ ∀ k, k < 32 → v.stack k = { s.stack k with digest := false }))

/-! ### The host interface -/

/-- R12, R323, R324, R325, R326, R327, R328, R329, R330, R337, R345: a doorbell moves a tail or a head; descriptors are
fetched round robin and started in order, a fenced one alone; what the header or the body breaks completes with its status; a
descriptor completes with one record, which is posted at TAIL with the ring's PHASE once there is room and raises the ring's
vector; event records are posted in class order with the next EV_SEQ. -/
def Obligations.HostRings : Prop :=
  ∀ s : State,
    (∀ (r : Fin 256) (v : Word),
      let c := s.bar (cmdCfg r)
      (cfgEn c = false → exec (.doorbellCmd r v) s = .next (s.engErr 3)) ∧
      (cfgEn c = true → cfgSize c ≤ v.toNat → exec (.doorbellCmd r v) s = .next (s.engErr 2)) ∧
      (cfgEn c = true → v.toNat < cfgSize c → ∃ t : State, exec (.doorbellCmd r v) s = .next t ∧
        t = { s with host := { s.host with cmd := t.host.cmd } } ∧ t.ring r = { s.ring r with tail := v.toNat } ∧
        ∀ i, i ≠ r.val → t.ring i = s.ring i) ∧
      (s.gated (cmdCfg r) = true → exec (.cmdCfgWrite r v) s = .next (s.gatedWrite (cmdCfg r))) ∧
      (s.gated (cmdCfg r) = false →
        let log2 := if cfgEn c = true then wfld c 16 5 else wfld v 16 5
        let en := v.getLsbD 31 && (cfgEn c || ((s.bar 0x108).getLsbD 31 && decide (2 ≤ log2) && decide (log2 ≤ 16)))
        ∃ t : State, exec (.cmdCfgWrite r v) s = .next t ∧
          t = { s with regs := t.regs, host := { s.host with cmd := t.host.cmd } } ∧
          t.bar (cmdCfg r) = BitVec.ofNat 32 (wfld v 0 6 + (log2 <<< 16) + (en.toNat <<< 31)) ∧
          t.ring r = { s.ring r with err := (s.ring r).err && !en } ∧ ∀ o, o ≠ cmdCfg r → t.bar o = s.bar o)) ∧
    (∀ (q : Fin 64) (v : Word),
      let c := s.bar (cplCfg q)
      (cfgEn c = false → exec (.doorbellCpl q v) s = .next (s.engErr 3)) ∧
      (cfgEn c = true → cfgSize c ≤ v.toNat → exec (.doorbellCpl q v) s = .next (s.engErr 2)) ∧
      (cfgEn c = true → v.toNat < cfgSize c → ∃ t : State, exec (.doorbellCpl q v) s = .next t ∧
        t = { s with host := { s.host with cpl := t.host.cpl } } ∧ t.cpl q = { s.cpl q with head := v.toNat } ∧
        ∀ i, i ≠ q.val → t.cpl i = s.cpl i) ∧
      (s.gated (cplCfg q) = true → exec (.cplCfgWrite q v) s = .next (s.gatedWrite (cplCfg q))) ∧
      (s.gated (cplCfg q) = false →
        let log2 := if cfgEn c = true then wfld c 16 5 else wfld v 16 5
        let en := v.getLsbD 31 && (cfgEn c || ((s.bar 0x108).getLsbD 31 && decide (2 ≤ log2) && decide (log2 ≤ 16)))
        ∃ t : State, exec (.cplCfgWrite q v) s = .next t ∧
          t = { s with regs := t.regs, host := { s.host with cpl := t.host.cpl } } ∧
          t.bar (cplCfg q) = BitVec.ofNat 32 ((if wfld v 0 11 ≤ 2015 then wfld v 0 11 else wfld c 0 11) + (log2 <<< 16) +
            (en.toNat <<< 31)) ∧
          t.cpl q = (if en = true ∧ cfgEn c = false then { s.cpl q with tail := 0, phase := true, head := 0 } else s.cpl q) ∧
          ∀ o, o ≠ cplCfg q → t.bar o = s.bar o)) ∧
    (∀ v : Word,
      (s.ringsOn = true → exec (.engHifVerWrite v) s = .next s) ∧
      (s.ringsOn = false →
        let ok := decide (wfld v 16 8 ≤ 1) && decide (1 ≤ wfld v 8 8)
        ∃ t : State, exec (.engHifVerWrite v) s = .next t ∧ s.onlyRegs t ∧ t.bar 0x104 = v &&& 0xFFFFFF ∧
          t.bar 0x108 = (if ok = true then 0x80000100 else 0) ∧ (t.bar 0x100).getLsbD 2 = ok ∧
          ∀ o, o ≠ 0x100 → o ≠ 0x104 → o ≠ 0x108 → t.bar o = s.bar o)) ∧
    (∀ r, s.nextRing = some r → s.fetchable r = true ∧ r < 256 ∧
      ∀ i, i < 256 → (s.host.next + i) % 256 = r → ∀ j, j < i → s.fetchable ((s.host.next + j) % 256) = false ∨
        (s.host.next + j) % 256 = r) ∧
    (∀ r : Fin 256,
      let x := s.ring r
      (s.nextRing ≠ some r.val → ∀ h, exec (.descriptorFetch r h) s = .next s) ∧
      (s.nextRing = some r.val →
        (∀ b : List Byte, b.length = 64 → ∃ t : State, exec (.descriptorFetch r (.data b)) s = .next t ∧
          t = { s with host := { s.host with cmd := t.host.cmd, next := (r.val + 1) % 256 } } ∧
          (∀ i, i ≠ r.val → t.ring i = s.ring i) ∧
          let head := (x.head + 1) % cfgSize (s.bar (cmdCfg r))
          t.ring r = { x with head := head, uid := x.uid + 1, fetched := x.fetched ++
            [{ w := BitVec.ofNat 512 (leNat b), head := BitVec.ofNat 16 head, uid := x.uid, busy := false }] }) ∧
        (∀ b code, ∃ t : State, exec (.descriptorFetch r (.failed b code)) s = .next t ∧ t.ring r = { x with err := true } ∧
          (t.bar 0x10C).getLsbD 6 = true ∧ (t.cpl (s.cplOf r)).waiting = (s.cpl (s.cplOf r)).waiting ++
            [cplRecord r 0 x.head 0xFFFFFFFF stWINDOW code.toNat 0])) ∧
      (∀ d rest, x.fetched = d :: rest →
        let ready := ¬((d.bits 2 0 1 = 1 ∧ x.started ≠ []) ∨ 64 ≤ x.started.length ∨
          64 ≤ (s.cpl (s.cplOf r)).waiting.length ∨ s.boot.warm = true ∨ (s.cupolaBusy = true ∧ cupolaRun (d.f 0 1) = true))
        (¬ready → exec (.descriptorStart r) s = .next s) ∧
        (ready → ∃ v : State, exec (.descriptorStart r) s =
            .next (match s.descStatus d with
              | some st => v.complete (r.val, d.uid) st
              | none => v) ∧ v = { s with host := { s.host with cmd := v.host.cmd } } ∧
          v.ring r = { x with fetched := rest, started := x.started ++ [d] } ∧ ∀ i, i ≠ r.val → v.ring i = s.ring i)) ∧
      (x.fetched = [] → exec (.descriptorStart r) s = .next s)) ∧
    (∀ d : Desc,
      (bodyFields (d.f 0 1) = none → d.f 1 1 = 1 → s.descStatus d = some stBADOPC) ∧
      (d.f 1 1 ≠ 1 → s.descStatus d = some stBADVER) ∧
      (bodyFields (d.f 0 1) ≠ none → d.f 1 1 = 1 → d.bits 2 1 15 ≠ 0 → s.descStatus d = some stBADRSVD) ∧
      (∀ st, s.descStatus d = some st → st = stBADOPC ∨ st = stBADVER ∨ st = stBADRSVD ∨
        (st = stNOTREADY ∧ s.ready = false))) ∧
    (∀ q st det (res : BitVec 128) d, s.descOf q = some d → q.1 < 256 → st < 256 →
      let u := s.complete q st det res
      let rec_ := leBytes 32 (cplRecord q.1 (d.f 0 1) d.head.toNat (d.f 4 4) st det res).toNat
      u = { s with host := { s.host with cmd := u.host.cmd, cpl := u.host.cpl } } ∧
        u.ring q.1 = { s.ring q.1 with started := (s.ring q.1).started.filter fun x => x.uid != q.2 } ∧
        (u.cpl (s.cplOf q.1)).waiting = (s.cpl (s.cplOf q.1)).waiting ++
          [cplRecord q.1 (d.f 0 1) d.head.toNat (d.f 4 4) st det res] ∧
        leAt rec_ 0 1 = st ∧ leAt rec_ 1 1 = 0 ∧ leAt rec_ 2 1 = d.f 0 1 ∧ leAt rec_ 3 1 = q.1 ∧
        leAt rec_ 4 2 = d.head.toNat ∧ leAt rec_ 6 2 = 0 ∧ leAt rec_ 8 4 = d.f 4 4 ∧ leAt rec_ 0xC 4 = det % 2 ^ 32 ∧
        leAt rec_ 0x10 16 = res.toNat) ∧
    (∀ (r : Fin 256) j d, s.begun r j 1 d → exec (.hostNop r j) s = .next (s.complete (r.val, d.uid) stOK)) ∧
    (let posted (q : Nat) (rec_ : BitVec 256) (vec : Nat) (t : State) : Prop :=
      let x := s.cpl q
      let base := s.ringBase (cplCfg q) + 32 * x.tail
      let b := leBytes 32 (rec_.toNat + (x.phase.toNat <<< 8))
      let tail := (x.tail + 1) % cfgSize (s.bar (cplCfg q))
      (∀ a, t.hostByte a = if base ≤ a ∧ a < base + 32 then some (b.getD (a - base) 0) else s.hostByte a) ∧
        (t.cpl q).tail = tail ∧ (t.cpl q).phase = (if tail = 0 then !x.phase else x.phase) ∧ (t.cpl q).head = x.head ∧
        if (s.host.msixW (4 * vec + 3)).getLsbD 0 = true then
          Tbl.get false t.host.pba vec = true ∧ t.host.sent = s.host.sent
        else t.host.pba = s.host.pba ∧ t.host.sent = s.host.sent ++
          [(s.host.msixW (4 * vec + 1) ++ s.host.msixW (4 * vec), s.host.msixW (4 * vec + 2))]
    (∀ (q : Fin 64) rec_ rest, (s.cpl q).waiting = rec_ :: rest →
      let first := s.eventsOpen && wfld (s.bar 0x20004) 0 6 == q.val && s.nextEvent.isSome
      (s.cplRoom q = false ∨ first = true → exec (.recordPost q) s = .next s) ∧
      (s.cplRoom q = true → first = false → ∃ t : State, exec (.recordPost q) s = .next t ∧
        t = { s with host := { s.host with cpl := t.host.cpl, mem := t.host.mem, pba := t.host.pba, sent := t.host.sent } } ∧
        (t.cpl q).waiting = rest ∧ posted q rec_ (wfld (s.bar (cplCfg q)) 0 11) t)) ∧
    (∀ c e, s.nextEvent = some (c, e) →
      let q := wfld (s.bar 0x20004) 0 6
      (s.eventsOpen = false ∨ s.cplRoom q = false → exec .eventPost s = .next s) ∧
      (s.eventsOpen = true → s.cplRoom q = true → ∃ t : State, exec .eventPost s = .next t ∧
        t = { s with host := { s.host with events := t.host.events, evSeq := s.host.evSeq + 1, cpl := t.host.cpl
                                           mem := t.host.mem, pba := t.host.pba, sent := t.host.sent } } ∧
        Tbl.get none t.host.events c = none ∧ (∀ i, i ≠ c → Tbl.get none t.host.events i = Tbl.get none s.host.events i) ∧
        posted q (eventRecord c e (s.host.evSeq + 1)) (2016 + c) t) ∧
      Tbl.get none s.host.events c = some e ∧ ∀ i, i < c → Tbl.get none s.host.events i = none) ∧
    (s.nextEvent = none → exec .eventPost s = .next s))

/-- R192, R205, R207, R331, R332, R333, R334, R427, R428, R429: a transfer moves its bytes between host memory and the
fabric and completes with the code it met and the bytes moved; a window is opened where it fits and admits what it allows;
a group is built for its members; table entries go into the inactive version; the floor plan is read, and a commit that
passes its checks asks for its flip. -/
def Obligations.HostTransfers : Prop :=
  ∀ s : State,
    (∀ (r : Fin 256) j d, s.begun r j 2 d →
      let q := (r.val, d.uid)
      let dest : DWord := BitVec.ofNat 64 (d.f 0x10 8)
      let n := d.f 0x18 4
      (∀ b t code m, b.length = n → s.fabWrite entHost dest b = (t, code, m) →
        (resent code = true → exec (.dmaH2d r j (.data b)) s = .next s) ∧
        (resent code = false → exec (.dmaH2d r j (.data b)) s =
          .next (t.complete q (fabStatus code) (fabDetail code) (BitVec.ofNat 128 (m % 2 ^ 32))))) ∧
      (∀ got code t m, got.length < n → s.fabWrite entHost dest got = (t, rOK, m) →
        exec (.dmaH2d r j (.failed got code)) s = .next (t.complete q stWINDOW code.toNat (BitVec.ofNat 128 m))) ∧
      (∀ b k, b.length = n → 0 < n → dest.toNat % 256 + n ≤ 256 → s.reach entHost dest = .inl k →
        s.endpointOf s.curVer dest 0x7F000 = .core → s.fenced k = false → s.inReset k = false → s.siteRuns k = true →
        faOff dest + n ≤ 0x40000 → s.sramBusy k (faOff dest) n = false → (s.core k).clean →
        ∃ v : State, exec (.dmaH2d r j (.data b)) s = .next (v.complete q stOK 0 (BitVec.ofNat 128 n)) ∧ s.onlyCore k v ∧
          v.core k = { s.core k with sram := (v.core k).sram, banks := (v.core k).banks } ∧
          wrote (s.core k).sram (v.core k).sram (faOff dest) b)) ∧
    (∀ (r : Fin 256) j d, s.begun r j 3 d →
      let q := (r.val, d.uid)
      let src : DWord := BitVec.ofNat 64 (d.f 0x10 8)
      let n := d.f 0x18 4
      (∀ t code b, s.fabRead entHost src n = (t, code, b) →
        (resent code = true → exec (.dmaD2h r j) s = .next s) ∧
        (resent code = false → exec (.dmaD2h r j) s = .next ((t.hostWrite (d.f 8 8) b).complete q (fabStatus code)
          (fabDetail code) (BitVec.ofNat 128 (b.length % 2 ^ 32))))) ∧
      (∀ k, 0 < n → src.toNat % 256 + n ≤ 256 → s.reach entHost src = .inl k →
        s.endpointOf s.curVer src 0x7F000 = .core → s.fenced k = false → s.inReset k = false → s.siteRuns k = true →
        faOff src + n ≤ 0x40000 → s.sramBusy k (faOff src) n = false → (s.core k).clean →
        ∃ v : State, exec (.dmaD2h r j) s = .next ((v.hostWrite (d.f 8 8) (memReads (s.core k).sram.data (faOff src) n)).complete q
            stOK 0 (BitVec.ofNat 128 n)) ∧ s.onlyCore k v ∧ v.core k = s.core k)) ∧
    (∀ (r : Fin 256) j d, s.begun r j 0x0A d →
      let q := (r.val, d.uid)
      let i := d.f 8 1
      let off := d.f 0xC 4
      let len := d.f 0x18 4
      let ha := d.f 0x10 8
      let fits := off % 4096 = 0 ∧ len % 4096 = 0 ∧ ha % 4096 = 0 ∧ len ≠ 0 ∧ off + len ≤ 2 ^ 32
      let meets := ∃ n, n < 256 ∧ (s.window n).open_ = true ∧ off < (s.window n).offset + (s.window n).len ∧
        (s.window n).offset < off + len
      (¬fits → exec (.openWindow r j) s = .next (s.complete q stBADRSVD)) ∧
      (fits → (s.window i).open_ = true → exec (.openWindow r j) s = .next (s.complete q stBUSY)) ∧
      (fits → (s.window i).open_ = false → meets → exec (.openWindow r j) s = .next (s.complete q stDENIED)) ∧
      (fits → (s.window i).open_ = false → ¬meets → ∃ v : State, exec (.openWindow r j) s = .next (v.complete q stOK) ∧
        v = { s with host := { s.host with wins := v.host.wins } } ∧ (∀ n, n ≠ i → v.window n = s.window n) ∧
        v.window i = { open_ := true, rd := d.bits 9 0 1 == 1, wr := d.bits 9 1 1 == 1, anySrc := d.bits 9 2 1 == 1
                       rgn := BitVec.ofNat 16 (d.f 0xA 2), offset := off, len := len, haddr := BitVec.ofNat 64 ha
                       busy := 0, closing := none })) ∧
    (∀ (r : Fin 256) j d, s.begun r j 0x0B d →
      let q := (r.val, d.uid)
      let w := s.window (d.f 8 1)
      (w.open_ = false ∨ w.closing ≠ none → exec (.closeWindow r j) s = .next (s.complete q stCLOSED)) ∧
      (w.open_ = true → w.closing = none → w.busy = 0 → ∃ v : State, exec (.closeWindow r j) s = .next (v.complete q stOK) ∧
        v = { s with host := { s.host with wins := v.host.wins } } ∧ (v.window (d.f 8 1)).open_ = false) ∧
      (w.open_ = true → w.closing = none → w.busy ≠ 0 → ∃ t : State, exec (.closeWindow r j) s = .next t ∧
        t = { s with host := t.host } ∧ t.window (d.f 8 1) = { w with closing := some q })) ∧
    (∀ p : Packet, faEngine p.dest = s.ownId → faM p.dest = false → faEpid p.dest = 0x7F000 → p.aborted = false →
      hcrcGood p = true → crcGood p = true → (s.core p.dsite).net.holdFor p = none →
      let u := s.land p.dsite (.inl p)
      let from_ (n : Nat) (wr : Bool) := s.windowFor (faOff p.dest) n p.srcEngine.toNat p.srcEpid.toNat wr
      (p.type = tRD_REQ →
        (from_ p.bytes.toNat false = none → exec (.hostWindowRequest p) s = .next (u.nakFrom p.dsite p rDENIED)) ∧
        (∀ i, from_ p.bytes.toNat false = some i → ∃ t : State, exec (.hostWindowRequest p) s = .next t ∧
          t = { u with host := { s.host with wins := t.host.wins, reads := s.host.reads ++ [(i, p)] } } ∧
          t.window i = { s.window i with busy := (s.window i).busy + 1 })) ∧
      (p.type = tWR →
        (from_ p.payload.length true = none → exec (.hostWindowRequest p) s = .next (u.nakFrom p.dsite p rDENIED)) ∧
        (∀ i, from_ p.payload.length true = some i → exec (.hostWindowRequest p) s = .next
          ((u.hostWrite ((s.window i).haddr.toNat + (faOff p.dest - (s.window i).offset)) p.payload).ackNow p.dsite p)))) ∧
    (∀ n i p, s.host.reads[n]? = some (i, p) → (s.window i).closing = none →
      (∀ b : List Byte, b.length = p.bytes.toNat → ∃ v : State, exec (.pcieReadCompletion n (.data b)) s = .next v ∧
        v.host.reads = s.host.reads.eraseIdx n ∧ v.window i = { s.window i with busy := (s.window i).busy - 1 } ∧
        v.fab = (s.respond p.dsite 0x7F000 p tRD_RESP rOK p.seq p.tag b).fab) ∧
      (∀ b code, ∃ v : State, exec (.pcieReadCompletion n (.failed b code)) s = .next v ∧
        v.host.reads = s.host.reads.eraseIdx n ∧ v.window i = { s.window i with busy := (s.window i).busy - 1 } ∧
        v.fab = (s.respond p.dsite 0x7F000 p tRD_RESP rUNCORR p.seq p.tag []).fab)) ∧
    (∀ n i p q h, s.host.reads[n]? = some (i, p) → (s.window i).closing = some q → (s.window i).busy = 1 →
      ∃ v : State, exec (.pcieReadCompletion n h) s = .next (v.complete q stOK) ∧ (v.window i).open_ = false ∧
        v.host.reads = s.host.reads.eraseIdx n) ∧
    (∀ (r : Fin 256) j d, s.begun r j 0x0C d →
      let q := (r.val, d.uid)
      (s.gate 3 = false → ∀ h, exec (.mcastGroupSet r j h) s = .next (s.complete q stGATED)) ∧
      (s.gate 3 = true → ∀ b code, exec (.mcastGroupSet r j (.failed b code)) s = .next (s.complete q stWINDOW code.toNat)) ∧
      (∀ b, s.gate 3 = true → groupRec b = none →
        exec (.mcastGroupSet r j (.data b)) s = .next (s.complete q stBADRSVD)) ∧
      (∀ b g m, s.gate 3 = true → groupRec b = some (g, m) →
        (g.rsv = true → exec (.mcastGroupSet r j (.data b)) s = .next (s.complete q stBADRSVD)) ∧
        (g.rsv = false → g.group = 0x3FFF → exec (.mcastGroupSet r j (.data b)) s = .next (s.complete q stDENIED)) ∧
        (g.rsv = false → g.group ≠ 0x3FFF → g.ok = false →
          exec (.mcastGroupSet r j (.data b)) s = .next (s.complete q stINTEGRITY)) ∧
        (∀ root u, g.rsv = false → g.group ≠ 0x3FFF → g.ok = true →
          (∀ x ∈ g.members, ∃ k, s.fab.coreSite s.curVer x = some k ∧ s.fenced k = false) →
          s.fab.coreSite s.curVer g.root = some root →
          (s.installGroup g.group root (g.members.filterMap fun x => s.fab.coreSite s.curVer x) = .inl u →
            exec (.mcastGroupSet r j (.data b)) s = .next (u.complete q stOK) ∧
            ∀ v, u.fab.groupRoot v g.group = BitVec.ofNat 32 (siteX root + (siteY root <<< 10) + 2 ^ 31)) ∧
          (∀ e, s.installGroup g.group root (g.members.filterMap fun x => s.fab.coreSite s.curVer x) = .inr e →
            exec (.mcastGroupSet r j (.data b)) s = .next (s.complete q e.1 e.2))))) ∧
    (∀ (r : Fin 256) j d, s.begun r j 0x11 d → s.gate 3 = true →
      let q := (r.val, d.uid)
      let ver := d.bits 8 0 1 == 1
      let table := d.bits 8 1 3
      let count := d.f 0xA 2
      let k := mkSite (d.bits 0xC 0 10) (d.bits 0xC 10 9)
      let i0 := d.f 0x10 2
      let n := entryBytes table
      let named := table = 3 ∨ (d.bits 0xC 0 10 = 0 ∧ d.bits 0xC 10 9 = 0)
      (table < 3 → ¬named → ∀ h, exec (.tableWrite r j h) s = .next (s.complete q stBADRSVD)) ∧
      (table = 4 → ∀ h, exec (.tableWrite r j h) s = .next (s.complete q stDENIED)) ∧
      (∀ b, table < 4 → named → b.length = n * count →
        let es := (List.range count).map fun i => leAt b (n * i) n
        (es.all (fun e => entryOk table e) = false →
          exec (.tableWrite r j (.data b)) s = .next (s.complete q stBADRSVD)) ∧
        (es.all (fun e => entryOk table e) = true → count ≠ 0 → i0 + count ≤ tableLen table →
          d.bits 0xC 0 10 ≤ 767 → d.bits 0xC 10 9 ≤ 383 →
          (ver = s.curVer ∨ s.epochReg.getLsbD 3 = true →
            exec (.tableWrite r j (.data b)) s = .next (s.complete q stSTALE)) ∧
          (ver ≠ s.curVer → s.epochReg.getLsbD 3 = false → table = 3 → s.siteOn k = false →
            exec (.tableWrite r j (.data b)) s = .next (s.complete q stFENCED)) ∧
          (ver ≠ s.curVer → s.epochReg.getLsbD 3 = false → (table = 3 → s.siteOn k = true) →
            ∃ v : State, exec (.tableWrite r j (.data b)) s = .next (v.complete q stOK) ∧
              v = { s with fab := v.fab, routers := v.routers, regs := v.regs } ∧ v.stageResult = 0 ∧
              (∀ i, i < count → let e := leAt b (n * i) n
                (table = 0 → v.fab.core ver (i0 + i) = BitVec.ofNat 32 e) ∧
                (table = 1 → v.fab.endpoint ver (i0 + i) = BitVec.ofNat 128 e) ∧
                (table = 2 → v.fab.groupRoot ver (i0 + i) = BitVec.ofNat 32 e) ∧
                (table = 3 → (v.router k).excAt ver (i0 + i) = BitVec.ofNat 64 e)) ∧
              (∀ i, i < 6144 → v.fab.core (!ver) i = s.fab.core (!ver) i) ∧
              (∀ i, i < 66 → v.fab.endpoint (!ver) i = s.fab.endpoint (!ver) i) ∧
              (∀ i, i < 16384 → v.fab.groupRoot (!ver) i = s.fab.groupRoot (!ver) i) ∧
              ∀ x i, i < 128 → (v.router x).excAt (!ver) i = (s.router x).excAt (!ver) i)))) ∧
    (∀ (r : Fin 256) j d, s.begun r j 0x13 d → s.gate 6 = true →
      let q := (r.val, d.uid)
      (d.f 0x10 4 < planLen → exec (.floorplanRead r j) s = .next (s.complete q stINTEGRITY 0 (BitVec.ofNat 128 planLen))) ∧
      (planLen ≤ d.f 0x10 4 →
        exec (.floorplanRead r j) s = .next ((s.hostWrite (d.f 8 8) s.planRecord).complete q stOK))) ∧
    (leAt s.planRecord 0 4 = 1 ∧ leAt s.planRecord 4 4 = (s.bar 0x50001C).toNat ∧ s.planRecord.length = 0x18040 ∧
      ∀ b, b < 6144 → leAt s.planRecord (0x40 + 4 * b) 4 = (s.fab.core s.curVer b).toNat) ∧
    (∀ (r : Fin 256) j d, s.begun r j 0x14 d → s.gate 6 = true →
      let q := (r.val, d.uid)
      let len := d.f 0x10 4
      (∀ b code, exec (.floorplanCommit r j (.failed b code)) s = .next (s.complete q stWINDOW code.toNat)) ∧
      (∀ b, b.length = len →
        let n := leAt b 8 2
        let es := (List.range n).map fun i => commitEntry b i
        (16 ≤ len → commitRsv b = false → exec (.floorplanCommit r j (.data b)) s = .next (s.complete q stBADRSVD)) ∧
        (len < 16 ∨ (commitRsv b = true ∧ len ≠ 16 + 8 * n) →
          exec (.floorplanCommit r j (.data b)) s = .next (s.complete q stINTEGRITY)) ∧
        (commitRsv b = true → len = 16 + 8 * n →
          (leAt b 0 4 ≠ 1 → exec (.floorplanCommit r j (.data b)) s = .next (s.complete q stBADVER)) ∧
          (leAt b 0 4 = 1 → leAt b 4 4 ≠ (s.bar 0x50001C).toNat →
            exec (.floorplanCommit r j (.data b)) s = .next (s.complete q stSTALE)) ∧
          (leAt b 0 4 = 1 → leAt b 4 4 = (s.bar 0x50001C).toNat →
            (∀ i, s.commitBad es = some i →
              exec (.floorplanCommit r j (.data b)) s = .next (s.complete q stINTEGRITY (i <<< 8))) ∧
            (s.commitBad es = none → s.rel.commit ≠ none →
              exec (.floorplanCommit r j (.data b)) s = .next (s.complete q stBUSY)) ∧
            (s.commitBad es = none → s.rel.commit = none → ∃ v : State,
              exec (.floorplanCommit r j (.data b)) s = .next (v.askFlip { req := some q, why := .plan, check := true }) ∧
                v.rel.commit = some es ∧
                ∀ e ∈ es, ∀ k, e.2 = 3 → s.fab.coreSite s.curVer e.1 = some k → v.fenced k = true)))))

/-! ### Self-test and reliability -/

/-- R378, R407, R410, R412, R413, R414, R415, R416, R417, R418, R420, R430, R431, R435: a cross-check or a scheduled pass
borrows an idle area; what a pass's signatures show is charged by a third site or left to the cupola's software, which
charges what differs from its own; march tests begin in a bank that is not mapped; once a second the risk level is the sum
of its five parts; a history record is copied to its data words; a lantern is recalibrated. -/
def Obligations.SelfTests : Prop :=
  ∀ s : State,
    (∀ (r : Fin 256) j d, s.begun r j 0x15 d →
      let q := (r.val, d.uid)
      let ends (i : Instr) (st : Nat) : Prop := exec i s = .next ((s.testDone q st).complete q st)
      (∀ i ∈ [(1, Instr.crossCheck r j), (2, .marchPreserving r j), (3, .marchDestructive r j), (4, .stackRepair r j),
          (5, .linkRecal r j)], d.f 8 1 = i.1 →
        (s.gate 6 = false → exec i.2 s = .next (s.complete q stGATED)) ∧
        (s.gate 6 = true → s.ready = false → exec i.2 s = .next (s.complete q stNOTREADY))) ∧
      (s.gate 6 = true → s.ready = true → d.f 8 1 = 1 →
        let a := d.f 0xC 4
        let p := d.f 0x10 4
        let test : Xchk :=
          { req := some q, area := a, m := fld p 0 4, vstep := fld p 4 4, kernel := fld p 8 8, passes := fld p 16 8
            charged := [], thirds := 0, arbs := 0, draw := s.fresh, arb := [] }
        ((s.area a).on = false ∨ (s.areaRec a).st = 2 → ends (.crossCheck r j) stFENCED) ∧
        ((s.area a).on = true → (s.areaRec a).st ≠ 2 →
          ((∃ x ∈ s.rel.xchk, x.area = a ∧ x.passes ≠ 0 ∧ x.req ≠ none) → ends (.crossCheck r j) stBUSY) ∧
          ((∀ x ∈ s.rel.xchk, x.area = a → x.passes = 0) →
            (s.areaIdle a = false → ends (.crossCheck r j) stBUSY) ∧
            (s.areaIdle a = true → s.domeState (a / 24) = 0 → ∃ t : State, exec (.crossCheck r j) s = .next t ∧
              t = { s with fresh := s.fresh + 1, host := (s.setBusy q).host, pwr := t.pwr, rel := { s.rel with
                xchk := s.rel.xchk ++ [test] } } ∧
              t.area a = { s.area a with borrowed := true } ∧ ∀ b, b ≠ a → t.area b = s.area b)))) ∧
      (s.gate 6 = true → s.ready = true → ∀ i ∈ [(2, Instr.marchPreserving r j), (3, .marchDestructive r j)], d.f 8 1 = i.1 →
        let k := mkSite (fld (d.f 0xC 4) 0 10) (fld (d.f 0xC 4) 10 9)
        let b := fld (d.f 0x10 4) 0 2
        let c := s.core k
        (s.siteOn k = false → ends i.2 stFENCED) ∧
        (s.siteOn k = true → s.siteRuns k = true → (∀ x ∈ s.rel.xchk, x.area = siteArea k → x.passes = 0) →
          (c.march ≠ none → ends i.2 stBUSY) ∧
          (c.march = none → c.mapped b = true → ∃ v : State, exec i.2 s = .next ((v.testDone q stBUSY).complete q stBUSY) ∧
            s.onlyCore k v ∧ (v.core k).march = none ∧ (v.core k).sram = c.sram) ∧
          (c.march = none → c.mapped b = false → i.1 = 3 → (c.bankCtl b).getLsbD 4 = true → ∃ v : State,
            exec i.2 s = .next ((v.testDone q stDENIED).complete q stDENIED) ∧ s.onlyCore k v ∧ (v.core k).march = none) ∧
          (c.march = none → c.mapped b = false → i.1 = 2 ∨ (c.bankCtl b).getLsbD 4 = false → ∃ t : State,
            exec i.2 s = .next t ∧ t = { s with cores := t.cores, host := (s.setBusy q).host } ∧
            (∀ j, j ≠ k → t.core j = s.core j) ∧
            t.core k = { c with regs := (t.core k).regs
                                march := some { bank := b, preserving := i.1 == 2, req := some q } } ∧
            ((t.core k).bankCtl b).getLsbD 9 = true))) ∧
      (s.gate 6 = true → s.ready = true → d.f 8 1 = 5 →
        let l := d.f 0xC 4
        let n := s.lantern l
        (48 ≤ l ∨ n.st ≠ 3 → exec (.linkRecal r j) s = .next (s.complete q stNOTREADY)) ∧
        (l < 48 → n.st = 3 → n.recal ≠ none → exec (.linkRecal r j) s = .next (s.complete q stBUSY)) ∧
        (l < 48 → n.st = 3 → n.recal = none → ∃ t : State, exec (.linkRecal r j) s = .next t ∧
          t = { s with host := (s.setBusy q).host, lnts := t.lnts } ∧ t.lantern l = { n with recal := some q } ∧
          ∀ m, m ≠ l → t.lantern m = s.lantern m))) ∧
    (∀ (l : Fin 48) ok,
      ((s.lantern l).recal = none → exec (.linkRecalDone l ok) s = .next s) ∧
      (∀ q, (s.lantern l).recal = some q → ∃ v : State, let st := if ok = true then stOK else stTIMEOUT
        exec (.linkRecalDone l ok) s = .next ((v.testDone q st).complete q st) ∧ v = { s with lnts := v.lnts } ∧
        v.lantern l = { s.lantern l with recal := none })) ∧
    (∀ k : SiteId,
      let c := s.core k
      let b := wfld (c.reg 0x100494) 16 2
      let due := (c.reg 0x100494).getLsbD 31 = true ∧ s.siteOn k = true ∧ s.siteRuns k = true ∧ c.mapped b = false ∧
        c.march = none ∧ (s.area (siteArea k)).borrowed = false
      (¬due → exec (.uePreservingTest k) s = .next s) ∧
      (due → ∃ t : State, exec (.uePreservingTest k) s = .next t ∧ s.onlyCore k t ∧
        t.core k = { c with regs := (t.core k).regs, march := some { bank := b, preserving := true, req := none } })) ∧
    (let on := (s.bar 0x500004).getLsbD 31 = true ∧ s.ready = true ∧ s.clk.stopped = false ∧ s.clk.parking = false;
      (¬on ∨ (∀ a, a < 288 → s.areaIdle a = false) → exec .scheduledPass s = .next s) ∧
      (∀ a, on → a < 288 → s.areaIdle a = true → s.domeState (a / 24) = 0 →
        (∀ c, c < 288 → s.areaIdle c = true → (s.areaRec a).lastTest < (s.areaRec c).lastTest ∨
          ((s.areaRec a).lastTest = (s.areaRec c).lastTest ∧ a ≤ c)) →
        let corner := ((s.areaSuspects a).head?.map fun k => ((s.siteRec k).m, (s.siteRec k).vstep)).getD
          (cornerAt (s.nextCorner a))
        let test : Xchk :=
          { req := none, area := a, m := corner.1, vstep := corner.2, kernel := 6, passes := 1
            charged := [], thirds := 0, arbs := 0, draw := s.fresh, arb := [] }
        ∃ t : State, exec .scheduledPass s = .next t ∧
          t = { s with fresh := s.fresh + 1, pwr := t.pwr, rel := { s.rel with xchk := s.rel.xchk ++ [test] } } ∧
          t.area a = { s.area a with borrowed := true } ∧ ∀ b, b ≠ a → t.area b = s.area b)) ∧
    (∀ k0 w0 rest x, s.rel.xchk.find? (fun x => x.area == siteArea k0 && x.passes != 0) = some x →
      let sigs : List (SiteId × DWord) := (k0, w0) :: rest
      let sites := areaSites x.area
      let cmp := comparePairs sites (fun k => decide ((s.siteRec k).st < 2)) (fun k => (s.siteRec k).st == 0) sigs
      (∀ k ∈ sites, (s.siteRec k).st ≠ 1) →
        ((∀ p ∈ cmp.1, p.sa = p.sb) →
          (∀ q, x.passes ≤ 1 → x.arb = [] → x.req = some q → ∃ v : State, exec (.xcheckPassDone sigs) s =
              .next ((v.testDone q x.status).complete q x.status 0 x.result) ∧ v.host = s.host ∧
            v.rel.xchk = s.rel.xchk.filter (fun y => y.area != x.area || y.passes == 0) ∧ v.rel.site = s.rel.site ∧
            (v.area x.area).borrowed = false ∧ (v.areaRec x.area).lastTest = s.rel.minutes) ∧
          (1 < x.passes → ∃ t : State, exec (.xcheckPassDone sigs) s = .next t ∧ t.host = s.host ∧ t.rel.site = s.rel.site ∧
            t.fresh = s.fresh + 1 ∧ t.rel.xchk = s.rel.xchk.map fun y =>
              if y.area = x.area ∧ y.passes ≠ 0 then { x with passes := x.passes - 1, draw := s.fresh } else y)) ∧
        (∀ p, cmp.1.filter (fun p => p.sa != p.sb) = [p] →
          let u := (s.leaveSigs x sites sigs).resolvePair x cmp.2.1 cmp.2.2 p
          exec (.xcheckPassDone sigs) s = .next (u.1.passEnd x u.2.1 false))) ∧
    (∀ (x : Xchk) agreed rs (p : PairSig),
      let u := s.resolvePair x agreed rs p
      let third := nearestTo p.a (agreed.filter fun c => c != p.a && c != p.b)
      (third = none → u.2.1.charged = x.charged ∧ u.2.1.arbs = x.arbs + 1 ∧
        u.2.1.arb = x.arb ++ [(p.pair, x.draw, [(p.a, p.sa), (p.b, p.sb)])]) ∧
      (∀ c v rs', third = some c → takeRerun rs c = (some v, rs') → u.2.2 = rs' ∧
        (v = p.sa → u.2.1 = { x with thirds := x.thirds + 1, charged := x.charged ++ [p.b.val] }) ∧
        (v ≠ p.sa → v = p.sb → u.2.1 = { x with thirds := x.thirds + 1, charged := x.charged ++ [p.a.val] }) ∧
        (v ≠ p.sa → v ≠ p.sb → u.2.1.charged = x.charged ∧ u.2.1.arbs = x.arbs + 1))) ∧
    (∀ k m vstep kernel, (s.siteRec k).st = 0 →
      (s.charge k m vstep kernel).siteRec k =
        { s.siteRec k with st := 1, m := m, vstep := vstep, sday := some s.today, retests := 0, rfails := 0
                           xfails := min 255 ((s.siteRec k).xfails + 1) }) ∧
    (∀ k, 2 ≤ (s.siteRec k).rfails → (s.retested k).fenced k = true ∧ ((s.retested k).siteRec k).st = 2) ∧
    (s.rel.xchk.find? (fun x => x.passes == 0) = none → exec .softwareArbitrationDone s = .next s) ∧
    (∀ x q pair draw ys, s.rel.xchk.find? (fun x => x.passes == 0) = some x → x.req = some q → x.arb = [(pair, draw, ys)] →
      let ref := refSig x.kernel draw pair
      ((∀ y ∈ ys, y.2 = ref ∧ (s.siteRec y.1).st ≠ 1) → ∃ v : State, exec .softwareArbitrationDone s =
          .next ((v.testDone q x.status).complete q x.status 0 x.result) ∧ v.rel.site = s.rel.site ∧
        v.rel.xchk = s.rel.xchk.erase x) ∧
      (∀ a b u v, ys = [(a, u), (b, v)] → u = ref → v ≠ ref → a ≠ b → (s.siteRec a).st ≠ 1 → (s.siteRec b).st = 0 →
        ∃ w : State, exec .softwareArbitrationDone s = .next ((w.testDone q stINTEGRITY).complete q stINTEGRITY 0
            ({ x with charged := x.charged ++ [b.val] } : Xchk).result) ∧ (w.siteRec b).st = 1 ∧
          w.siteRec a = s.siteRec a ∧ w.rel.xchk = s.rel.xchk.erase x)) ∧
    (s.boot.powerGood = false → exec .riskTick s = .next s) ∧
    (s.boot.powerGood = true →
      let recent := (s.rel.now :: s.rel.recent).take 60
      let ce := min 63 (4 * Nat.log2 (1 + (recent.map fun x => x.1).sum))
      let droop := min 63 (8 * Nat.log2 (1 + (recent.map fun x => x.2.1).sum))
      let link := min 63 (16 * (recent.map fun x => x.2.2).sum)
      let level := ce + droop + link + s.riskTemp + min 3 (s.siteCount 1)
      let ctl := s.bar 0x50000C
      let rises := ctl.getLsbD 31 && s.rel.armed && decide (wfld ctl 0 8 ≤ level)
      ∃ t : State, exec .riskTick s = .next t ∧ t.cores = s.cores ∧ t.rel.now = (0, 0, 0) ∧ t.rel.recent = recent ∧
        t.rel.seconds = (s.rel.seconds + 1) % 60 ∧ t.rel.minutes = s.rel.minutes + (s.rel.seconds + 1) / 60 ∧
        t.bar 0x500008 = BitVec.ofNat 32
          (level + (ce <<< 8) + (droop <<< 14) + (link <<< 20) + (s.riskTemp <<< 26)) ∧
        (∀ o, o ≠ 0x500008 → t.bar o = s.bar o) ∧
        t.rel.armed = (if rises = true then false else if level + wfld ctl 8 8 < wfld ctl 0 8 then true else s.rel.armed)) ∧
    (∀ v : Word,
      (s.gated 0x500040 = true → exec (.relHistSelWrite v) s = .next (s.gatedWrite 0x500040)) ∧
      (s.gated 0x500040 = false → ∃ t : State, exec (.relHistSelWrite v) s = .next t ∧ s.onlyRegs t ∧
        t.bar 0x500040 = v &&& 0x77FFFF ∧
        (wfld v 0 19 < histCount (wfld v 20 3) → t.bar 0x500044 = 1 ∧ ∀ w, w < 72 →
          t.bar (0x500100 + 4 * w) = BitVec.ofNat 32 ((s.history (wfld v 20 3) (wfld v 0 19)).getD w 0)) ∧
        (histCount (wfld v 20 3) ≤ wfld v 0 19 → t.bar 0x500044 = 3))) ∧
    (∀ k : SiteId, s.history 0 k.val = if s.siteRec k = SiteRec.fresh then [0xFFFFFFFF, 0xFFFFFFFF, 0xFFFFFFFF, 0xFFFFFFFF]
      else (s.siteRec k).words)

/-! ### The lanterns -/

/-- R349-R353, R355, R358, R359, R361-R363, R366, R367, R375, R376, R440, R441: what training leaves a lantern in; a lantern
that leaves UP; what the link layer does with an arriving flit and a replay; the checks an arriving Jendex packet meets in
their order, its rewriting and injection; quiescing, the LINK reset, peers and keys; the forwarding table and the remote
windows. That a lantern whose peer information is missing is DOWN with cause 0, and that a retraining for NAKs carries cause
5, are the model's choices (log entry 24). -/
def Obligations.LanternLinks : Prop :=
  (∀ good : BitVec 16,
    let groups : List (Nat × Nat × Nat) := [(0, 0, 16), (1, 0, 8), (2, 8, 8), (3, 0, 4), (4, 4, 4), (5, 8, 4), (6, 12, 4)]
    let full (x : Nat × Nat × Nat) : Prop := ∀ i, i < x.2.2 → good.getLsbD (x.2.1 + i) = true;
    (pickGroup good = none ↔ ∀ x ∈ groups, ¬full x) ∧
    ∀ g w, pickGroup good = some (g, w) → ∃ f, (g, f, w) ∈ groups ∧ full (g, f, w) ∧ ∀ x ∈ groups, x.1 < g → ¬full x) ∧
  (∀ (p : Packet) v k, let q := Packet.rewrite p v k
    crcGood q = crcGood p ∧ hcrcGood q = true ∧ q.epoch = v ∧ q.dx.toNat = siteX k ∧ q.dy.toNat = siteY k ∧
      q.payload = p.payload ∧ q.dest = p.dest ∧ q.srcEpid = p.srcEpid ∧ q.seq = p.seq ∧ q.tag = p.tag ∧ q.type = p.type) ∧
  (∀ (a : BitVec 12) p q, a ∉ p → ackReplay a (p ++ a :: q) = q) ∧
  (∀ (a : BitVec 12) r, a ∉ r → ackReplay a r = r) ∧
  ∀ (s : State) (l : Fin 48),
    let n := s.lantern l
    let base := 0x400000 + 0x1000 * l.val
    let others (t : State) : Prop := ∀ m, m ≠ l.val → t.lantern m = s.lantern m
    let only (t : State) : Prop := t = { s with lnts := { s.lnts with tbl := t.lnts.tbl } } ∧ others t
    let recent (ts : List DWord) : List DWord := ts.filter fun t => decide ((s.clk.ts - t).toNat < 1000000)
    let down (i : Instr) (cause : Nat) : Prop := ∃ t : State, exec i s = .next t ∧ (t.lantern l).st = 1 ∧
      (t.lantern l).cause = cause ∧ (t.lantern l).width = 0 ∧ (t.lantern l).encOn = false ∧ (t.lantern l).out = [] ∧
      (t.lantern l).replay = [] ∧ (t.lantern l).req = none ∧ t.cores = s.cores ∧ others t
    (∀ o : TrainObs, let i := Instr.lanternTrainDone l o
      (n.st ≠ 2 → exec i s = .next s) ∧
      (n.st = 2 → o.signal = false → down i 1) ∧
      (n.st = 2 → o.signal = true →
        (pickGroup o.good = none → down i 2) ∧
        (pickGroup o.good ≠ none → o.peer = none → down i 0) ∧
        ∀ g p, pickGroup o.good = some g → o.peer = some p →
          let dup := p.engine.toNat = s.ownId ∧ p.netEn = true ∧ s.netEn = true;
          (dup → down i 3) ∧
          (¬dup → o.peerEnc ≠ (s.bar (base + 4)).getLsbD 1 → down i 4) ∧
          (¬dup → o.peerEnc = (s.bar (base + 4)).getLsbD 1 → ∃ t : State, exec i s = .next t ∧
            (t.lantern l).st = 3 ∧ (t.lantern l).width = g.2 ∧ (t.lantern l).group = g.1 ∧
            (t.lantern l).encOn = ((s.bar (base + 4)).getLsbD 1 && p.enc) ∧ (t.lantern l).peer = some p ∧
            (t.lantern l).good = o.good ∧ (t.lantern l).txSeq = 0 ∧ (t.lantern l).rxNext = 0 ∧
            (t.lantern l).replay = [] ∧ (t.lantern l).req = none))) ∧
    (let auto := n.st = 1 ∧ (s.bar (base + 4)).getLsbD 0 = true;
      (auto → ∃ t : State, exec (.lanternAutoRetrain l) s = .next t ∧ only t ∧ t.lantern l = { n with st := 2 }) ∧
      (¬auto → exec (.lanternAutoRetrain l) s = .next s)) ∧
    (n.st ≠ 3 → exec (.lanternSignalLoss l) s = .next s) ∧
    (n.st = 3 → ∃ t : State, exec (.lanternSignalLoss l) s = .next t ∧ (t.lantern l).st = 1 ∧ (t.lantern l).cause = 1 ∧
      (t.lantern l).width = 0 ∧ (t.lantern l).recal = none ∧ t.cores = s.cores ∧ others t ∧
      (t.bar (base + 0x2C)).toNat = min 0xFFFFFFFF ((s.bar (base + 0x2C)).toNat + 1)) ∧
    (∀ (f : Flit) ok, n.st ≠ 3 → n.st ≠ 4 → exec (.flitReceive l f ok) s = .next s) ∧
    (∀ f : Flit, n.st = 3 ∨ n.st = 4 → f.fseq = n.rxNext →
      ∃ t : State, exec (.flitReceive l f .good) s = .next t ∧
        t = { s with lnts := { s.lnts with tbl := t.lnts.tbl }, w64 := t.w64 } ∧ others t ∧
        t.lantern l = { n with
          rxNext := if f.type = 0 ∨ f.type = 2 then n.rxNext + 1 else n.rxNext
          await := if f.type = 0 ∨ f.type = 2 then false else n.await
          used := (t.lantern l).used
          replay := if f.ackValid = true then ackReplay f.ackSeq n.replay else n.replay } ∧
        (∀ i, i < 4 → Tbl.get 0 (t.lantern l).used i = Tbl.get 0 n.used i - fld f.credits.toNat (16 * i) 16) ∧
        t.ctr64 (base + 0x40) = s.ctr64 (base + 0x40) + 1 ∧ ∀ o, o ≠ base + 0x40 → t.ctr64 o = s.ctr64 o) ∧
    (∀ f : Flit, n.st = 3 → n.await = false → (recent n.naks).length < 64 → ∀ bad : Nat × FlitCheck,
      bad ∈ [(0, FlitCheck.good), (0, .badLcrc), (0x14, .corrected), (0x18, .uncorrectable)] →
      (bad.2 = .good ∨ bad.2 = .corrected → f.fseq ≠ n.rxNext) →
      ∃ t : State, exec (.flitReceive l f bad.2) s = .next t ∧ others t ∧ t.cores = s.cores ∧ t.fab = s.fab ∧
        t.lantern l = { n with await := true, naks := recent n.naks ++ [s.clk.ts], out := n.out ++ [.nak (n.rxNext - 1)] } ∧
        (bad.1 ≠ 0 → (t.bar (base + bad.1)).toNat = min 0xFFFFFFFF ((s.bar (base + bad.1)).toNat + 1))) ∧
    (∀ f : Flit, n.st = 3 → n.await = true →
      exec (.flitReceive l f .badLcrc) s = .next s ∧
      (n.encOn = true → (recent n.tags).length < 4 → ∃ t : State, exec (.flitReceive l f .badTag) s = .next t ∧ only t ∧
        t.lantern l = { n with tags := recent n.tags ++ [s.clk.ts] }) ∧
      (n.encOn = true → 4 ≤ (recent n.tags).length → ∃ t : State, exec (.flitReceive l f .badTag) s = .next t ∧ others t ∧
        (t.lantern l).st = 1 ∧ (t.lantern l).tagFail = true ∧ (t.lantern l).encOn = false)) ∧
    (∀ f : Flit, n.st = 3 → n.await = false → 64 ≤ (recent n.naks).length → ∃ t : State,
      exec (.flitReceive l f .badLcrc) s = .next t ∧ others t ∧ (t.lantern l).st = 2 ∧ (t.lantern l).cause = 5) ∧
    (∀ a : BitVec 12, n.st = 3 → (recent n.naks).length < 64 → ∃ t : State, exec (.flitReplay l a) s = .next t ∧ others t ∧
      t.lantern l = { n with replay := ackReplay a n.replay, naks := recent n.naks ++ [s.clk.ts] } ∧
      t.ctr64 (base + 0x38) = s.ctr64 (base + 0x38) + BitVec.ofNat 64 (ackReplay a n.replay).length ∧
      (t.bar (base + 0x1C)).toNat = min 0xFFFFFFFF ((s.bar (base + 0x1C)).toNat + (ackReplay a n.replay).length)) ∧
    (∀ (hops : BitVec 4) (p : Packet),
      let i := Instr.jendexIngress l hops p
      let own := faEngine p.dest = s.ownId
      let into (u t : State) (h : BitVec 4) (k : SiteId) : Prop := match s.resolve s.curVer p.dest p.srcEpid.toNat with
        | .refuse code => t = u.refuseIn k p code
        | .site d => u.onlyFlights t ∧ t.fab.flights = u.fab.flights ++ [flightP k .loc false h (Packet.rewrite p s.curVer d)]
      ((n.st ≠ 3 ∧ n.st ≠ 4) ∨ p.plane = .c → exec i s = .next s) ∧
      (n.st = 3 ∨ n.st = 4 → p.plane ≠ .c →
        (s.netEn = false → exec i s = .next (s.addLnt l 0x28 1)) ∧
        (s.netEn = true → ¬own → hops = 15 → exec i s = .next (s.addLnt l 0x24 1)) ∧
        (s.netEn = true → own ∨ hops ≠ 15 →
          (hcrcGood p = false → exec i s = .next (s.addLnt l 0x28 1)) ∧
          ∀ k, hcrcGood p = true → attachment (s.fab.endpoint s.curVer (16 + l)) (p.srcEpid.toNat % 8) = some k →
            (n.st = 4 → isResponse p.type = false →
              exec i s = .next (s.refuseIn k p (if own then rRESET else rHOLE))) ∧
            (n.st = 3 → ¬own → ∃ t : State, exec i s = .next t ∧ into s t (hops + 1) k) ∧
            (isResponse p.type = true → own → ∃ t : State, exec i s = .next t ∧ into s t hops k) ∧
            (n.st = 3 → own → isResponse p.type = false →
              (s.admitting p = none → exec i s = .next ((s.addLnt l 0x20 1).refuseIn k p rDENIED)) ∧
              ∀ w, s.admitting p = some w → ∃ t : State, exec i s = .next t ∧ into (s.noteAdmitted w p) t hops k)))) ∧
    (∀ (w : Nat) (p : Packet), s.admitting p = some w →
      let at_ := if faM p.dest = true then faStack p.dest else faOff p.dest
      let len := if p.type = tRD_REQ then p.bytes.toNat else p.payload.length
      let word (i : Nat) := s.bar (0x430100 + 0x20 * w + 4 * i)
      w < 64 ∧ (word 0).getLsbD 31 = true ∧ (word 0).getLsbD 19 = faM p.dest ∧
        (faM p.dest = false → wfld (word 0) 0 19 ≤ faEpid p.dest ∧ faEpid p.dest ≤ wfld (word 1) 0 19) ∧
        (word 4).toNat + 2 ^ 32 * (word 5).toNat ≤ at_ ∧ at_ + len ≤ (word 6).toNat + 2 ^ 32 * (word 7).toNat ∧
        wfld (word 2) 0 12 ≤ p.srcEngine.toNat ∧ p.srcEngine.toNat ≤ wfld (word 2) 16 12 ∧
        (p.type = tRD_REQ → (word 0).getLsbD 29 = true) ∧
        (p.type ≠ tRD_REQ → (word 0).getLsbD 30 = true ∧ p.type ∈ [tWR, tLAND, tCONTRIB, tMC_WR])) ∧
    (∀ p : PeerInfo,
      let dup := p.engine.toNat = s.ownId ∧ p.netEn = true ∧ s.netEn = true;
      (n.st ≠ 2 → n.st ≠ 3 → exec (.peerInfo l p) s = .next s) ∧
      (n.st = 2 ∨ n.st = 3 → ¬dup →
        ∃ t : State, exec (.peerInfo l p) s = .next t ∧ only t ∧ t.lantern l = { n with peer := some p }) ∧
      (n.st = 2 ∨ n.st = 3 → dup → down (.peerInfo l p) 3)) ∧
    (let weight := if n.st = 3 then n.width / 4 else 0
      let ver := if s.curVer = true then 0 else 1
      let names (e : Nat) : Prop := (Tbl.get 0 s.fab.fwdSet (ver * 16 + e) : BitVec 48).getLsbD l = true
      let restages (i : Instr) (w : Nat) : Prop :=
        ((∀ e, e < 16 → ¬names e) → exec i s = .next s) ∧
        ((∃ e, e < 16 ∧ names e) → ∃ u : State, exec i s = .next (u.askFlip { req := none, why := .cupola, check := true }) ∧
          u = { s with fab := { s.fab with fwdWt := u.fab.fwdWt } } ∧
          ∀ x, ((∃ e, e < 16 ∧ names e ∧ x = (ver * 16 + e) * 48 + l) → Tbl.get 0 u.fab.fwdWt x = w) ∧
            ((¬∃ e, e < 16 ∧ names e ∧ x = (ver * 16 + e) * 48 + l) → Tbl.get 0 u.fab.fwdWt x = Tbl.get 0 s.fab.fwdWt x))
      restages (.lanternRestage l) weight ∧
      (∀ b, (n.st = 3 → restages (.linkQuiesce l b) 0) ∧ (n.st ≠ 3 → exec (.linkQuiesce l b) s = .next s))) ∧
    (n.st ≠ 4 → exec (.lanternQuiesceEnd l) s = .next s) ∧
    (n.st = 4 → ∃ t : State, exec (.lanternQuiesceEnd l) s = .next t ∧ only t ∧ t.lantern l =
      { n with st := if n.req.isSome = true then 2 else 1, cause := 0, width := 0, group := 0, encOn := false, await := false
               replay := [], used := [], out := [] }) ∧
    (∀ (r : Fin 256) j d, s.begun r j 0x18 d → d.bits 8 0 3 = 3 → d.bits 0xC 0 16 % 64 = l.val →
      let req := (r.val, d.uid);
      (s.resetBusy = true → exec (.resetLink r j) s = .next (s.complete req stBUSY)) ∧
      (s.resetBusy = false →
        (n.st = 0 → exec (.resetLink r j) s = .next (s.complete req stNOTREADY)) ∧
        (n.st = 3 → ∃ t : State, exec (.resetLink r j) s = .next t ∧ others t ∧ (t.lantern l).st = 4 ∧
          (t.lantern l).req = some req ∧ (t.lantern l).out = n.out ++ [.quiesce false] ∧ t.cores = s.cores) ∧
        (n.st = 1 → ∃ t : State, exec (.resetLink r j) s = .next t ∧ others t ∧ (t.lantern l).st = 2 ∧
          (t.lantern l).req = some req ∧ t = { s with lnts := t.lnts, host := (s.setBusy req).host }))) ∧
    (let on := n.st = 3 ∧ n.encOn = true;
      (on → ∃ t : State, exec (.keyRenew l) s = .next t ∧ only t ∧ t.lantern l = { n with keyGen := n.keyGen + 1 }) ∧
      (¬on → exec (.keyRenew l) s = .next s)) ∧
    (∀ v : Word,
      (s.gated 0x430090 = true → exec (.lntFwdGo v) s = .next (s.gatedWrite 0x430090)) ∧
      (s.gated 0x430090 = false → v.getLsbD 0 = false → exec (.lntFwdGo v) s = .next s) ∧
      (s.gated 0x430090 = false → v.getLsbD 0 = true →
        let sel := s.bar 0x430080
        let ver := sel.getLsbD 12
        let x := wfld sel 0 12
        let mask : BitVec 48 := BitVec.ofNat 48 ((s.bar 0x430084).toNat + 2 ^ 32 * (s.bar 0x430088).toNat)
        let refused := ver = s.curVer ∨ s.epochReg.getLsbD 3 = true ∨ (sel.getLsbD 13 = true ∧ 16 ≤ x);
        (refused → exec (.lntFwdGo v) s = .next (s.setBar 0x430094 3)) ∧
        (¬refused → sel.getLsbD 13 = true → ∃ t : State, exec (.lntFwdGo v) s = .next t ∧ t.bar 0x430094 = 2 ∧
          t = { s with regs := t.regs, fab := { s.fab with fwdSet := t.fab.fwdSet, fwdWt := t.fab.fwdWt } } ∧
          Tbl.get 0 t.fab.fwdSet (ver.toNat * 16 + x) = mask ∧
          (∀ y, y ≠ ver.toNat * 16 + x → Tbl.get 0 t.fab.fwdSet y = Tbl.get 0 s.fab.fwdSet y) ∧
          ∀ m, m < 48 → Tbl.get 0 t.fab.fwdWt ((ver.toNat * 16 + x) * 48 + m) =
            if mask.getLsbD m = true ∧ (s.lantern m).st = 3 then (s.lantern m).width / 4 else 0) ∧
        (¬refused → sel.getLsbD 13 = true → ∃ t : State, exec (.lntFwdGo v) s = .next t ∧
          ∀ y, y / 48 ≠ ver.toNat * 16 + x → Tbl.get 0 t.fab.fwdWt y = Tbl.get 0 s.fab.fwdWt y) ∧
        (¬refused → sel.getLsbD 13 = false → ∃ t : State, exec (.lntFwdGo v) s = .next t ∧ t.bar 0x430094 = 2 ∧
          t = { s with regs := t.regs, fab := { s.fab with fwdEng := t.fab.fwdEng } } ∧
          Tbl.get 0 t.fab.fwdEng (ver.toNat * 4096 + x) = (s.bar 0x430084).setWidth 5 ∧
          ∀ y, y ≠ ver.toNat * 4096 + x → Tbl.get 0 t.fab.fwdEng y = Tbl.get 0 s.fab.fwdEng y))) ∧
    (∀ v : Word,
      (s.gated 0x430004 = true → exec (.lntSysIdWrite v) s = .next (s.gatedWrite 0x430004)) ∧
      (s.gated 0x430004 = false → ∃ t : State, exec (.lntSysIdWrite v) s = .next t ∧ s.onlyRegs t ∧
        (∀ o, o ≠ 0x430004 → t.bar o = s.bar o) ∧ t.netEn = v.getLsbD 31 ∧
        t.ownId = if s.netEn = true then s.ownId else wfld v 0 12)) ∧
    (∀ (x : Fin 64) (w : Fin 8) (v : Word),
      let off := 0x430100 + 0x20 * x.val + 4 * w.val
      let en := (s.bar (0x430100 + 0x20 * x.val)).getLsbD 31
      let i := Instr.lntRwinWrite x w v;
      (s.gated off = true → exec i s = .next (s.gatedWrite off)) ∧
      (s.gated off = false → ∃ t : State, exec i s = .next t ∧ s.onlyRegs t ∧ (∀ o, o ≠ off → t.bar o = s.bar o) ∧
        (w = 3 → t.bar off = s.bar off) ∧
        (en = true → w ≠ 0 → t.bar off = s.bar off) ∧
        (en = true → w = 0 → (t.bar off).getLsbD 31 = v.getLsbD 31 ∧ wfld (t.bar off) 0 31 = wfld (s.bar off) 0 31) ∧
        (en = false → w ≠ 3 → t.bar off =
          v &&& ([0xE00FFFFF, 0x0007FFFF, 0x0FFF0FFF, 0, 0xFFFFFFFF, 0xFFFFFFFF, 0xFFFFFFFF, 0xFFFFFFFF].getD w.val 0))))

/-! ### The system tree -/

/-- R369, R370, R372, R373, R374, R382, R398: what an engine reports up the tree and what the root sends down it, when a
frequency is applied and held; the exchange of times with its step, trim and lock; the marks of a system barrier and its
release. The trim itself is open; it is at most 500 ppm either way. -/
def Obligations.SystemTree : Prop :=
  (∀ f, 400 ≤ snap f ∧ snap f ≤ 1300 ∧ snap f % 25 = 0 ∧ (400 ≤ f → f ≤ 1300 → snap f ≤ f ∧ f < snap f + 25)) ∧
  ∀ s : State,
    let up := s.bar 0x43000C
    let on := up.getLsbD 31 = true
    let root := up.getLsbD 6 = true
    let upL := wfld up 0 6
    let agree := (s.bar 0x43001C).getLsbD 31 = true ∧ on
    let job : BitVec 16 := (s.bar 0x43001C).setWidth 16
    let child (l : Nat) : Prop := l ∈ s.treeDown
    let sends (t : State) (dst : Nat → Prop) (x : LinkOut) : Prop :=
      ∀ l, (dst l ∧ (s.lantern l).st = 3 → t.lantern l = { s.lantern l with out := (s.lantern l).out ++ [x] }) ∧
        (¬(dst l ∧ (s.lantern l).st = 3) → t.lantern l = s.lantern l)
    let onlyLnts (t : State) : Prop := t = { s with lnts := t.lnts };
    (∀ l, child l ↔ (l < 32 ∧ (s.bar 0x430010).getLsbD l = true) ∨ (32 ≤ l ∧ l < 48 ∧ (s.bar 0x430014).getLsbD (l - 32) = true)) ∧
    (∀ i, i < 5 → s.ownLimit ≤ s.srcLimit i) ∧
    (s.ownLimit = 1300 ∨ ∃ i, i < 5 ∧ s.ownLimit = s.srcLimit i) ∧
    s.lowest ≤ s.ownLimit ∧ (∀ l, child l → s.lowest ≤ Tbl.get 1300 s.lnts.limits l) ∧
    (s.lowest = s.ownLimit ∨ ∃ l, child l ∧ s.lowest = Tbl.get 1300 s.lnts.limits l) ∧
    (∃ f, s.retarget = { s with clk := { s.clk with target := f } } ∧
      (¬agree ∨ s.lnts.lastSet = none → f = snap s.ownLimit) ∧
      (∀ g, agree → s.lnts.lastSet = some g → f = snap (min s.ownLimit g) ∨ f = snap (min s.ownLimit (min g s.clk.target))) ∧
      (∀ g, agree → s.lnts.lastSet = some g → s.lnts.frozen = true ∨ (¬root ∧ (s.lantern upL).st ≠ 3) →
        f = snap (min s.ownLimit (min g s.clk.target))) ∧
      (∀ g, agree → s.lnts.lastSet = some g → s.lnts.frozen = false → root ∨ (s.lantern upL).st = 3 →
        f = snap (min s.ownLimit g))) ∧
    exec .freqAgreeTimer s = .next (s.reportLimit false) ∧
    (∀ u, (¬agree → s.reportLimit u = s) ∧
      (agree → let t := s.reportLimit u
        onlyLnts t ∧ t.lnts = { s.lnts with tbl := t.lnts.tbl, nextSet := t.lnts.nextSet, freqSq := s.lnts.freqSq + 1 } ∧
        (root → t.lnts.nextSet = s.lnts.nextSet ++ [(s.lowest, s.clk.ts + 200000)] ∧
          sends t child (.freqSet job (BitVec.ofNat 16 s.lowest) (s.lnts.freqSq + 1) (s.clk.ts + 200000))) ∧
        (¬root → t.lnts.nextSet = s.lnts.nextSet ∧
          sends t (fun l => l = upL) (.freqLimit job (BitVec.ofNat 16 s.lowest) (s.lnts.freqSq + 1) u)))) ∧
    (∀ (l : Fin 48) (j mhz sq : BitVec 16) urgent, let i := Instr.freqLimit l j mhz sq urgent
      let ours := (s.bar 0x43001C).getLsbD 31 = true ∧ j = job;
      (¬child l → exec i s = .next s) ∧
      (child l → ¬ours → on → ¬root → ∃ t : State, exec i s = .next t ∧ onlyLnts t ∧
        t.lnts = { s.lnts with tbl := t.lnts.tbl } ∧ sends t (fun l => l = upL) (.freqLimit j mhz sq urgent)) ∧
      (child l → ¬ours → ¬on ∨ root → exec i s = .next s) ∧
      (child l → ours → ∃ v : State, exec i s = .next (if urgent = true ∧ v.lowest < s.lowest then v.reportLimit true else v) ∧
        v = { s with lnts := { s.lnts with limits := v.lnts.limits } } ∧ Tbl.get 1300 v.lnts.limits l = mhz.toNat ∧
        ∀ m, m ≠ l.val → Tbl.get 1300 v.lnts.limits m = Tbl.get 1300 s.lnts.limits m)) ∧
    (∀ (l : Fin 48) (j mhz sq : BitVec 16) at_, let i := Instr.freqSet l j mhz sq at_
      let parent := on ∧ ¬root ∧ l.val = upL;
      (¬parent → exec i s = .next s) ∧
      (parent → ∃ t : State, exec i s = .next t ∧ onlyLnts t ∧ sends t child (.freqSet j mhz sq at_) ∧
        t.lnts = { s.lnts with tbl := t.lnts.tbl, nextSet := t.lnts.nextSet } ∧
        ((s.bar 0x43001C).getLsbD 31 = true ∧ j = job → t.lnts.nextSet = s.lnts.nextSet ++ [(mhz.toNat, at_)]) ∧
        (¬((s.bar 0x43001C).getLsbD 31 = true ∧ j = job) → t.lnts.nextSet = s.lnts.nextSet))) ∧
    ((∀ f at_ rest, s.lnts.nextSet = (f, at_) :: rest → s.clk.ts.toNat < at_.toNat) → exec .freqSetApply s = .next s) ∧
    (∀ f at_ rest, s.lnts.nextSet = (f, at_) :: rest → at_.toNat ≤ s.clk.ts.toNat → ∃ v : State,
      exec .freqSetApply s = .next v.retarget ∧
      v = { s with lnts := { s.lnts with lastSet := some f, nextSet := rest, frozen := false } }) ∧
    (∀ f, (s.bar 0x43001C).getLsbD 31 = true → s.lnts.lastSet = some f → ∃ v : State,
      exec .freqSetTimeout s = .next v.retarget ∧ v = { s with lnts := { s.lnts with frozen := true } }) ∧
    ((s.bar 0x43001C).getLsbD 31 = false ∨ s.lnts.lastSet = none → exec .freqSetTimeout s = .next s) ∧
    (let asks := on ∧ ¬root ∧ (s.lantern upL).st = 3;
      (asks → ∃ t : State, exec .timeSyncTimer s = .next t ∧ onlyLnts t ∧
        t.lnts = { s.lnts with tbl := t.lnts.tbl, asked := some s.clk.ts } ∧ sends t (fun l => l = upL) (.timeReq s.clk.ts)) ∧
      (¬asks → exec .timeSyncTimer s = .next s)) ∧
    (∀ (l : Fin 48) t1 t3, ∃ t : State, exec (.timeReq l t1 t3) s = .next t ∧ onlyLnts t ∧
      t.lnts = { s.lnts with tbl := t.lnts.tbl } ∧
      sends t (fun m => m = l.val) (.timeRsp s.clk.ts ((t3 - s.clk.ts).setWidth 32))) ∧
    (∀ (l : Fin 48) t1 t2 (d : Word) t4, let i := Instr.timeRsp l t1 t2 d t4
      let parent := on ∧ ¬root ∧ l.val = upL
      let off : Int := ((t2 - t1).toInt - (t4 - t2 - d.setWidth 64).toInt) / 2
      let old := s.bar 0x430018;
      (¬parent ∨ s.lnts.asked ≠ some t1 → exec i s = .next s) ∧
      (parent → s.lnts.asked = some t1 → ∃ t : State, exec i s = .next t ∧
        t = { s with regs := t.regs, lnts := t.lnts, clk := { s.clk with ts := t.clk.ts } } ∧
        (∀ o, o ≠ 0x430018 → t.bar o = s.bar o) ∧
        t.lnts = { s.lnts with asked := none, okRun := if off.natAbs < 5 then s.lnts.okRun + 1 else 0
                               badRun := if 50 < off.natAbs then s.lnts.badRun + 1 else 0
                               first := t.lnts.first, trim := t.lnts.trim } ∧
        ((t.bar 0x430018).setWidth 16).toInt = max (-32768) (min 32767 off) ∧
        ((t.bar 0x430018).getLsbD 16 = true ↔
          (old.getLsbD 16 = true ∨ 16 ≤ t.lnts.okRun) ∧ t.lnts.badRun < 16) ∧
        (s.lnts.first = true ∧ old.getLsbD 16 = false → t.clk.ts = s.clk.ts + BitVec.ofInt 64 off ∧
          (t.bar 0x430018).getLsbD 17 = true ∧ t.lnts.first = false ∧ t.lnts.trim = s.lnts.trim) ∧
        (s.lnts.first = false ∨ old.getLsbD 16 = true → t.clk.ts = s.clk.ts ∧
          (t.bar 0x430018).getLsbD 17 = old.getLsbD 17 ∧ t.lnts.first = s.lnts.first ∧
          -500 ≤ t.lnts.trim ∧ t.lnts.trim ≤ 500))) ∧
    (∃ t : State, exec .timeRspTimeout s = .next t ∧ t = { s with regs := t.regs, lnts := { s.lnts with
        asked := none, okRun := 0, badRun := 0 } } ∧ (t.bar 0x430018).getLsbD 16 = false ∧
      (∀ b, b ≠ 16 → (t.bar 0x430018).getLsbD b = (s.bar 0x430018).getLsbD b) ∧
      ∀ o, o ≠ 0x430018 → t.bar o = s.bar o) ∧
    (∀ (l : Fin 48) (b : BitVec 14) (sense : Bool),
      let key := 2 * b.toNat + sense.toNat
      let registered := ∃ n, n < 16 ∧ (s.bar (0x430020 + 4 * n)).getLsbD 31 = true ∧ wfld (s.bar (0x430020 + 4 * n)) 0 14 = b.toNat
      let marks : BitVec 49 := Tbl.get 0 s.lnts.marks key ||| (1 <<< l.val)
      let all := marks.getLsbD 48 = true ∧ ∀ m, child m → marks.getLsbD m = true
      let others (t : State) : Prop := ∀ x, x ≠ key → Tbl.get 0 t.lnts.marks x = Tbl.get 0 s.lnts.marks x
      let frame (t : State) : Prop :=
        t = { s with lnts := { s.lnts with tbl := t.lnts.tbl, marks := t.lnts.marks }, fab := { s.fab with flights := t.fab.flights } }
      let released (t : State) : Prop :=
        let g := s.fab.groupRoot s.curVer b.toNat
        sends t child (.sbarRelease b sense) ∧ (g.getLsbD 31 = false → t.fab.flights = s.fab.flights) ∧
          (g.getLsbD 31 = true → t.fab.flights = s.fab.flights ++ [flightC (mkSite (wfld g 0 10) (wfld g 10 9)) .loc false
            (mkC 3 0 s.curVer 0 0 (barArg b.toNat sense) 0)])
      (¬registered ∨ ¬child l → exec (.sbarArrive l b sense) s = .next s) ∧
      (registered → child l → ∃ t : State, exec (.sbarArrive l b sense) s = .next t ∧ frame t ∧ others t ∧
        (¬all ∨ ¬on ∨ (¬root ∧ (s.lantern upL).st ≠ 3) →
          Tbl.get 0 t.lnts.marks key = marks ∧ t.fab.flights = s.fab.flights ∧ t.lnts.tbl = s.lnts.tbl) ∧
        (all → on → root → Tbl.get 0 t.lnts.marks key = 0 ∧ released t) ∧
        (all → on → ¬root → (s.lantern upL).st = 3 → Tbl.get 0 t.lnts.marks key = 0 ∧ t.fab.flights = s.fab.flights ∧
          sends t (fun m => m = upL) (.sbarArrive b sense))) ∧
      (registered → on → ¬root → l.val = upL → ∃ t : State, exec (.sbarRelease l b sense) s = .next t ∧ frame t ∧
        t.lnts.marks = s.lnts.marks ∧ released t) ∧
      (¬registered ∨ ¬on ∨ root ∨ l.val ≠ upL → exec (.sbarRelease l b sense) s = .next s))

/-! ### Clocks, power and heat -/

/-- R384, R386, R388, R391, R392, R398, R400, R405, R410, R416: what a window of the reference monitor and a stopped
reference do; parking; the ramp of F; a source limit set; droop; domes that enter IDLE and wake. That the offset is rounded
down to 10 ppm is the model's choice (log entry 27). -/
def Obligations.ClocksAndDomes : Prop :=
  280 ≤ refLimit ∧ refLimit ≤ 320 ∧
  ∀ s : State,
    let status := s.bar 0x100004
    let loses (u t : State) : Prop :=
      t.clk = { s.clk with parking := !s.clk.stopped } ∧ t.cores = s.cores ∧ t.rel.xchk = [] ∧
        t.fab = { s.fab with flights := t.fab.flights } ∧ (s.host.reads = [] → t.fab = s.fab) ∧ t.rel.logSq = s.rel.logSq + 1 ∧ (∀ a, (t.area a).borrowed = true → (s.area a).borrowed = true) ∧
        t.clkStatus = (u.clkStatus ||| 6) &&& 0xFFFFFFEF
    (∀ ppm : Int, ∃ u : State, s.onlyRegs u ∧
      ((u.bar 0x100008).setWidth 16).toInt = max (-32760) (min 32760 (ppm / 10 * 10)) ∧
      (u.clkStatus.getLsbD 0 = true ↔ ppm.natAbs ≤ refLimit) ∧ (u.clkStatus.getLsbD 3 = true ↔ 100 < ppm.natAbs) ∧
      (∀ b, b ≠ 0 → b ≠ 3 → u.clkStatus.getLsbD b = status.getLsbD b) ∧
      (∀ o, o ≠ 0x100004 → o ≠ 0x100008 → u.bar o = s.bar o) ∧
      (ppm.natAbs ≤ refLimit ∨ status.getLsbD 4 = false → exec (.refWindowEnd ppm) s = .next u) ∧
      (refLimit < ppm.natAbs → status.getLsbD 4 = true → ∃ t : State, exec (.refWindowEnd ppm) s = .next t ∧ loses u t ∧
        t.host.pcie = s.host.pcie ∧
        (s.eventMasked 1 = false → s.eventsOpen = true → Tbl.get none t.host.events 1 ≠ none))) ∧
    (status.getLsbD 4 = false → ∃ t : State, exec .refStopped s = .next t ∧ s.onlyRegs t ∧
      t.clkStatus = status &&& 0xFFFFFFFE ∧ ∀ o, o ≠ 0x100004 → t.bar o = s.bar o) ∧
    (status.getLsbD 4 = true → ∃ u t : State, exec .refStopped s = .next t ∧ u.clkStatus = status &&& 0xFFFFFFFE ∧ loses u t ∧
      t.host.pcie.up = false) ∧
    (s.clk.parking = false → exec .domeParkDone s = .next s) ∧
    (s.clk.parking = true → s.boot.warm = false → ∃ t : State, exec .domeParkDone s = .next t ∧
      t.clk.parking = false ∧ t.clk.stopped = true ∧ t.clk.f = s.clk.f ∧ t.clk.gcc = s.clk.gcc ∧
      t.clkStatus = status ||| 64 ∧ (∀ d, d < 12 → t.domeState d = 3) ∧ t.fab.flights = [] ∧ t.rel.xchk = [] ∧
      (∀ r, (t.ring r).started = []) ∧ (∀ i, (t.stack i).repair = none) ∧
      (∀ l, l < 48 → (s.lantern l).st ≠ 0 → (t.lantern l).st = 1 ∧ (t.lantern l).out = [] ∧ (t.lantern l).req = none) ∧
      ∀ k, s.siteOn k = true → (t.core k).seqr.run = false ∧ (t.core k).march = none ∧
        (∀ e, e < 5 → ((t.core k).engine e).queue = [] ∧ ((t.core k).engine e).run = []) ∧
        (∀ b, b < 4 → (t.core k).pwrState b = if (s.core k).pwrState b = 0 then 1 else (s.core k).pwrState b) ∧
        ((s.core k).march = none → (t.core k).sram = (s.core k).sram) ∧ (t.core k).rgnId = (s.core k).rgnId) ∧
    (s.clk.stopped = true → exec .freqRampStep s = .next s) ∧
    (s.clk.stopped = false → ∃ t : State, exec .freqRampStep s = .next t ∧ t = { s with clk := { s.clk with f := t.clk.f } } ∧
      (s.clk.f < s.clk.target → t.clk.f = min s.clk.target (s.clk.f + 25)) ∧
      (s.clk.target < s.clk.f → t.clk.f = max s.clk.target (s.clk.f - 25)) ∧ (s.clk.f = s.clk.target → t.clk.f = s.clk.f)) ∧
    (∀ i f, ∃ v : State, v = { s with clk := { s.clk with limit := v.clk.limit } } ∧ v.srcLimit i = snap f ∧
      (∀ j, j ≠ i → v.srcLimit j = s.srcLimit j) ∧
      s.setLimit i f = if v.retarget.lowest < s.lowest then v.retarget.reportLimit true else v.retarget) ∧
    (∀ a : Fin 288,
      let runs := (s.area a).on = true ∧ (s.area a).borrowed = false
      let recent := (s.clk.stretches.filter fun x => decide ((s.clk.ts - x).toNat < 1000000)) ++ [s.clk.ts];
      (¬runs → exec (.droopTrip a) s = .next s) ∧
      (runs → ∃ v : State,
        exec (.droopTrip a) s = .next (if recent.length % 17 = 0 then v.setLimit 4 (s.clk.f - 25) else v) ∧
        v = { s with rel := v.rel, clk := { s.clk with stretch := 64, stretched := true, stretches := recent } } ∧
        v.areaRec a = { s.areaRec a with stretch := min 0xFFFFFFFF ((s.areaRec a).stretch + 1) } ∧
        (∀ b, b ≠ a.val → v.areaRec b = s.areaRec b) ∧ v.rel.site = s.rel.site ∧
        v.rel.now = (s.rel.now.1, s.rel.now.2.1 + 1, s.rel.now.2.2))) ∧
    (∃ v : State, v = { s with clk := { s.clk with stretched := false } } ∧
      (s.clk.stretched = true ∨ s.handingOver = true → exec .droopLimitTick s = .next v) ∧
      (s.clk.stretched = false → s.handingOver = false →
        exec .droopLimitTick s = .next (v.setLimit 4 (s.srcLimit 4 + 25)))) ∧
    (∀ d : Fin 12,
      let others (t : State) : Prop := ∀ e, e ≠ d.val → t.domeState e = s.domeState e
      let restless (c : Core) : Prop := (s.region c.rgnId).conf = true ∨ c.march ≠ none ∨
        ∃ b, b < 4 ∧ (c.mapped b = true ∨ (c.bankCtl b).getLsbD 9 = true ∨
          (c.pwrState b = 0 ∧ (c.bankCtl b).getLsbD 4 = true))
      let free := (s.bar 0x10001C).getLsbD 31 = true ∧ (s.bar 0x100020).getLsbD d = false ∧ s.domeState d = 0 ∧
        ∀ i, i < 24 → (s.area (24 * d.val + i)).borrowed = false
      (free → (∀ x ∈ s.cores, siteDome (Fin.ofNat 294912 x.1) = d.val → ¬restless x.2) → ∃ t : State,
        exec (.domeIdleEntry d) s = .next t ∧ t = { s with clk := { s.clk with dome := t.clk.dome } } ∧
        t.domeState d = 1 ∧ others t) ∧
      (¬free → exec (.domeIdleEntry d) s = .next s) ∧
      (∀ k, siteDome k = d.val → s.core k ≠ Core.reset → restless (s.core k) → exec (.domeIdleEntry d) s = .next s) ∧
      (s.domeState d = 1 → ∃ t : State, exec (.domeWake d) s = .next t ∧ t.domeState d = 2 ∧ others t ∧ t.cores = s.cores ∧
        (t.bar 0x100024).toNat = min 0xFFFFFFFF ((s.bar 0x100024).toNat + 1)) ∧
      (s.domeState d ≠ 1 → exec (.domeWake d) s = .next s) ∧
      (s.domeState d = 2 → ∃ t : State, exec (.domeWakeDone d) s = .next t ∧
        t = { s with clk := { s.clk with dome := t.clk.dome } } ∧ t.domeState d = 0 ∧ others t) ∧
      (s.domeState d ≠ 2 → exec (.domeWakeDone d) s = .next s)) ∧
    (∀ v : Word,
      (s.gated 0x100020 = true → exec (.clkHoldWrite v) s = .next (s.gatedWrite 0x100020)) ∧
      (s.gated 0x100020 = false → ∃ t : State, exec (.clkHoldWrite v) s = .next t ∧ t.bar 0x100020 = v &&& 0xFFF ∧
        (∀ d, t.domeState d = if d < 12 ∧ v.getLsbD d = true ∧ s.domeState d = 1 then 2 else s.domeState d) ∧
        (t.bar 0x100024).toNat = min 0xFFFFFFFF ((s.bar 0x100024).toNat +
          (List.range 12).countP fun d => v.getLsbD d && s.domeState d == 1) ∧
        (∀ x ∈ s.rel.xchk, (x ∈ t.rel.xchk ↔ x.passes = 0 ∨ 288 ≤ x.area ∨ v.getLsbD (x.area / 24) = false)) ∧
        ∀ a, a < 288 → v.getLsbD (a / 24) = false → t.area a = s.area a))

/-- R39, R330, R332, R394-R399, R401, R403, R404, R406, R408, R416, R422, R423: an area's trip, retry and latch; what is fatal
and the shutdown that follows; the input voltage; the ticks that move the source limits; sensors; energy and the caps. The
clamp of a cap before the capability mirror is loaded is the model's choice (log entry 3). -/
def Obligations.PowerAndHeat : Prop :=
  ∀ s : State,
    (∀ cls cause, let t := s.fatalStop cls cause
      (s.pwr.fatal = true ∨ s.boot.powerGood = false → t = s) ∧
      (s.pwr.fatal = false → s.boot.powerGood = true → t.pwr.fatal = true ∧ t.clk = { s.clk with parking := !s.clk.stopped } ∧
        t.rel.xchk = [] ∧ t.rel.logSq = s.rel.logSq + 1 ∧ t.cores = s.cores ∧ t.fab = s.fab ∧ t.lnts = s.lnts ∧
        (s.eventMasked cls = false → s.eventsOpen = true → Tbl.get none t.host.events cls ≠ none))) ∧
    exec .inputOvercurrent s = .next (s.fatalStop 4 3) ∧ exec .auxFault s = .next (s.fatalStop 4 4) ∧
    (∀ a, exec (.spireBusLoss a) s = .next (s.fatalStop 4 6)) ∧
    (∀ a : Fin 288,
      let x := s.area a
      let r := s.areaRec a
      let recent := (s.pwr.trips.filter fun y => decide ((s.clk.ts - y.1).toNat < 100000000)) ++ [(s.clk.ts, a.val)]
      let many := 4 < (recent.map fun y => y.2).eraseDups.length
      let others (t : State) : Prop := ∀ b, b ≠ a.val → t.area b = s.area b;
      (x.on = false → x.starting = false → exec (.areaTrip a) s = .next s) ∧
      (x.on = true ∨ x.starting = true → ∃ t : State, exec (.areaTrip a) s = .next t ∧
        (t.bar 0x110080).toNat = min 0xFFFFFFFF ((s.bar 0x110080).toNat + 1) ∧ t.pwr.trips = recent ∧
        (t.area a).on = false ∧ (t.area a).starting = false ∧ (t.area a).borrowed = false ∧ (t.areaRec a).lastTrip = s.today ∧
        (t.areaRec a).trips = min 255 (r.trips + 1) ∧
        (x.starting = true ∨ r.st = 1 → (t.areaRec a).st = 2 ∧ (t.area a).awaiting = false ∧
          ∀ k ∈ areaSites a, (t.siteRec k).st = 3 ∧ (t.siteRec k).reason = 5) ∧
        (x.starting = false → r.st ≠ 1 → (t.areaRec a).st = r.st ∧ (¬many → (t.area a).awaiting = true)) ∧
        (x.on = true → s.epochReg.getLsbD 2 = false → t.epochReg.getLsbD 4 = true ∧
          (∀ k, siteArea k = a.val → t.core k = Core.reset) ∧ (∀ f ∈ t.fab.flights, siteArea f.site ≠ a.val) ∧
          ∀ k, siteArea k = a.val → (s.core k).rgnId ≠ 0 → (∃ e ∈ s.regionCores (s.core k).rgnId, e.2 = k) →
            (s.region (s.core k).rgnId).live = true → (t.region (s.core k).rgnId).st = 6 ∧
              (t.region (s.core k).rgnId).fault.map (fun f => f.cause) = some 9) ∧
        (many → (∀ y ∈ recent, (t.area y.2).awaiting = false ∧ (t.area y.2).starting = false) ∧
          (s.boot.powerGood = true → t.pwr.fatal = true)) ∧
        (¬many → x.borrowed = false → s.epochReg.getLsbD 2 = false → others t ∧ t.pwr.fatal = s.pwr.fatal)) ∧
      (let retries := x.awaiting = true ∧ s.pwr.fatal = false;
        (¬retries → exec (.areaRetry a) s = .next s) ∧
        (retries → ∃ t : State, exec (.areaRetry a) s = .next t ∧ t = { s with pwr := t.pwr, rel := t.rel } ∧
          t.area a = { x with awaiting := false, starting := true } ∧ others t ∧ t.areaRec a = { r with st := 1 } ∧
          (∀ b, b ≠ a.val → t.areaRec b = s.areaRec b) ∧ t.rel.site = s.rel.site ∧ t.rel.logSq = s.rel.logSq + 1)) ∧
      (x.starting = false → exec (.areaRetryDone a) s = .next s) ∧
      (x.starting = true → ∃ t : State, exec (.areaRetryDone a) s = .next t ∧
        t = { s with pwr := { s.pwr with area := t.pwr.area }, routers := t.routers, cores := t.cores } ∧
        t.area a = { x with on := true, starting := false } ∧ others t ∧
        (∀ k ∈ areaSites a, t.router k = { s.router k with
          fence := some (BitVec.ofNat 8 (if (s.siteRec k).st = 2 then (s.siteRec k).reason else 4)) }) ∧
        (∀ k, k ∉ areaSites a → t.router k = s.router k) ∧
        ∀ k, t.core k = { s.core k with spare := (t.core k).spare })) ∧
    (∀ mv us, ∃ v : State, v = { s with pwr := { s.pwr with millivolt := mv } } ∧
      (us < 100 → exec (.inputVoltageExcursion mv us) s = .next v) ∧
      (100 ≤ us →
        (mv < 36000 → ∃ t : State, exec (.inputVoltageExcursion mv us) s = .next t ∧ t.boot.powerGood = false ∧
          t.cores = [] ∧ t.routers = [] ∧ t.stks.tbl = [] ∧ t.host.mem = s.host.mem ∧ t.rel.site = s.rel.site ∧
          t.rel.area = s.rel.area ∧ t.rel.log = s.rel.log ∧ t.rel.minutes = s.rel.minutes ∧ t.fw.minSvn = s.fw.minSvn ∧
          t.sec.owner = s.sec.owner ∧ t.pending = s.pending ∧ t.pwr.millivolt = mv ∧
          (s.fw.staging = none → t.fw.slot = s.fw.slot)) ∧
        (36000 ≤ mv → mv < 48000 → exec (.inputVoltageExcursion mv us) s = .next (v.fatalStop 4 1)) ∧
        (61000 < mv → exec (.inputVoltageExcursion mv us) s = .next (v.fatalStop 4 2)) ∧
        (59000 < mv → mv ≤ 61000 → ∃ t : State, exec (.inputVoltageExcursion mv us) s = .next t ∧
          t = { v with rel := { v.rel with log := t.rel.log, logSq := v.rel.logSq + 1 } } ∧
          ∃ e ∈ t.rel.log, e.type = 5 ∧ e.sq = s.rel.logSq) ∧
        (48000 ≤ mv → mv ≤ 59000 → exec (.inputVoltageExcursion mv us) s = .next v))) ∧
    (s.pwr.fatal = false → exec .spireShutdown s = .next s) ∧
    (s.pwr.fatal = true → ∃ t : State, exec .spireShutdown s = .next t ∧ t.cores = [] ∧ (∀ a, (t.area a).on = false) ∧
      (∀ i, (t.stack i).mem = EccMem.zero) ∧ t.clk.stopped = true ∧
      t.host.pcie.up = false ∧ t.boot.portUp = false ∧ t.boot.coreUp = false ∧ t.rel.site = s.rel.site ∧
      ∀ k : SiteId, ((t.router k).fence = some 4 ∨ (t.router k).fence = none) ∧
        ((t.router k).fence = some 4 ↔ ∃ x ∈ s.routers, x.1 = k.val ∧ x.2.fence = some 4)) ∧
    (∀ (u : State) key n cond act, u.everyTicks key n cond act =
      let m := if cond = true then Tbl.get 0 u.clk.runs key + 1 else 0
      let v : State := { u with clk := { u.clk with runs := Tbl.set 0 u.clk.runs key m } }
      if 0 < m ∧ m % n = 0 then act v else v) ∧
    (∀ i, s.lowerLimit i = (if s.handingOver = true then s else s.setLimit i (s.srcLimit i - 25)) ∧
      s.raiseLimit i = if s.handingOver = true then s else s.setLimit i (s.srcLimit i + 25)) ∧
    s.cap = min (wfld (s.bar 0x110004) 0 16) (min s.pwr.chassis (wfld (s.bar 0x54) 0 16)) ∧
    (∀ w,
      let p := if s.pwr.useMax = true then max w s.pwr.estimate else w
      let v : State := { s with pwr := { s.pwr with power := w, control := p } }
      let low := p * 100 < s.cap * 97
      let u := v.everyTicks 1 10 (decide low) fun s => s.raiseLimit 1;
      (s.cap * 11 ≤ p * 10 → exec (.powerCapTick w) s = .next (u.setLimit 1 (u.clk.f - 100))) ∧
      (s.cap < p → p * 10 < s.cap * 11 → exec (.powerCapTick w) s = .next (u.lowerLimit 1)) ∧
      (p ≤ s.cap → p * 10 < s.cap * 11 → exec (.powerCapTick w) s = .next u)) ∧
    (∀ ma,
      let v : State := { s with pwr := { s.pwr with milliamp := ma } }
      let u := v.everyTicks 2 100 (decide (ma < 540000)) fun s => s.raiseLimit 2;
      (ma ≤ 550000 → exec (.currentLimitTick ma) s = .next u) ∧
      (550000 < ma → ∃ x : State, exec (.currentLimitTick ma) s = .next (x.setLimit 2 (s.clk.f - 50)) ∧ x.clk.stretch = 64 ∧
        x.clk.f = s.clk.f ∧ x.clk.limit = s.clk.limit ∧ x.cores = s.cores ∧
        x.rel.now = (s.rel.now.1, s.rel.now.2.1 + 1, s.rel.now.2.2))) ∧
    (∀ e w, ∃ t : State, exec (.activityEstimate e w) s = .next t ∧ t = { s with pwr := t.pwr, rel := t.rel } ∧
      (let far := w < 4 * (max e w - min e w)
        let on := s.pwr.useMax = true ∨ 100 < t.pwr.differ
        t.pwr.power = w ∧ t.pwr.estimate = e ∧ t.pwr.differ = (if far then s.pwr.differ + 1 else 0) ∧
        t.pwr.agree = (if far then 0 else s.pwr.agree + 1) ∧
        (t.pwr.useMax = true ↔ on ∧ t.pwr.agree < 10000) ∧
        t.pwr.control = (if t.pwr.useMax = true then max w e else w) ∧
        (on → 10000 ≤ t.pwr.agree → s.pwr.episode ≠ none → t.rel.logSq = s.rel.logSq + 1 ∧ t.pwr.episode = none) ∧
        (¬on ∨ t.pwr.agree < 10000 → t.rel = s.rel))) ∧
    (∀ x : List Int,
      let read (n : Nat) : Int := if 304 ≤ n ∧ n < 336 ∧ s.populated (n - 304) = false then 0 else x.getD n 0
      let throttle (n : Nat) : Int := if n < 288 then 95 else if n < 304 then 100 else 88
      let top (n : Nat) : Int := if n < 288 then 110 else if n < 304 then 115 else if n < 336 then 105 else if n < 338 then 115 else 70
      let hot := ∃ n, n < 336 ∧ throttle n < read n
      let cool := ∀ n, n < 336 → read n + 3 ≤ throttle n
      let reached := ∃ n, n < 336 ∧ throttle n + 5 ≤ read n ∧ s.pwr.sensors.getD n 0 < throttle n + 5
      let trips (n : Nat) : Prop := n < 339 ∧ top n ≤ read n
      ∃ v : State, v = { s with pwr := { s.pwr with sensors := v.pwr.sensors, atTrip := v.pwr.atTrip } } ∧
        (∀ n, n < 339 → v.pwr.sensors[n]? = some (read n)) ∧ (∀ n, n ∈ v.pwr.atTrip ↔ trips n) ∧
        ∃ bh bc br : Bool, (bh = true ↔ hot) ∧ (bc = true ↔ cool) ∧ (br = true ↔ reached) ∧
          (let u (a : State) : State := (a.everyTicks 3 10 bh fun s => s.lowerLimit 3).everyTicks 4 100 bc fun s => s.raiseLimit 3
            let w := if br = true then u (v.setLimit 3 (s.clk.f - 200)) else u v;
            ((∀ n, trips n → n ∉ s.pwr.atTrip) → exec (.sensorRead x) s = .next w) ∧
            (∀ n, trips n → n ∈ s.pwr.atTrip → (∀ m, m < n → trips m → m ∉ s.pwr.atTrip) →
              exec (.sensorRead x) s = .next (w.fatalStop 3 n)))) ∧
    (∀ uj, ∃ t : State, exec (.energyUpdate uj) s = .next t ∧ t = { s with w64 := t.w64 } ∧
      t.ctr64 0x110008 = s.ctr64 0x110008 + BitVec.ofNat 64 uj ∧ ∀ o, o ≠ 0x110008 → t.ctr64 o = s.ctr64 o) ∧
    (∀ (r : Fin 256) j d, s.begun r j 0x1C d →
      (s.gate 2 = false → exec (.energySnapshot r j) s = .next (s.complete (r.val, d.uid) stGATED)) ∧
      (s.gate 2 = true → exec (.energySnapshot r j) s =
        .next (s.complete (r.val, d.uid) stOK 0 (s.clk.ts ++ s.ctr64 0x110008)))) ∧
    (let ceiling := if (s.bar 0x40).getLsbD 0 = true then wfld (s.bar 0x54) 0 16 else 28000
      let kept (w : Nat) : Nat := if ceiling < w then ceiling else max 8000 w;
      (∀ v : Word,
        (s.gated 0x110004 = true → exec (.pwrCapWrite v) s = .next (s.gatedWrite 0x110004)) ∧
        (s.gated 0x110004 = false → ∃ t : State, exec (.pwrCapWrite v) s = .next t ∧ s.onlyRegs t ∧
          (t.bar 0x110004).toNat = kept (wfld v 0 16) ∧ ∀ o, o ≠ 0x110004 → t.bar o = s.bar o)) ∧
      ∀ w, ∃ t : State, exec (.chassisCapSet w) s = .next t ∧ t = { s with pwr := { s.pwr with chassis := kept w } })

/-! ### Resets, start-up and the host's registers -/

/-- R316, R320, R322, R333, R339, R341, R344, R405, R406, R440-R443, R455: the resets of cores and regions, the WARM reset
with what it keeps, PERST#, the loss and retraining of the PCIe link, an access to a gated block and through BAR4. -/
def Obligations.ResetsAndHostRegisters : Prop :=
  ∀ s : State,
    (∀ (r : Fin 256) j d, s.begun r j 0x18 d →
      let req := (r.val, d.uid);
      (∀ i ∈ [(1, Instr.resetCompute r j), (2, .resetRegion r j), (4, .resetWarm r j)], d.bits 8 0 3 = i.1 →
        s.resetBusy = true → exec i.2 s = .next (s.complete req stBUSY)) ∧
      (s.resetBusy = false → d.bits 8 0 3 = 1 → ∃ t : State, exec (.resetCompute r j) s = .next t ∧
        t.boot = { s.boot with resetting := some req } ∧ t.lnts = s.lnts ∧ t.stks = s.stks ∧ t.clk = s.clk ∧
        t.rel.site = s.rel.site ∧ (∀ x ∈ t.rel.xchk, x.passes = 0 ∨ 288 ≤ x.area) ∧
        (∀ id, (s.region id).conf = true → t.region id = Region.reset) ∧
        (∀ k, (t.core k).seqr.run = false ∧ (t.core k).seqr.flags = 0 ∧ (t.core k).tokq = [] ∧ (t.core k).march = none ∧
          (∀ e, e < 5 → ((t.core k).engine e).queue = [] ∧ ((t.core k).engine e).run = []) ∧
          (∀ n, n < 64 → (t.core k).chState n = 0) ∧ (t.core k).reg 0x10000C = 0 ∧ (t.core k).reg 0x10030C = 0) ∧
        (s.rel.xchk = [] → ∀ k b x, (s.core k).march = none → b < 4 → x / 0x10000 = b →
          memRead (t.core k).sram.data x =
            if ((s.core k).bankCtl b).getLsbD 4 = true then memRead (s.core k).sram.data x else 0)) ∧
      (s.resetBusy = false → d.bits 8 0 3 = 2 →
        let id := d.bits 0xC 0 16;
        ((s.region id).conf = false → exec (.resetRegion r j) s = .next (s.complete req stNOTREADY)) ∧
        ((s.region id).conf = true → ∃ t : State, exec (.resetRegion r j) s = .next t ∧ t.region id = Region.reset ∧
          t.boot = { s.boot with resetting := some req } ∧ (∀ i, i ≠ id → t.region i = s.region i) ∧
          ((s.region id).live = true → t.rgns.blocked = s.rgns.blocked ||| (1 <<< (s.region id).gen.toNat)) ∧
          (∀ e ∈ s.regionCores id, (t.core e.2).inReset = true ∧ (t.core e.2).seqr.run = false ∧
            (t.core e.2).reg 0x10000C = 0) ∧
          ∀ k, (∀ e ∈ s.regionCores id, e.2 ≠ k) → t.core k = s.core k)) ∧
      (s.resetBusy = false → d.bits 8 0 3 = 4 → exec (.resetWarm r j) s = .next ((s.endStarted req).complete req stOK).beginWarm ∧
        ∀ q, (((s.endStarted req).complete req stOK).ring q).started = [])) ∧
    (∀ u : State, u.clk.stopped = false → 4 ≤ u.stepNow → let t := u.beginWarm
      t.boot = { u.boot with warm := true, resetting := none } ∧ t.clk = { u.clk with parking := true } ∧ t.cores = u.cores ∧
        ∀ l, l < 48 → (t.lantern l).req = none ∧ ((u.lantern l).st = 3 → (t.lantern l).st = 4 ∧
          (t.lantern l).out = (u.lantern l).out ++ [.quiesce true]) ∧ ((u.lantern l).st ≠ 3 → (t.lantern l).st = (u.lantern l).st)) ∧
    (∀ u : State, let t := u.warmReset
      t.cores = [] ∧ (∀ id, t.region id = Region.reset) ∧ t.fab = State.reset.fab ∧ (∀ a, (t.area a).on = false) ∧
        (∀ i, (t.stack i).mem = EccMem.zero) ∧ t.host.pcie.up = false ∧ t.rel.xchk = [] ∧ t.rel.site = u.rel.site ∧
        t.rel.log = u.rel.log ∧ t.fw = u.fw ∧ t.sec = { u.sec with ideKey := none, ideNext := none } ∧
        t.boot = { u.boot with warm := false, resetting := none, waitSupply := true, waitRef := false, coreUp := false
                               portUp := false } ∧
        t.clk = { u.clk with parking := false, stopped := true } ∧ t.ctr64 0x110008 = u.ctr64 0x110008 ∧
        (∀ l, l < 48 → t.lantern l = { Lantern.reset with st := if (u.lantern l).st = 0 then 0 else 1 }) ∧
        t.clkStatus = u.clkStatus &&& 0xFFFFFF8B ∧ t.bar 0x10004 = 0 ∧
        ((u.bar 0x40).getLsbD 0 = true → wfld (t.bar 0x110004) 0 16 = wfld (u.bar 0x54) 0 16) ∧
        (∀ o ∈ [0x40, 0x44, 0x48, 0x4C, 0x50, 0x54, 0x10C, 0x10001C, 0x100020, 0x100024, 0x110080, 0x500004, 0x50000C,
          0x600004, 0x600008, 0x60000C], t.bar o = u.bar o) ∧ wfld (t.bar 0x700004) 0 4 = 3) ∧
    (s.clk.parking = true → s.boot.warm = true →
      (s.warmMayPark = false → exec .domeParkDone s = .next s) ∧
      (s.warmMayPark = true → exec .domeParkDone s =
        .next ((if s.clk.stopped = true then s else s.park).warmReset))) ∧
    (s.boot.perst = true → exec .perstAssert s = .next s) ∧
    (s.boot.perst = false → ∃ v : State, v.boot = { s.boot with perst := true, portUp := false } ∧ v.host.pcie.up = false ∧
      v.clk = s.clk ∧ v.regs = (linkDown s).regs ∧
      (s.boot.powerGood = false ∨ s.boot.seat = false → exec .perstAssert s = .next v ∧ v.cores = s.cores) ∧
      (s.boot.powerGood = true → s.boot.seat = true → exec .perstAssert s = .next v.beginWarm ∧
        ∀ x ∈ v.cores, x.2.inReset = false)) ∧
    (∃ t : State, exec .perstDeassert s = .next t ∧ t.boot = { s.boot with perst := false, portUp := s.boot.portUp || s.boot.coreUp } ∧
      (s.boot.coreUp = true → t.host.pcie = { s.host.pcie with up := true, lanes := 16, rate8 := 16 } ∧ s.onlyRegs
          { t with host := s.host, boot := s.boot } ∧ (t.bar 0x100).getLsbD 3 = false) ∧
      (s.boot.coreUp = false → t.regs = s.regs ∧ t.host = s.host)) ∧
    (let cleared (t : State) : Prop := t.cores = s.cores ∧ t.rgns = s.rgns ∧ t.stks = s.stks ∧ t.bar 0x10004 = 0 ∧
        (∀ q, (t.ring q).started = [] ∧ (t.ring q).fetched = []) ∧ (∀ i, t.window i = Window.reset) ∧
        t.host.events = [] ∧ t.host.reads = [] ∧ t.host.mem = s.host.mem ∧
        (∀ o, 0x20000 ≤ o → o < 0x30000 → t.bar o = State.reset.bar o) ∧
        (∀ o, o < 0x20000 ∨ 0x40000 ≤ o → o ≠ 0x10004 → t.bar o = s.bar o) ∧
        t.fab = { s.fab with flights := t.fab.flights } ∧ (s.host.reads = [] → t.fab = s.fab);
      (∃ t : State, exec .pcieLinkDown s = .next t ∧ cleared t ∧
        t.host.pcie = { s.host.pcie with up := false, secure := false, keyNext := false }) ∧
      ∃ t : State, exec .functionLevelReset s = .next t ∧ cleared t ∧ t.host.pcie = s.host.pcie) ∧
    (∀ lanes rate8, (s.boot.portUp = false → exec (.pcieRetrain lanes rate8) s = .next s) ∧
      (s.boot.portUp = true → ∃ t : State, exec (.pcieRetrain lanes rate8) s = .next t ∧
        t.host.pcie = { s.host.pcie with up := true, lanes := lanes, rate8 := rate8 } ∧
        ((t.bar 0x100).getLsbD 3 = true ↔ lanes < 16 ∨ rate8 < 16) ∧ t.cores = s.cores ∧
        t.rel.now = (s.rel.now.1, s.rel.now.2.1, s.rel.now.2.2 + 1) ∧
        (lanes < 16 ∨ rate8 < 16 → s.eventMasked 0x14 = false → s.eventsOpen = true →
          Tbl.get none t.host.events 0x14 ≠ none))) ∧
    (∃ t : State, exec .ideIntegrityFailure s = .next t ∧ t = { s with host := { s.host with pcie := t.host.pcie } } ∧
      t.host.pcie = { s.host.pcie with secure := false, aerIde := s.host.pcie.aerIde || s.host.pcie.secure }) ∧
    (∀ off wr, (s.gated off = false → exec (.gatedAccess off wr) s = .next s) ∧
      (s.gated off = true → wr = true → exec (.gatedAccess off wr) s = .next (s.gatedWrite off)) ∧
      (s.gated off = true → wr = false → ∃ t : State, exec (.gatedAccess off wr) s = .next t ∧
        t = { s with host := { s.host with abort := true, last := [] } })) ∧
    (∀ off, s.onlyRegs (s.gatedWrite off) ∧ ((s.gatedWrite off).bar 0x10C).getLsbD 0 = true ∧
      ((s.bar 0x110).getLsbD 31 = true → (s.gatedWrite off).bar 0x110 = s.bar 0x110) ∧
      ((s.bar 0x110).getLsbD 31 = false → off < 2 ^ 26 → (s.gatedWrite off).bar 0x110 = BitVec.ofNat 32 (2 ^ 31 + off)) ∧
      (s.gated off = true ↔ (0x20000 ≤ off ∧ off < 0x30000 ∧ (s.bar 0x10004).getLsbD 0 = false) ∨
        (0x100000 ≤ off ∧ off < 0x110000 ∧ (s.bar 0x10004).getLsbD 1 = false) ∨
        (0x110000 ≤ off ∧ off < 0x200000 ∧ (s.bar 0x10004).getLsbD 2 = false) ∨
        (0x200000 ≤ off ∧ off < 0x300000 ∧ (s.bar 0x10004).getLsbD 3 = false) ∨
        (0x300000 ≤ off ∧ off < 0x400000 ∧ (s.bar 0x10004).getLsbD 4 = false) ∨
        (0x400000 ≤ off ∧ off < 0x500000 ∧ (s.bar 0x10004).getLsbD 5 = false) ∨
        (0x500000 ≤ off ∧ off < 0x600000 ∧ (s.bar 0x10004).getLsbD 6 = false))) ∧
    (∀ (off n : Nat) (b : List Byte),
      let addr : DWord := (s.bar 0x128 ++ s.bar 0x124) + BitVec.ofNat 64 off
      let err (v : State) (i : Nat) : State := v.setBar 0x10C (setBit (v.bar 0x10C) i true)
      let aborts (v : State) : State := { v with host := { v.host with abort := true, last := [] } };
      ((s.bar 0x120).getLsbD 0 = false →
        exec (.debugWindowAccess off (.read n)) s = .next (aborts s) ∧
        exec (.debugWindowAccess off (.write b)) s = .next (err s 4)) ∧
      ((s.bar 0x120).getLsbD 0 = true →
        (∀ v x, s.fabRead entHost addr n = (v, rOK, x) → exec (.debugWindowAccess off (.read n)) s =
          .next { v with host := { v.host with abort := false, last := x } }) ∧
        (∀ v code x, s.fabRead entHost addr n = (v, code, x) → code ≠ rOK →
          exec (.debugWindowAccess off (.read n)) s = .next (aborts (err v 5))) ∧
        (∀ v m, s.fabWrite entHost addr b = (v, rOK, m) → exec (.debugWindowAccess off (.write b)) s = .next v) ∧
        (∀ v code m, s.fabWrite entHost addr b = (v, code, m) → code ≠ rOK →
          exec (.debugWindowAccess off (.write b)) s = .next (err v 5))))

/-! ### Firmware, ownership, alarms, SPDM -/

/-- R218, R332, R437, R445, R447-R449, R452, R462: what FW_STAGE checks in its order and writes; a handover with its end and
its failure; activation in RECOVERY; the security mailbox's replies and each of its commands. -/
def Obligations.FirmwareAndMailbox : Prop :=
  ∀ s : State,
    (∀ t (b : List Byte) len,
      let kept := leAt b 4 4 < 2 ∧ leAt b 0xE 2 = 0 ∧ leAt b 0x1B 5 = 0 ∧ leAt b 0x44 28 = 0 ∧ leAt b 0xF14 12 = 0
      let laid := len = 0x1000 + leAt b 0x10 8 ∧ 1 ≤ leAt b 0x10 8 ∧ leAt b 0x10 8 ≤ 15 * 2 ^ 20 ∧ leAt b 0 4 = 0x46575456 ∧
        leAt b 0x40 4 = 1
      let signed := s.cryptoOk = true ∧ makerSigned (slice b 0x40 3808) (Config.sha3 (b.take 64)) = true
      let whole := Config.sha3 (b.drop 0x1000) = BitVec.ofNat 256 (leAt b 0x20 32)
      let fits := leAt b 4 4 = t ∧ leAt b 0x18 2 = 0x5654 ∧ leAt b 0x1A 1 ≤ wfld (s.bar 8) 0 8;
      (¬kept → s.fwCheck t b len = some stBADRSVD) ∧
      (kept → ¬laid → s.fwCheck t b len = some stINTEGRITY) ∧
      (kept → laid → ¬signed → s.fwCheck t b len = some stDENIED) ∧
      (kept → laid → signed → ¬whole → s.fwCheck t b len = some stINTEGRITY) ∧
      (kept → laid → signed → whole → ¬fits → s.fwCheck t b len = some stBADVER) ∧
      (kept → laid → signed → whole → fits → leAt b 0xC 2 < s.minSvn t → s.fwCheck t b len = some stDENIED) ∧
      (kept → laid → signed → whole → fits → s.minSvn t ≤ leAt b 0xC 2 → s.fwCheck t b len = none)) ∧
    (∀ (r : Fin 256) j d, s.begun r j 0x19 d →
      let req := (r.val, d.uid)
      let t := d.bits 8 0 2;
      (s.fw.staging ≠ none ∨ s.fw.handover ≠ none → ∀ h, exec (.fwStage r j h) s = .next (s.complete req stBUSY)) ∧
      (s.fw.staging = none → s.fw.handover = none →
        (∀ got code, exec (.fwStage r j (.failed got code)) s = .next (s.complete req stWINDOW code.toNat)) ∧
        ∀ b, b.length = d.f 0x18 4 →
          (∀ st, s.fwCheck t b b.length = some st → exec (.fwStage r j (.data b)) s = .next (s.complete req st)) ∧
          (s.fwCheck t b b.length = none → ∃ u : State, exec (.fwStage r j (.data b)) s = .next u ∧
            u = { s with fw := u.fw, host := (s.setBusy req).host } ∧
            u.fw = { s.fw with slot := u.fw.slot, staging := some (t, r.val, d.uid,
              { version := BitVec.ofNat 32 (leAt b 8 4), svn := BitVec.ofNat 16 (leAt b 0xC 2), digest := Config.sha3 b
                bad := false, staged := true }) } ∧
            u.fwSlot t (1 - s.runSlot t) = { s.fwSlot t (1 - s.runSlot t) with staged := false } ∧
            (s.runSlot t < 2 → u.fwSlot t (s.runSlot t) = s.fwSlot t (s.runSlot t))))) ∧
    (s.fw.staging = none → exec .fwStageDone s = .next s) ∧
    (∀ t ring uid x, s.fw.staging = some (t, ring, uid, x) → ∃ v : State,
      exec .fwStageDone s = .next (v.complete (ring, uid) stOK) ∧
      v = { s with fw := { s.fw with staging := none, slot := v.fw.slot } } ∧ v.fwSlot t (1 - s.runSlot t) = x ∧
      ∀ y i, 2 * y + i ≠ 2 * t + (1 - s.runSlot t) → v.fwSlot y i = s.fwSlot y i) ∧
    (∀ t, t < 2 → s.runSlot t < 2 → let v := s.switchFw t
      let i := 1 - s.runSlot t
      v = { s with fw := { s.fw with slot := v.fw.slot, run := v.fw.run, minSvn := v.fw.minSvn } } ∧ v.runSlot t = i ∧
        v.runSlot (1 - t) = s.runSlot (1 - t) ∧ v.minSvn t = max (s.minSvn t) (s.fwSlot t i).svn.toNat ∧
        v.minSvn (1 - t) = s.minSvn (1 - t) ∧ v.fwSlot t i = { s.fwSlot t i with staged := false }) ∧
    (∀ (r : Fin 256) j d, s.begun r j 0x1A d → ∀ i ∈ [(0, Instr.fwActivateCupola r j), (1, .fwActivateSecurity r j)],
      d.bits 8 0 2 = i.1 →
      let t := i.1
      let req := (r.val, d.uid)
      let next := 1 - s.runSlot t;
      (s.fw.handover ≠ none → exec i.2 s = .next (s.complete req stBUSY)) ∧
      (s.fw.handover = none → (s.fwSlot t next).staged = false → exec i.2 s = .next (s.complete req stNOTREADY)) ∧
      (s.fw.handover = none → (s.fwSlot t next).staged = true →
        (s.boot.recover = none → ∃ v : State, v = { s with host := (s.setBusy req).host, fw := { s.fw with
            handover := some (t, req) } } ∧
          (t = 0 → exec i.2 s = .next (if v.cupolaRuns = true then v else v.abortScheduled)) ∧
          (t = 1 → ∃ u : State, exec i.2 s = .next u ∧ u = { v with sec := { v.sec with sess := [], nonce := none } })) ∧
        (∀ x, s.boot.recover = some x → x ≠ t → exec i.2 s = .next (s.complete req stNOTREADY)) ∧
        (s.boot.recover = some t → s.slotVerifies t next = false → ∃ v : State,
          exec i.2 s = .next (v.complete req stINTEGRITY) ∧ v = { s with fw := { s.fw with slot := v.fw.slot } } ∧
          v.fwSlot t next = { s.fwSlot t next with bad := true, staged := false }) ∧
        (s.boot.recover = some 0 → t = 0 → s.slotVerifies 0 next = true → ∃ v : State,
          exec i.2 s = .next (v.complete req stOK) ∧ v.boot = { s.boot with recover := none, waitSupply := true } ∧
          v.fw = (s.switchFw 0).fw ∧ v.phase = 3 ∧ 1 ≤ v.stepNow ∧ v.cores = s.cores))) ∧
    (s.fw.handover = none → exec .fwHandoverReady s = .next s ∧ exec .fwHandoverTimeout s = .next s) ∧
    (∀ t req, s.fw.handover = some (t, req) →
      (t = 0 → s.cupolaRuns = true → exec .fwHandoverReady s = .next s ∧ ∃ v : State,
        exec .fwHandoverTimeout s = .next (v.complete req stBUSY) ∧ v = { s with fw := { s.fw with handover := none } }) ∧
      (t = 1 ∨ (t = 0 ∧ s.cupolaRuns = false ∧ s.rel.xchk = []) →
        (∃ v : State, exec .fwHandoverReady s = .next (v.complete req stOK) ∧ v.fw = { (s.switchFw t).fw with handover := none } ∧
          v.cores = s.cores ∧ v.lnts = s.lnts ∧ v.rgns = s.rgns) ∧
        ∃ v : State, exec .fwHandoverTimeout s = .next (v.complete req stINTEGRITY) ∧
          v = { s with fw := { s.fw with handover := none, slot := v.fw.slot } } ∧
          v.fwSlot t (1 - s.runSlot t) = { s.fwSlot t (1 - s.runSlot t) with bad := true, staged := false })) ∧
    (∀ req (d : Desc) st body, s.mailReply req d st body =
      let rsp := (leBytes 8 st ++ body).take (d.f 0x20 2);
      (s.hostWrite (d.f 0x18 8) rsp).complete req stOK 0 (BitVec.ofNat 128 rsp.length)) ∧
    (∀ (r : Fin 256) j d, s.begun r j 0x1B d →
      let req := (r.val, d.uid)
      let mails (h : HostRead) : List (Nat × Instr) := [(1, .getNonce r j h), (2, .setOwner r j h), (3, .addImageKey r j h),
        (3, .removeImageKey r j h), (3, .setBootPolicy r j h), (3, .releaseOwner r j h), (0x10, .makerUnlock r j h)]
      let owns (h : HostRead) : List (Nat × Instr) :=
        [(1, .addImageKey r j h), (2, .removeImageKey r j h), (3, .setBootPolicy r j h), (4, .releaseOwner r j h)];
      (s.secPaused = true → ∀ h, ∀ i ∈ mails h, exec i.2 s = .next s) ∧
      (s.secPaused = false →
        (∀ got code, ∀ i ∈ mails (.failed got code), exec i.2 s = .next (s.complete req stWINDOW code.toNat)) ∧
        ∀ b, b.length = d.f 0x10 2 →
          let x := b.drop 8
          let cmd := leAt b 0 2
          let replies (i : Instr) (st : Nat) : Prop := exec i s = .next (s.mailReply req d st []);
          (b.length < 8 ∨ leAt b 2 6 ≠ 0 → ∀ i ∈ mails (.data b), replies i.2 stBADRSVD) ∧
          (8 ≤ b.length → leAt b 2 6 = 0 →
            (cmd ∉ [1, 2, 3, 0x10] → ∀ i ∈ mails (.data b), replies i.2 stBADOPC) ∧
            (s.cryptoOk = false → ∀ i ∈ mails (.data b), cmd = i.1 → replies i.2 stDENIED) ∧
            (s.cryptoOk = true →
              (cmd = 1 → (x ≠ [] → replies (.getNonce r j (.data b)) stBADRSVD) ∧
                (x = [] → ∃ n v, n.length = 32 ∧ exec (.getNonce r j (.data b)) s = .next (State.mailReply v req d stOK n) ∧
                  v = { s with fresh := s.fresh + 1, sec := { s.sec with nonce := some n } })) ∧
              (cmd = 2 → (s.sec.owner ≠ [] → replies (.setOwner r j (.data b)) stNOTREADY) ∧
                (s.sec.owner = [] → x.length ≠ 1312 → replies (.setOwner r j (.data b)) stBADRSVD) ∧
                (s.sec.owner = [] → x.length = 1312 → ∃ v : State, exec (.setOwner r j (.data b)) s =
                  .next (v.mailReply req d stOK []) ∧ v = { s with sec := { s.sec with owner := x } })) ∧
              (cmd = 3 →
                let a := slice x 0x28 48
                let nonce := slice x 8 32
                let ver := Config.mldsaVerify s.sec.owner (leBytes 32 (Config.sha3 (x.take 0x58)).toNat) (x.drop 0x58);
                (x.length ≠ 2508 ∨ leAt x 1 7 ≠ 0 ∨ leAt x 0 1 ∉ [1, 2, 3, 4] → ∀ i ∈ owns (.data b), replies i.2 stBADRSVD) ∧
                (x.length = 2508 → leAt x 1 7 = 0 → ∀ i ∈ owns (.data b), leAt x 0 1 = i.1 →
                  (ownerArg i.1 a = false → replies i.2 stBADRSVD) ∧
                  (ownerArg i.1 a = true → s.sec.owner = [] → replies i.2 stNOTREADY) ∧
                  (ownerArg i.1 a = true → s.sec.owner ≠ [] → s.sec.nonce ≠ some nonce → replies i.2 stDENIED) ∧
                  (ownerArg i.1 a = true → s.sec.owner ≠ [] → s.sec.nonce = some nonce → ∃ v : State,
                    exec i.2 s = .next (v.mailReply req d (if ver = true then stOK else stDENIED) []) ∧
                    v = { s with sec := v.sec } ∧ v.sec.nonce = none ∧
                    (ver = false → v.sec = { s.sec with nonce := none }) ∧
                    (ver = true → i.1 = 1 → v.sec = { s.sec with nonce := none, imgKey := v.sec.imgKey } ∧ ∀ n,
                      Tbl.get none v.sec.imgKey n = if n = leAt a 0 1 then some (BitVec.ofNat 256 (leAt a 8 32))
                        else Tbl.get none s.sec.imgKey n) ∧
                    (ver = true → i.1 = 2 → v.sec = { s.sec with nonce := none, imgKey := v.sec.imgKey } ∧ ∀ n,
                      Tbl.get none v.sec.imgKey n = if n = leAt a 0 1 then none else Tbl.get none s.sec.imgKey n) ∧
                    (ver = true → i.1 = 3 → v.sec = { s.sec with nonce := none, bootPol := BitVec.ofNat 32 (leAt a 0 4)
                                                                 lockBoot := leAt a 4 1 == 1 }) ∧
                    (ver = true → i.1 = 4 → v.sec = { s.sec with nonce := none, owner := [], imgKey := [], bootPol := 0
                                                                 lockBoot := false })))) ∧
              (cmd = 0x10 →
                let i := Instr.makerUnlock r j (.data b)
                let nonce := slice x 0x10 32
                let good := leAt x 0 4 = 0x4B4D5456 ∧ BitVec.ofNat 64 (leAt x 8 8) = Config.serial ∧
                  makerSigned (slice x 0x30 3808) (Config.sha3 (x.take 0x30)) = true
                (x.length ≠ 3856 ∨ sigLayout (slice x 0x30 3808) = false → replies i stBADRSVD) ∧
                (x.length = 3856 → sigLayout (slice x 0x30 3808) = true →
                  (s.sec.nonce ≠ some nonce → replies i stDENIED) ∧
                  (s.sec.nonce = some nonce → ¬good → ∃ v : State, exec i s = .next (v.mailReply req d stDENIED []) ∧
                    v = { s with sec := { s.sec with nonce := none } }) ∧
                  (s.sec.nonce = some nonce → good → ∃ v : State, exec i s = .next (v.mailReply req d stOK []) ∧
                    v.sec = { s.sec with nonce := none, owner := [], imgKey := [], makerMode := true, makerSeen := true
                                         ideKey := none, ideNext := none } ∧
                    v.host.pcie.secure = false ∧ v.cores = s.cores ∧ ∀ l, l < 48 → (v.lantern l).keyed = false)))))))

/-- R339, R342, R387, R395, R397, R436, R437, R439, R446, R457-R461, R467, R477, R478: start-up with what it waits for and
halts on; alarms with their policy, DBG_LOCK and the entropy test; the sideband's readings; the input switch and SEAT. -/
def Obligations.StartupAndAlarms : Prop :=
  ∀ s : State,
    (∀ o, s.boot.powerGood = true ∨ s.boot.inputSw = false → exec (.powerGood o) s = .next s) ∧
    (∀ o : StartupObs, s.boot.powerGood = false → s.boot.inputSw = true →
      (o.selfTestOk = false → ∃ t : State, exec (.powerGood o) s = .next t ∧ t.boot.powerGood = true ∧ t.phase = 5 ∧
        wfld t.svcBoot 8 8 = 2 ∧ t.boot.coreUp = true ∧ t.ready = false ∧ t.cores = s.cores) ∧
      (o.selfTestOk = true → s.slotVerifies 1 (s.runSlot 1) = false → s.slotVerifies 1 (1 - s.runSlot 1) = false →
        ∃ t : State, exec (.powerGood o) s = .next t ∧ t.boot.powerGood = true ∧ t.boot.recover = some 1 ∧ t.phase = 6 ∧
          wfld t.svcBoot 8 8 = 1 ∧ t.ready = false) ∧
      (o.selfTestOk = true → s.slotVerifies 1 (s.runSlot 1) = true → s.slotVerifies 0 (s.runSlot 0) = true →
        ∃ u : State, u.boot = { s.boot with powerGood := true, slotId := o.slotId, recover := none } ∧ u.stepNow = 1 ∧
          u.phase = 3 ∧ u.fw = s.fw ∧ u.pwr = s.pwr ∧ u.cores = s.cores ∧ u.rel.site = s.rel.site ∧
          (∀ a, (u.areaRec a).st ≠ 1) ∧
          (o.supplyOk = true → s.coolEnough = true → exec (.powerGood o) s = .next (u.fromStep2 o)) ∧
          (o.supplyOk = false ∨ s.coolEnough = false → ∃ t : State, exec (.powerGood o) s = .next t ∧
            t = { u with boot := { u.boot with waitSupply := true } }))) ∧
    (∀ o : StartupObs,
      let waits := s.boot.waitSupply = false ∨ o.supplyOk = false ∨ s.coolEnough = false;
      (waits → exec (.startupSupplyWaitEnd o) s = .next s) ∧
      (¬waits → s.boot.recover = none → exec (.startupSupplyWaitEnd o) s = .next (s.fromStep2 o)) ∧
      (s.boot.waitRef = false ∨ o.refOk = false → exec (.startupRefWaitEnd o) s = .next s) ∧
      (s.boot.waitRef = true → o.refOk = true → exec (.startupRefWaitEnd o) s = .next (s.fromStep3 o))) ∧
    (∀ o : StartupObs, let t := s.fromStep2 o
      (capOk = false → t.bar 0x40 = 2 ∧ t.phase = 5 ∧ wfld t.svcBoot 8 8 = 3 ∧ t.ready = false) ∧
      (capOk = true → ∃ u : State,
        (∀ a, a < 288 → ((u.area a).on = true ↔ (s.areaRec a).st ≠ 2 ∧ ∀ x ∈ o.trimFailed, x.val ≠ a)) ∧
        (∀ a, a < 288 → (∃ x ∈ o.trimFailed, x.val = a) → (u.areaRec a).st = 2) ∧ u.stepNow = 2 ∧ u.pwr.fatal = false ∧
        (u.bar 0x40).getLsbD 0 = true ∧ wfld (u.bar 0x110004) 0 16 = wfld (u.bar 0x54) 0 16 ∧
        (∀ l, l < 48 → (u.lantern l).st = 0 ∨ (u.lantern l).st = 1) ∧
        (o.refOk = true → t = u.fromStep3 o) ∧
        (o.refOk = false → t = { u with boot := { u.boot with waitRef := true } }))) ∧
    (∀ o : StartupObs, let t := s.fromStep3 o
      t.clkStatus.getLsbD 0 = true ∧ t.clkStatus.getLsbD 1 = false ∧ t.clkStatus.getLsbD 4 = true ∧ t.boot.coreUp = true ∧
      t.boot.waitRef = false ∧ (s.boot.perst = false → t.host.pcie.up = true) ∧
      (∀ d, o.alignFailed = some d → t.phase = 5 ∧ wfld t.svcBoot 8 8 = 4 ∧ wfld t.svcBoot 4 4 = d.val ∧ t.ready = false) ∧
      (o.alignFailed = none → t.clk.f = 400 ∧ t.clk.stopped = false ∧ (∀ d, t.domeState d = 0) ∧
        t.clkStatus.getLsbD 5 = true) ∧
      (o.alignFailed = none → o.deskewOk = false → t.phase = 5 ∧ wfld t.svcBoot 8 8 = 5 ∧ t.ready = false) ∧
      (o.alignFailed = none → o.deskewOk = true →
        (∀ l, l < 48 → (t.lantern l).st = if (s.lantern l).st = 0 then 0 else 2) ∧
        (∀ k, k < 32 → s.populated k = true → ((∃ x ∈ o.stackFailed, x.val = k) → (t.stack k).st = 4) ∧
          ((∀ x ∈ o.stackFailed, x.val ≠ k) → (t.stack k).st = 2 ∧ (t.stack k).mem = EccMem.zero)) ∧
        (s.boot.histOk = false → t.phase = 5 ∧ wfld t.svcBoot 8 8 = 6 ∧ t.ready = false) ∧
        (s.boot.histOk = true → t.ready = true ∧ t.stepNow = 10 ∧ t.phase = 4 ∧
          (s.sec.lockBoot = true → (t.bar 0x120).getLsbD 0 = false ∧ (t.bar 0x120).getLsbD 1 = true ∧
            (t.bar 0x60000C).getLsbD 0 = true)))) ∧
    (∀ p ∈ [(1, AlarmSource.volt), (2, .clk), (3, .temp), (4, .light), (5, .shield)],
      let code := p.1
      let policy := wfld (s.bar 0x600008) (2 * (code - 1)) 2
      let idle := s.boot.powerGood = false ∨ s.sec.armed.getLsbD (code - 1) = false;
      (idle → exec (.secAlarmTrigger p.2) s = .next s) ∧
      (¬idle → ∃ t : State, exec (.secAlarmTrigger p.2) s = .next t ∧
        (t.bar 0x600010).toNat = min 0xFFFFFFFF ((s.bar 0x600010).toNat + 1) ∧ wfld (t.bar 0x600004) 8 8 = code ∧
        (∀ b, t.sec.armed.getLsbD b = if b = code - 1 then false else s.sec.armed.getLsbD b) ∧ t.cores = s.cores ∧
        (policy = 0 → t.sec = { s.sec with armed := t.sec.armed } ∧ t.lnts = s.lnts) ∧
        (1 ≤ policy → t.sec.sess = [] ∧ t.sec.nonce = none ∧ t.sec.ideKey = none ∧ t.sec.ideNext = none ∧
          t.host.pcie.secure = false ∧ ∀ l, l < 48 → (t.lantern l).keyed = false ∧
            ((s.lantern l).st = 3 → (s.lantern l).encOn = true → (t.lantern l).st ≠ 3)) ∧
        (policy = 1 → t.sec.ident = s.sec.ident ∧ t.sec.owner = s.sec.owner ∧ t.sec.imgKey = s.sec.imgKey) ∧
        (2 ≤ policy → t.sec.ident = false ∧ t.sec.owner = [] ∧ t.sec.imgKey = [] ∧ t.sec.bootPol = 0 ∧
          t.sec.lockBoot = false) ∧
        (policy = 0 → s.eventsOpen = true → Tbl.get none t.host.events 2 ≠ none)) ∧
      ∃ t : State, exec (.secAlarmRearm p.2) s = .next t ∧ t = { s with sec := { s.sec with armed := t.sec.armed } } ∧
        ∀ b, t.sec.armed.getLsbD b = if b = code - 1 then true else s.sec.armed.getLsbD b) ∧
    (∀ v : Word, ∃ t : State, exec (.secAlarmPolicyWrite v) s = .next t ∧ s.onlyRegs t ∧
      (∀ o, o ≠ 0x600008 → t.bar o = s.bar o) ∧
      (∀ i, i < 5 → wfld (t.bar 0x600008) (2 * i) 2 = if wfld v (2 * i) 2 = 3 then wfld (s.bar 0x600008) (2 * i) 2
        else max (wfld v (2 * i) 2) (wfld (s.bar 0x600008) (2 * i) 2)) ∧
      wfld (t.bar 0x600008) 10 22 = wfld (s.bar 0x600008) 10 22) ∧
    (∃ t : State, exec .dbgLockSet s = .next t ∧ s.onlyRegs t ∧ t.bar 0x60000C = s.bar 0x60000C ||| 1 ∧
      t.bar 0x120 = (s.bar 0x120 &&& 0xFFFFFFFE) ||| 2 ∧ ∀ o, o ≠ 0x60000C → o ≠ 0x120 → t.bar o = s.bar o) ∧
    (s.boot.powerGood = false → exec .entropyHealthFail s = .next s) ∧
    (s.boot.powerGood = true → ∃ t : State, exec .entropyHealthFail s = .next t ∧ s.onlyRegs t ∧
      t.bar 0x600004 = s.bar 0x600004 ||| 32 ∧ t.cryptoOk = false ∧ ∀ o, o ≠ 0x600004 → t.bar o = s.bar o) ∧
    (s.boot.powerGood = false → exec .pldmFruRead s = .next s ∧ ∀ x, exec (.pldmSensorRead x) s = .next s) ∧
    (s.boot.powerGood = true →
      (∃ t : State, exec .pldmFruRead s = .next t ∧ t = { s with sec := { s.sec with answer := t.sec.answer } } ∧
        t.sec.answer = [0x4, 0x10, 0x14, 0x8, 0x44, 0x48, 0x4C, 0x54].flatMap fun o => leBytes 4 (s.bar o).toNat) ∧
      (∀ x v, (x, v) ∈ [(PldmSensor.coolantOutlet, s.pwr.sensors.getD 338 0), (.inputVoltage, (s.pwr.millivolt : Int)),
          (.inputCurrent, (s.pwr.milliamp : Int)), (.inputPower, (s.pwr.power : Int))] →
        ∃ t : State, exec (.pldmSensorRead x) s = .next t ∧ t = { s with sec := { s.sec with answer := t.sec.answer } } ∧
          t.sec.answer = leBytes 4 (v % 2 ^ 32).toNat) ∧
      (∀ x lo n, (x, lo, n) ∈ [(PldmSensor.hottestDome, 0, 288), (.hottestStack, 304, 32)] →
        ∃ v : Int, (∀ i, i < n → s.pwr.sensors.getD (lo + i) 0 ≤ v) ∧ (∃ i, i < n ∧ v = s.pwr.sensors.getD (lo + i) 0) ∧
        ∃ t : State, exec (.pldmSensorRead x) s = .next t ∧ t = { s with sec := { s.sec with answer := t.sec.answer } } ∧
          t.sec.answer = leBytes 4 (v % 2 ^ 32).toNat) ∧
      ∃ t : State, exec (.pldmSensorRead .coolantInlet) s = .next t ∧ t.sec.answer.length = 4 ∧
        t = { s with fresh := s.fresh + 1, sec := { s.sec with answer := t.sec.answer } }) ∧
    (s.boot.inputSw = true → exec .inputSwitchClose s = .next s) ∧
    (s.boot.inputSw = false → ∃ t : State, exec .inputSwitchClose s = .next t ∧
      t = { s with boot := { s.boot with seat := true, inputSw := true } }) ∧
    (∃ t : State, exec .seatOpen s = .next t ∧ t.boot = { s.boot with seat := false } ∧ t.cores = s.cores ∧
      (s.clkStatus.getLsbD 4 = false → t = { s with boot := t.boot }) ∧
      (s.clkStatus.getLsbD 4 = true → t.clk = { s.clk with parking := !s.clk.stopped } ∧ t.host.pcie.up = false ∧
        t.clkStatus.getLsbD 2 = true ∧ t.clkStatus.getLsbD 4 = false ∧ t.rel.xchk = [])) ∧
    (s.boot.seat = true ∨ s.boot.inputSw = false → exec .inputSwitchOpen s = .next s) ∧
    (s.boot.seat = false → s.boot.inputSw = true → ∃ t : State, exec .inputSwitchOpen s = .next t ∧
      t.boot.inputSw = false ∧ t.boot.powerGood = false ∧ t.cores = [] ∧ t.stks.tbl = [] ∧ t.rel.site = s.rel.site ∧
      t.rel.log = s.rel.log ∧ t.fw.minSvn = s.fw.minSvn ∧ t.host.mem = s.host.mem ∧ t.pending = s.pending)

/-- R342, R450, R453-R455, R457: what the engine answers on SPDM while it is powered, its security firmware runs and its
cryptographic services work; the four sessions; the measurements; the keys of the PCIe link. The bytes of VERSION, DIGESTS,
CERTIFICATE and ERROR are taken from SPDM (log entry 32), and the contents of the other answers are open. -/
def Obligations.Attestation : Prop :=
  ∀ (s : State) (c : SpdmPort),
    let off := s.boot.powerGood = false ∨ s.secPaused = true
    let on := ¬off ∧ s.cryptoOk = true
    let replies (i : Instr) (b : List Byte) : Prop := ∃ t : State, exec i s = .next t ∧ t = { s with sec := { s.sec with answer := b } }
    let frees (i : Instr) (u : State) : Prop := ∃ t : State, exec i s = .next t ∧
      t = { u with fresh := s.fresh + 1, sec := { u.sec with answer := t.sec.answer } }
    let put (n : Fin 4) (x : Session) : State := { s with sec := { s.sec with sess := Tbl.set Session.reset s.sec.sess n x } }
    let signed : List Instr := [.spdmGetDigests c, .spdmGetCertificate c, .spdmChallenge c, .getMeasurements c, .spdmKeyExchange c]
    let plain : List Instr := [.spdmGetVersion c, .spdmGetCapabilities c, .spdmNegotiateAlgorithms c]
    let inside (n : Fin 4) : List Instr :=
      [.spdmHeartbeat c n, .spdmKeyUpdate c n, .spdmEndSession c n, .kSetGo n] ++ [.spdmFinish c n]
    (∀ (n : Fin 4) key, ∀ i ∈ signed ++ plain ++ inside n ++ [.ideKmKeyProg n key],
      (off → exec i s = .next s) ∧ (¬off → s.cryptoOk = false → replies i [0x13, 0x7F, 5, 0])) ∧
    (on → replies (.spdmGetVersion c) [0x10, 0x04, 0, 0, 0, 1, 0, 0x13] ∧ frees (.spdmGetCapabilities c) s ∧
      frees (.spdmNegotiateAlgorithms c) s) ∧
    (on → s.sec.ident = false → ∀ i ∈ signed, replies i [0x13, 0x7F, 5, 0]) ∧
    (on → s.sec.ident = true →
      replies (.spdmGetDigests c) ([0x13, 0x01, 0, 1] ++ leBytes 32 (Config.sha3 Config.certChain).toNat) ∧
      replies (.spdmGetCertificate c) ([0x13, 0x02, 0, 0] ++ Config.certChain) ∧ frees (.spdmChallenge c) s ∧
      (∃ tail, ∃ t : State, exec (.getMeasurements c) s = .next t ∧ t = { s with fresh := s.fresh + 1, sec := { s.sec with
          answer := t.sec.answer } } ∧
        (let block (i : Nat) (b : List Byte) : List Byte := BitVec.ofNat 8 i :: leBytes 2 b.length ++ b
          let fw (n : Nat) : List Byte := let x := s.fwSlot n (s.runSlot n)
            leBytes 32 x.digest.toNat ++ leBytes 2 x.svn.toNat
          let bits := (s.bar 0x600008).toNat % 2 ^ 10 + 2 ^ 10 * ((s.bar 0x60000C).getLsbD 0).toNat +
            2 ^ 11 * ((s.bar 0x120).getLsbD 0).toNat + 2 ^ 12 * s.sec.makerSeen.toNat +
            2 ^ 13 * (if s.sec.owner = [] then 0 else 1) + 2 ^ 14 * s.sec.ident.toNat
          let keys := leBytes 32 Config.makerKeyId.toNat ++ (List.range 7).flatMap fun i =>
            leBytes 32 ((Tbl.get none s.sec.imgKey (i + 1)).getD 0).toNat
          t.sec.answer = [0x13, 0x60, 0, 0] ++ block 1 (leBytes 32 Config.romDigest.toNat) ++ block 2 (fw 1) ++ block 3 (fw 0) ++
            block 4 (leBytes 32 (Config.sha3 Config.capRecord).toNat) ++ block 5 (leBytes 4 bits) ++
            block 6 (leBytes 32 (Config.sha3 keys).toNat) ++ block 7 (leBytes 32 s.sec.images.toNat) ++ tail)) ∧
      ((∀ n : Fin 4, (s.session n).keyed = true) → replies (.spdmKeyExchange c) [0x13, 0x7F, 10, 0]) ∧
      (∀ n : Fin 4, (s.session n).keyed = false → (∀ m : Fin 4, m < n → (s.session m).keyed = true) →
        frees (.spdmKeyExchange c) (put n { keyed := true, finished := false, keyGen := 0 }))) ∧
    (on → ∀ (n : Fin 4) key,
      let x := s.session n;
      (x.keyed = true → x.finished = false → frees (.spdmFinish c n) (put n { x with finished := true })) ∧
      (x.keyed = false ∨ x.finished = true → replies (.spdmFinish c n) [0x13, 0x7F, 2, 0]) ∧
      (x.finished = false → ∀ i ∈ [Instr.spdmHeartbeat c n, .spdmKeyUpdate c n, .spdmEndSession c n, .kSetGo n,
        .ideKmKeyProg n key], replies i [0x13, 0x7F, 2, 0]) ∧
      (x.finished = true → frees (.spdmHeartbeat c n) s ∧ frees (.spdmKeyUpdate c n) (put n { x with keyGen := x.keyGen + 1 }) ∧
        frees (.spdmEndSession c n) (put n Session.reset) ∧
        (∃ t : State, exec (.ideKmKeyProg n key) s = .next t ∧
          t = { s with sec := { s.sec with ideNext := some key }, host := { s.host with
            pcie := { s.host.pcie with keyNext := true } } }) ∧
        (s.sec.ideNext = none → exec (.kSetGo n) s = .next s) ∧
        (∀ k, s.sec.ideNext = some k → ∃ t : State, exec (.kSetGo n) s = .next t ∧
          t = { s with sec := { s.sec with ideKey := some k, ideNext := none }, host := { s.host with
            pcie := { s.host.pcie with secure := s.host.pcie.up, keyNext := false } } })))
end

