-- ==== Sys2Proof/Laws/Table.lean ====
section
/-!
SUPPORT. What the sparse tables and byte memories promise: a value set is the value read, every other index keeps its
value, and the canonical form is kept.
-/

namespace Sys2Proof

/-- What is put in is found, and nothing else changes. -/
theorem Tbl.get_insert {α : Type} (d : α) (t : Tbl α) (k j : Nat) (v : α) :
    Tbl.get d (Tbl.insert t k v) j = if j = k then v else Tbl.get d t j := by
  induction t with
  | nil => simp only [Tbl.insert, Tbl.get]; grind
  | cons x r ih => obtain ⟨i, w⟩ := x; simp only [Tbl.insert]; grind [Tbl.get]

/-- An index taken out reads as unlisted, every other one as before. -/
theorem Tbl.get_filter_ne {α : Type} (d : α) (t : Tbl α) (k j : Nat) :
    Tbl.get d (t.filter fun x => decide (x.1 ≠ k)) j = if j = k then d else Tbl.get d t j := by
  induction t with
  | nil => simp [Tbl.get]
  | cons x r ih => obtain ⟨i, w⟩ := x; simp only [List.filter_cons]; grind [Tbl.get]

/-- The value set is read back; every other index reads as before. -/
theorem Tbl.get_set {α : Type} [DecidableEq α] (d : α) (t : Tbl α) (k j : Nat) (v : α) :
    Tbl.get d (Tbl.set d t k v) j = if j = k then v else Tbl.get d t j := by
  unfold Tbl.set; split
  · subst v; exact Tbl.get_filter_ne d t k j
  · exact Tbl.get_insert d t k j v

/-- A value set is read back. -/
@[simp] theorem Tbl.get_set_self {α : Type} [DecidableEq α] (d : α) (t : Tbl α) (k : Nat) (v : α) :
    Tbl.get d (Tbl.set d t k v) k = v := by simp [Tbl.get_set]

/-- Every other index keeps its value. -/
theorem Tbl.get_set_ne {α : Type} [DecidableEq α] (d : α) (t : Tbl α) {k j : Nat} (v : α) (h : j ≠ k) :
    Tbl.get d (Tbl.set d t k v) j = Tbl.get d t j := by simp [Tbl.get_set, h]

/-- An index set under one default leaves another index as it was under another. -/
theorem Tbl.get_set_diff {α : Type} [DecidableEq α] {d : α} (e : α) (t : Tbl α) {k j : Nat} (v : α) (h : j ≠ k) :
    Tbl.get e (Tbl.set d t k v) j = Tbl.get e t j := by
  unfold Tbl.set; split
  · rw [Tbl.get_filter_ne, if_neg h]
  · rw [Tbl.get_insert, if_neg h]

/-- A table in canonical form from an index on is so from every lower one. -/
theorem Tbl.wfFrom_mono {α : Type} [DecidableEq α] (d : α) {lo hi : Nat} (t : Tbl α) (h : lo ≤ hi)
    (w : Tbl.wfFrom d hi t = true) : Tbl.wfFrom d lo t = true := by
  cases t with
  | nil => rfl
  | cons x r =>
    obtain ⟨i, v⟩ := x
    simp only [Tbl.wfFrom, Bool.and_eq_true, decide_eq_true_eq] at w ⊢
    exact ⟨⟨Nat.le_trans h w.1.1, w.1.2⟩, w.2⟩

/-- Entries taken out of a table leave it in canonical form. -/
theorem Tbl.wfFrom_filter {α : Type} [DecidableEq α] (d : α) (p : Nat × α → Bool) (t : Tbl α) :
    ∀ lo, Tbl.wfFrom d lo t = true → Tbl.wfFrom d lo (t.filter p) = true := by
  induction t with
  | nil => intro lo h; rfl
  | cons x r ih =>
    obtain ⟨i, v⟩ := x
    intro lo h
    simp only [Tbl.wfFrom, Bool.and_eq_true, decide_eq_true_eq] at h
    simp only [List.filter_cons]
    split
    · simp only [Tbl.wfFrom, Bool.and_eq_true, decide_eq_true_eq]; exact ⟨h.1, ih _ h.2⟩
    · exact Tbl.wfFrom_mono d _ (by omega) (ih _ h.2)

/-- A table with a listed value put in stays in canonical form. -/
theorem Tbl.wfFrom_insert {α : Type} [DecidableEq α] (d : α) (t : Tbl α) (k : Nat) (v : α) (hv : v ≠ d) :
    ∀ lo, lo ≤ k → Tbl.wfFrom d lo t = true → Tbl.wfFrom d lo (Tbl.insert t k v) = true := by
  induction t with
  | nil => intro lo hk _; simp [Tbl.insert, Tbl.wfFrom, hk, hv]
  | cons x r ih =>
    obtain ⟨i, w⟩ := x
    intro lo hk h
    simp only [Tbl.wfFrom, Bool.and_eq_true, decide_eq_true_eq] at h
    simp only [Tbl.insert]
    split
    · simp only [Tbl.wfFrom, Bool.and_eq_true, decide_eq_true_eq]; exact ⟨⟨hk, hv⟩, ⟨by omega, h.1.2⟩, h.2⟩
    · split
      · subst k; simp only [Tbl.wfFrom, Bool.and_eq_true, decide_eq_true_eq]; exact ⟨⟨h.1.1, hv⟩, h.2⟩
      · simp only [Tbl.wfFrom, Bool.and_eq_true, decide_eq_true_eq]; exact ⟨h.1, ih _ (by omega) h.2⟩

/-- Setting an index keeps the canonical form. -/
theorem Tbl.wf_set {α : Type} [DecidableEq α] (d : α) (t : Tbl α) (k : Nat) (v : α) (h : Tbl.wf d t = true) :
    Tbl.wf d (Tbl.set d t k v) = true := by
  unfold Tbl.wf Tbl.set at *
  split
  · exact Tbl.wfFrom_filter d _ t 0 h
  · next hv => exact Tbl.wfFrom_insert d t k v hv 0 (Nat.zero_le k) h

/-- Taking entries out keeps the canonical form. -/
theorem Tbl.wf_filter {α : Type} [DecidableEq α] (d : α) (p : Nat × α → Bool) (t : Tbl α) (h : Tbl.wf d t = true) :
    Tbl.wf d (t.filter p) = true := Tbl.wfFrom_filter d p t 0 h

/-- What holds of every entry holds after one with that property is set. -/
theorem Tbl.all_set {α : Type} [DecidableEq α] (d : α) (p : α → Bool) (t : Tbl α) (k : Nat) (v : α)
    (h : (t.all fun x => p x.2) = true) (hv : p v = true) : ((Tbl.set d t k v).all fun x => p x.2) = true := by
  unfold Tbl.set
  split
  · simp only [List.all_eq_true, List.mem_filter] at h ⊢; exact fun x hx => h x hx.1
  · induction t with
    | nil => simp [Tbl.insert, hv]
    | cons x r ih =>
      obtain ⟨i, w⟩ := x
      simp only [List.all_cons, Bool.and_eq_true] at h
      simp only [Tbl.insert]
      split
      · simp [hv, h]
      · split
        · simp only [List.all_cons, hv, Bool.true_and]; exact h.2
        · simp only [List.all_cons, h.1, Bool.true_and]; exact ih h.2

/-- What holds of every entry and of an unlisted one holds of what is read. -/
theorem Tbl.all_get {α : Type} (d : α) (p : α → Bool) (t : Tbl α) (k : Nat)
    (h : (t.all fun x => p x.2) = true) (hd : p d = true) : p (Tbl.get d t k) = true := by
  induction t with
  | nil => exact hd
  | cons x r ih =>
    obtain ⟨i, w⟩ := x
    simp only [List.all_cons, Bool.and_eq_true] at h
    simp only [Tbl.get]
    split
    · exact h.1
    · exact ih h.2

namespace Machine

/-- A byte written is read back; every other address keeps its byte. -/
theorem memRead_memWrite (m : List Host.Cell) (a x : Nat) (b : Byte) :
    memRead (memWrite m a b) x = if x = a then b else memRead m x := Tbl.get_set 0 m a x b

/-- Writing a byte keeps the canonical form. -/
theorem Memory.wf_memWrite (m : List Host.Cell) (a : Nat) (b : Byte) (h : Memory.wf m = true) :
    Memory.wf (memWrite m a b) = true := Tbl.wf_set 0 m a b h

/-- Bytes written from an address on are the bytes read there; every other address keeps its byte. -/
theorem memRead_memWrites (bs : List Byte) (x : Nat) : ∀ (m : List Host.Cell) (a : Nat),
    memRead (memWrites m a bs) x = if h : a ≤ x ∧ x - a < bs.length then bs[x - a] else memRead m x := by
  induction bs with
  | nil => intro m a; simp [memWrites]
  | cons b bs ih =>
    intro m a
    simp only [memWrites, ih, memRead_memWrite, List.length_cons]
    split
    · next h =>
      have h' : a ≤ x ∧ x - a < bs.length + 1 := ⟨by omega, by omega⟩
      have e : x - a = (x - (a + 1)) + 1 := by omega
      rw [dif_pos h']
      simp only [e, List.getElem_cons_succ]
    · next h =>
      split
      · next e => subst e; simp
      · next e =>
        have h' : ¬(a ≤ x ∧ x - a < bs.length + 1) := by omega
        rw [dif_neg h']

/-- Writing bytes keeps the canonical form. -/
theorem Memory.wf_memWrites (bs : List Byte) : ∀ (m : List Host.Cell) (a : Nat),
    Memory.wf m = true → Memory.wf (memWrites m a bs) = true := by
  induction bs with
  | nil => intro m a h; exact h
  | cons b bs ih => intro m a h; exact ih _ _ (Memory.wf_memWrite m a b h)

/-- A byte of host memory the engine writes is held; every other address keeps what it held. -/
theorem get_hostWrites (bs : List Byte) (x : Nat) : ∀ (m : Tbl (Option Byte)) (a : Nat),
    Tbl.get none (hostWrites m a bs) x = if h : a ≤ x ∧ x - a < bs.length then some bs[x - a] else Tbl.get none m x := by
  induction bs with
  | nil => intro m a; simp [hostWrites]
  | cons b bs ih =>
    intro m a
    simp only [hostWrites, ih, Tbl.get_set, List.length_cons]
    split
    · next h =>
      have h' : a ≤ x ∧ x - a < bs.length + 1 := ⟨by omega, by omega⟩
      have e : x - a = (x - (a + 1)) + 1 := by omega
      rw [dif_pos h']
      simp only [e, List.getElem_cons_succ]
    · next h =>
      split
      · next e => subst e; simp
      · next e =>
        have h' : ¬(a ≤ x ∧ x - a < bs.length + 1) := by omega
        rw [dif_neg h']

/-- Host memory keeps its canonical form under writes. -/
theorem wf_hostWrites (bs : List Byte) : ∀ (m : Tbl (Option Byte)) (a : Nat),
    Tbl.wf none m = true → Tbl.wf none (hostWrites m a bs) = true := by
  induction bs with
  | nil => intro m a h; exact h
  | cons b bs ih => intro m a h; exact ih _ _ (Tbl.wf_set none m a (some b) h)

end Machine
end Sys2Proof
end

