-- ==== Sys2Proof/Laws/KeepEcc.lean ====
section
/-!
SUPPORT. What each operation of Machine/Ecc.lean keeps: the canonical form of every memory, and the queue of waiting
commands.
-/

namespace Sys2Proof.Machine

set_option maxRecDepth 2000

theorem Core.memsOk_congr (c d : Core) (h1 : d.sram = c.sram) (h2 : d.seqr.istore = c.seqr.istore) (h : c.memsOk =
    true) : d.memsOk = true := by
  unfold Core.memsOk at *
  rw [h1, h2]; exact h
def qOk (wq l : List Instr) : Bool := decide (l = wq)
def State.kept (wq : List Instr) (s : State) : Bool := qOk wq s.pending && s.memsOk
theorem State.kept_congr {wq : List Instr} (s t : State) (h1 : t.host.mem = s.host.mem) (h2 : t.cores = s.cores) (h3 :
    t.stks.tbl = s.stks.tbl) (h : s.kept wq = true) (h4 : t.pending = s.pending := by rfl) : t.kept wq = true := by
  unfold State.kept State.memsOk at *
  rw [h1, h2, h3, h4]; exact h
def hostOk (m : Tbl (Option Byte)) : Bool := Tbl.wf none m
def coresOk (t : Tbl Core) : Bool := t.all fun x => x.2.memsOk
def stksOk (t : Tbl Stack) : Bool := t.all fun x => x.2.mem.wf
def dataOk (m : List Host.Cell) : Bool := Memory.wf m
def chkOk (m : Tbl (BitVec 16)) : Bool := Tbl.wf 0 m
theorem kept_eq (wq : List Instr) (s : State) : s.kept wq = (qOk wq s.pending && (hostOk s.host.mem && coresOk s.cores
    && stksOk s.stks.tbl)) := rfl
theorem coreMemsOk_eq (s : Core) : s.memsOk = (s.sram.wf && s.seqr.istore.wf) := rfl
theorem wf_eq (s : EccMem) : s.wf = (dataOk s.data && chkOk s.chk) := rfl
theorem hostOk_hostWrites (m a b) (h : hostOk m = true) : hostOk (hostWrites m a b) = true := wf_hostWrites b m a h
theorem dataOk_memWrites (m a b) (h : dataOk m = true) : dataOk (memWrites m a b) = true := Memory.wf_memWrites b m a
    h
theorem chkOk_set (m a b) (h : chkOk m = true) : chkOk (Tbl.set 0 m a b) = true := Tbl.wf_set 0 m a b h
theorem dataOk_filter (m p) (h : dataOk m = true) : dataOk (List.filter p m) = true := Tbl.wf_filter 0 p m h
theorem chkOk_filter (m : Tbl (BitVec 16)) (p) (h : chkOk m = true) : chkOk (List.filter p m) = true := Tbl.wf_filter
    0 p m h
theorem foldl_kept {wq : List Instr} {α} (f : State → α → State) (l : List α) (s : State) (h : s.kept wq = true) (hf :
    ∀ s x, s.kept wq = true → (f s x).kept wq = true) : (l.foldl f s).kept wq = true := by
  induction l generalizing s with
  | nil => exact h
  | cons x l ih => exact ih _ (hf _ _ h)
theorem foldl_keptC {α} (f : Core → α → Core) (l : List α) (s : Core) (h : s.memsOk = true) (hf : ∀ s x, s.memsOk =
    true → (f s x).memsOk = true) : (l.foldl f s).memsOk = true := by
  induction l generalizing s with
  | nil => exact h
  | cons x l ih => exact ih _ (hf _ _ h)
theorem foldl_keptE {α} (f : EccMem → α → EccMem) (l : List α) (s : EccMem) (h : s.wf = true) (hf : ∀ s x, s.wf = true
    → (f s x).wf = true) : (l.foldl f s).wf = true := by
  induction l generalizing s with
  | nil => exact h
  | cons x l ih => exact ih _ (hf _ _ h)
theorem coresOk_set (t : Tbl Core) (k c) (h : coresOk t = true) (hc : c.memsOk = true) : coresOk (Tbl.set Core.reset t
    k c) = true := Tbl.all_set _ _ _ _ _ h hc
theorem stksOk_set (t : Tbl Stack) (k c) (h : stksOk t = true) (hc : c.mem.wf = true) : stksOk (Tbl.set Stack.reset t
    k c) = true := Tbl.all_set _ (fun x : Stack => x.mem.wf) _ _ _ h hc
theorem foldl_inv {α β} (P : β → Prop) (f : β → α → β) (l : List α) (b : β) (hb : P b) (hf : ∀ b x, P b → P (f b x)) :
    P (l.foldl f b) := by
  induction l generalizing b with
  | nil => exact hb
  | cons x l ih => exact ih _ (hf _ _ hb)
theorem foldl_inv_mem {α β} (P : β → Prop) (f : β → α → β) (l : List α) (b : β) (hb : P b) (hf : ∀ b x, x ∈ l → P b →
    P (f b x)) : P (l.foldl f b) := by
  induction l generalizing b with
  | nil => exact hb
  | cons x l ih => exact ih _ (hf _ _ (by simp) hb) (fun b y hy => hf b y (by simp [hy]))
theorem core_reset_kept : Core.reset.memsOk = true := by decide
theorem stack_reset_kept : Stack.reset.mem.wf = true := by decide
theorem EccMem.zero_kept : EccMem.zero.wf = true := by decide

theorem EccMem.putRaw_kept (m : EccMem) (i : Nat) (d : Nat) (chk : BitVec 16) (h_m : (m).wf = true) :
    (EccMem.putRaw m i d chk).wf = true := by
  grind [EccMem.putRaw, coreMemsOk_eq, wf_eq, dataOk_memWrites, chkOk_set]

theorem EccMem.put_kept (m : EccMem) (i : Nat) (d : Nat) (h_m : (m).wf = true) :
    (EccMem.put m i d).wf = true := by
  grind [EccMem.put, EccMem.putRaw_kept]

theorem EccMem.putRun_kept (m : EccMem) (i : Nat) (z0 : Nat) (z1 : List Byte) (h_m : (m).wf = true) :
    (EccMem.putRun m i z0 z1).wf = true := by
  induction z0 generalizing m i z1 <;> grind [EccMem.putRun, EccMem.put_kept, coreMemsOk_eq, wf_eq, foldl_keptC,
      foldl_keptE, coresOk_set, stksOk_set, hostOk_hostWrites, core_reset_kept, stack_reset_kept, EccMem.zero_kept]

theorem EccMem.write_kept (m : EccMem) (a : Nat) (b : List Byte) (h_m : (m).wf = true) :
    (EccMem.write m a b).mem.wf = true := by
  grind [EccMem.write, EccMem.putRun_kept]

theorem EccMem.zeroRun_kept (m : EccMem) (i : Nat) (n : Nat) (h_m : (m).wf = true) :
    (EccMem.zeroRun m i n).wf = true := by
  grind [EccMem.zeroRun, coreMemsOk_eq, wf_eq, dataOk_filter, chkOk_filter]

end Sys2Proof.Machine
end

