-- ==== Sys2Proof/Laws/KeepGrid.lean ====
section
/-!
SUPPORT. What each operation of Machine/Grid.lean keeps: the canonical form of every memory, and the queue of waiting
commands.
-/

namespace Sys2Proof.Machine

set_option maxRecDepth 2000

theorem State.setBar_kept {wq : List Instr} (s : State) (off : Nat) (v : Word) (h_s : (s).kept wq = true) :
    (State.setBar s off v).kept wq = true := by
  grind [State.setBar, !(kept_eq (wq := wq))]

end Sys2Proof.Machine
end

