-- ==== Sys2Proof/Laws/KeepPost.lean ====
section
/-!
SUPPORT. What each operation of Machine/Post.lean keeps: the canonical form of every memory, and the queue of waiting
commands.
-/

namespace Sys2Proof.Machine

set_option maxRecDepth 2000

theorem State.setCpl_kept {wq : List Instr} (s : State) (q : Nat) (x : CplRing) (h_s : (s).kept wq = true) :
    (State.setCpl s q x).kept wq = true := by
  grind [State.setCpl, !(kept_eq (wq := wq))]

theorem State.hostWrite_kept {wq : List Instr} (s : State) (a : Nat) (b : List Byte) (h_s : (s).kept wq = true) :
    (State.hostWrite s a b).kept wq = true := by
  grind [State.hostWrite, !(kept_eq (wq := wq)), coreMemsOk_eq, wf_eq, !(foldl_kept (wq := wq)), foldl_keptC,
      foldl_keptE, coresOk_set, stksOk_set, hostOk_hostWrites, core_reset_kept, stack_reset_kept, EccMem.zero_kept]

theorem State.raiseVec_kept {wq : List Instr} (s : State) (v : Nat) (h_s : (s).kept wq = true) :
    (State.raiseVec s v).kept wq = true := by
  grind [State.raiseVec, !(kept_eq (wq := wq))]

theorem State.putRecord_kept {wq : List Instr} (s : State) (q : Nat) (rec_ : BitVec 256) (h_s : (s).kept wq = true) :
    (State.putRecord s q rec_).kept wq = true := by
  grind [State.putRecord, !(State.setCpl_kept (wq := wq)), !(State.hostWrite_kept (wq := wq))]

theorem eventPost_kept {wq : List Instr} (s : State) (h_s : (s).kept wq = true) :
    (eventPost s).kept wq = true := by
  grind [eventPost, !(State.raiseVec_kept (wq := wq)), !(State.putRecord_kept (wq := wq)), !(kept_eq (wq := wq))]

theorem State.postThrough_kept {wq : List Instr} (s : State) (cls : Nat) (z0 : Nat) (h_s : (s).kept wq = true) :
    (State.postThrough s cls z0).kept wq = true := by
  induction z0 generalizing s cls <;> grind [State.postThrough, !(eventPost_kept (wq := wq)), !(kept_eq (wq := wq)),
      coreMemsOk_eq, wf_eq, !(foldl_kept (wq := wq)), foldl_keptC, foldl_keptE, coresOk_set, stksOk_set,
      hostOk_hostWrites, core_reset_kept, stack_reset_kept, EccMem.zero_kept]

end Sys2Proof.Machine
end

