-- ==== Sys2Proof/Laws/KeepOps.lean ====
section
/-!
SUPPORT. What each operation of Machine/Ops.lean keeps: the canonical form of every memory, and the queue of waiting
commands.
-/

namespace Sys2Proof.Machine

set_option maxRecDepth 2000

theorem State.core_kept {wq : List Instr} (s : State) (k) (h : s.kept wq = true) : (s.core k).memsOk = true := by
  have h' : coresOk s.cores = true := by grind [kept_eq]
  exact Tbl.all_get Core.reset Core.memsOk s.cores k h' (by decide)

theorem State.setCore_kept {wq : List Instr} (s : State) (k : SiteId) (c : Core) (h_s : (s).kept wq = true) (h_c :
    (c).memsOk = true) :
    (State.setCore s k c).kept wq = true := by
  grind [State.setCore, !(kept_eq (wq := wq)), coreMemsOk_eq, wf_eq, !(foldl_kept (wq := wq)), foldl_keptC,
      foldl_keptE, coresOk_set, stksOk_set, hostOk_hostWrites, core_reset_kept, stack_reset_kept, EccMem.zero_kept]

theorem State.setRouter_kept {wq : List Instr} (s : State) (k : SiteId) (r : Router) (h_s : (s).kept wq = true) :
    (State.setRouter s k r).kept wq = true := by
  grind [State.setRouter, !(kept_eq (wq := wq))]

theorem State.setRegion_kept {wq : List Instr} (s : State) (id : Nat) (r : Region) (h_s : (s).kept wq = true) :
    (State.setRegion s id r).kept wq = true := by
  grind [State.setRegion, !(kept_eq (wq := wq))]

theorem State.setArea_kept {wq : List Instr} (s : State) (a : Nat) (x : Area) (h_s : (s).kept wq = true) :
    (State.setArea s a x).kept wq = true := by
  grind [State.setArea, !(kept_eq (wq := wq))]

theorem State.setDome_kept {wq : List Instr} (s : State) (d : Nat) (x : Nat) (h_s : (s).kept wq = true) :
    (State.setDome s d x).kept wq = true := by
  grind [State.setDome, !(kept_eq (wq := wq))]

theorem State.stack_kept {wq : List Instr} (s : State) (k) (h : s.kept wq = true) : (s.stack k).mem.wf = true := by
  have h' : stksOk s.stks.tbl = true := by grind [kept_eq]
  exact Tbl.all_get Stack.reset (fun x : Stack => x.mem.wf) s.stks.tbl k h' (by decide)

theorem State.setStack_kept {wq : List Instr} (s : State) (i : Nat) (x : Stack) (h_s : (s).kept wq = true) (h_x :
    (x).mem.wf = true) :
    (State.setStack s i x).kept wq = true := by
  grind [State.setStack, !(kept_eq (wq := wq)), coreMemsOk_eq, wf_eq, !(foldl_kept (wq := wq)), foldl_keptC,
      foldl_keptE, coresOk_set, stksOk_set, hostOk_hostWrites, core_reset_kept, stack_reset_kept, EccMem.zero_kept]

theorem State.setLantern_kept {wq : List Instr} (s : State) (l : Nat) (x : Lantern) (h_s : (s).kept wq = true) :
    (State.setLantern s l x).kept wq = true := by
  grind [State.setLantern, !(kept_eq (wq := wq))]

theorem State.setRing_kept {wq : List Instr} (s : State) (r : Nat) (x : CmdRing) (h_s : (s).kept wq = true) :
    (State.setRing s r x).kept wq = true := by
  grind [State.setRing, !(kept_eq (wq := wq))]

theorem State.draw_kept {wq : List Instr} (s : State) (h_s : (s).kept wq = true) :
    ((State.draw s).2).kept wq = true := by
  grind [State.draw, !(kept_eq (wq := wq))]

theorem Core.setReg_kept (c : Core) (off : Nat) (v : Word) (h_c : (c).memsOk = true) :
    (Core.setReg c off v).memsOk = true := by
  grind [Core.setReg, coreMemsOk_eq, wf_eq]

theorem Core.add64_kept (c : Core) (off : Nat) (n : Nat) (h_c : (c).memsOk = true) :
    (Core.add64 c off n).memsOk = true := by
  grind [Core.add64, coreMemsOk_eq, wf_eq]

theorem Core.bump_kept (c : Core) (off : Nat) (n : Nat) (h_c : (c).memsOk = true) :
    (Core.bump c off n).memsOk = true := by
  grind [Core.bump, Core.setReg_kept]

theorem State.markSeen_kept {wq : List Instr} (s : State) (cls : Nat) (h_s : (s).kept wq = true) :
    (State.markSeen s cls).kept wq = true := by
  grind [State.markSeen, !(State.setBar_kept (wq := wq))]

theorem State.raise_kept {wq : List Instr} (s : State) (cls : Nat) (data : BitVec 128) (h_s : (s).kept wq = true) :
    (State.raise s cls data).kept wq = true := by
  grind [State.raise, !(State.postThrough_kept (wq := wq)), !(State.markSeen_kept (wq := wq)), !(kept_eq (wq := wq))]

theorem State.noteRisk_kept {wq : List Instr} (s : State) (ce : Nat) (stretch : Nat) (link : Nat) (h_s : (s).kept wq =
    true) :
    (State.noteRisk s ce stretch link).kept wq = true := by
  grind [State.noteRisk, !(kept_eq (wq := wq))]

theorem State.putCore_kept {wq : List Instr} (s : State) (k : SiteId) (c : Core) (h_s : (s).kept wq = true) (h_c :
    (c).memsOk = true) :
    (State.putCore s k c).kept wq = true := by
  grind [State.putCore, !(State.core_kept (wq := wq)), !(State.setCore_kept (wq := wq)), !(State.raise_kept (wq :=
      wq)), !(State.noteRisk_kept (wq := wq)), !(kept_eq (wq := wq)), coreMemsOk_eq, wf_eq, !(foldl_kept (wq :=
      wq)), foldl_keptC, foldl_keptE, coresOk_set, stksOk_set, hostOk_hostWrites, core_reset_kept, stack_reset_kept,
      EccMem.zero_kept]

theorem State.modCore_kept {wq : List Instr} (s : State) (k : SiteId) (f : Core → Core) (h_s : (s).kept wq = true)
    (h_f : ∀ x0, (x0).memsOk = true → (f x0).memsOk = true) :
    (State.modCore s k f).kept wq = true := by
  grind [State.modCore, !(State.core_kept (wq := wq)), !(State.putCore_kept (wq := wq))]

theorem State.bumpBar_kept {wq : List Instr} (s : State) (off : Nat) (ovf : Nat) (bit : Nat) (n : Nat) (h_s : (s).kept
    wq = true) :
    (State.bumpBar s off ovf bit n).kept wq = true := by
  grind [State.bumpBar, !(State.setBar_kept (wq := wq)), !(State.raise_kept (wq := wq))]

theorem State.add64_kept {wq : List Instr} (s : State) (off : Nat) (n : Nat) (h_s : (s).kept wq = true) :
    (State.add64 s off n).kept wq = true := by
  grind [State.add64, !(kept_eq (wq := wq))]

theorem State.bumpLnt_kept {wq : List Instr} (s : State) (l : Nat) (off : Nat) (h_s : (s).kept wq = true) :
    (State.bumpLnt s l off).kept wq = true := by
  grind [State.bumpLnt, !(State.bumpBar_kept (wq := wq))]

theorem State.bumpStk_kept {wq : List Instr} (s : State) (k : Nat) (off : Nat) (n : Nat) (h_s : (s).kept wq = true) :
    (State.bumpStk s k off n).kept wq = true := by
  grind [State.bumpStk, !(State.bumpBar_kept (wq := wq))]

theorem State.queueRecord_kept {wq : List Instr} (s : State) (q : Nat) (rec_ : BitVec 256) (h_s : (s).kept wq = true)
    :
    (State.queueRecord s q rec_).kept wq = true := by
  grind [State.queueRecord, !(State.setCpl_kept (wq := wq))]

theorem State.complete_kept {wq : List Instr} (s : State) (req : Nat × Nat) (status : Nat) (detail : Nat) (result :
    BitVec 128) (h_s : (s).kept wq = true) :
    (State.complete s req status detail result).kept wq = true := by
  grind [State.complete, !(State.setRing_kept (wq := wq)), !(State.queueRecord_kept (wq := wq))]

theorem State.setBusy_kept {wq : List Instr} (s : State) (req : Nat × Nat) (h_s : (s).kept wq = true) :
    (State.setBusy s req).kept wq = true := by
  grind [State.setBusy, !(State.setRing_kept (wq := wq))]

theorem State.testDone_kept {wq : List Instr} (s : State) (req : Nat × Nat) (status : Nat) (h_s : (s).kept wq = true)
    :
    (State.testDone s req status).kept wq = true := by
  grind [State.testDone, !(State.raise_kept (wq := wq))]

theorem Core.noteEcc_kept (c : Core) (src : Nat) (ce : Nat) (ue : Nat) (cw : Nat) (h_c : (c).memsOk = true) :
    (Core.noteEcc c src ce ue cw).memsOk = true := by
  grind [Core.noteEcc, Core.setReg_kept, Core.bump_kept]

theorem Core.sramRead_kept (c : Core) (src : Nat) (a : Nat) (n : Nat) (h_c : (c).memsOk = true) :
    ((Core.sramRead c src a n).1).memsOk = true := by
  grind [Core.sramRead, Core.noteEcc_kept]

theorem Core.setBank_kept (c : Core) (b : Nat) (x : BankSt) (h_c : (c).memsOk = true) :
    (Core.setBank c b x).memsOk = true := by
  grind [Core.setBank, coreMemsOk_eq, wf_eq]

theorem Core.dropScrub_kept (c : Core) (a : Nat) (n : Nat) (h_c : (c).memsOk = true) :
    (Core.dropScrub c a n).memsOk = true := by
  grind [Core.dropScrub, Core.setBank_kept]

theorem Core.sramWrite_kept (c : Core) (src : Nat) (a : Nat) (b : List Byte) (h_c : (c).memsOk = true) :
    ((Core.sramWrite c src a b).1).memsOk = true := by
  grind [Core.sramWrite, EccMem.write_kept, Core.noteEcc_kept, Core.dropScrub_kept, coreMemsOk_eq, wf_eq]

theorem Core.setEngine_kept (c : Core) (e : Nat) (x : Engine) (h_c : (c).memsOk = true) :
    (Core.setEngine c e x).memsOk = true := by
  grind [Core.setEngine, coreMemsOk_eq, wf_eq]

theorem Core.setCtx_kept (c : Core) (i : Nat) (x : Ctx) (h_c : (c).memsOk = true) :
    (Core.setCtx c i x).memsOk = true := by
  grind [Core.setCtx, coreMemsOk_eq, wf_eq]

theorem Core.setAcc_kept (c : Core) (a : Nat) (x : AccEng) (h_c : (c).memsOk = true) :
    (Core.setAcc c a x).memsOk = true := by
  grind [Core.setAcc, coreMemsOk_eq, wf_eq]

end Sys2Proof.Machine
end

