-- ==== Sys2Proof/Laws/KeepPackets.lean ====
section
/-!
SUPPORT. What each operation of Machine/Packets.lean keeps: the canonical form of every memory, and the queue of waiting
commands.
-/

namespace Sys2Proof.Machine

set_option maxRecDepth 2000

theorem State.fly_kept {wq : List Instr} (s : State) (x : Flight) (h_s : (s).kept wq = true) :
    (State.fly s x).kept wq = true := by
  grind [State.fly, !(kept_eq (wq := wq))]

theorem State.inject_kept {wq : List Instr} (s : State) (k : SiteId) (p : Packet) (h_s : (s).kept wq = true) :
    (State.inject s k p).kept wq = true := by
  grind [State.inject, !(State.fly_kept (wq := wq))]

theorem State.injectC_kept {wq : List Instr} (s : State) (k : SiteId) (port : Port) (c : CPacket) (h_s : (s).kept wq =
    true) :
    (State.injectC s k port c).kept wq = true := by
  grind [State.injectC, !(State.fly_kept (wq := wq))]

theorem State.land_kept {wq : List Instr} (s : State) (k : SiteId) (b : Packet ⊕ CPacket) (h_s : (s).kept wq = true) :
    (State.land s k b).kept wq = true := by
  grind [State.land, !(kept_eq (wq := wq))]

theorem State.unadmit_kept {wq : List Instr} (s : State) (engine : BitVec 12) (epid : BitVec 19) (plane : Plane) (type
    : Byte) (seq : Byte) (tag : BitVec 16) (h_s : (s).kept wq = true) :
    (State.unadmit s engine epid plane type seq tag).kept wq = true := by
  grind [State.unadmit, !(kept_eq (wq := wq))]

theorem State.answer_kept {wq : List Instr} (s : State) (k : SiteId) (v : Bool) (src : Nat) (engine : BitVec 12) (epid
    : BitVec 19) (plane : Plane) (type : Byte) (resp : Byte) (seq : Byte) (tag : BitVec 16) (payload : List Byte) (h_s
    : (s).kept wq = true) :
    (State.answer s k v src engine epid plane type resp seq tag payload).kept wq = true := by
  grind [State.answer, !(State.inject_kept (wq := wq)), !(State.unadmit_kept (wq := wq))]

theorem State.respond_kept {wq : List Instr} (s : State) (k : SiteId) (src : Nat) (req : Packet) (type : Byte) (resp :
    Byte) (seq : Byte) (tag : BitVec 16) (payload : List Byte) (h_s : (s).kept wq = true) :
    (State.respond s k src req type resp seq tag payload).kept wq = true := by
  grind [State.respond, !(State.answer_kept (wq := wq))]

theorem State.routerRefuse_kept {wq : List Instr} (s : State) (k : SiteId) (req : Packet) (code : Byte) (h_s :
    (s).kept wq = true) :
    (State.routerRefuse s k req code).kept wq = true := by
  grind [State.routerRefuse, !(State.answer_kept (wq := wq))]

theorem State.refuse_kept {wq : List Instr} (s : State) (k : SiteId) (src : Nat) (req : Packet) (code : Byte) (h_s :
    (s).kept wq = true) :
    (State.refuse s k src req code).kept wq = true := by
  grind [State.refuse, !(State.respond_kept (wq := wq))]

end Sys2Proof.Machine
end

