-- ==== Sys2Proof/Laws/KeepHalt.lean ====
section
/-!
SUPPORT. What each operation of Machine/Halt.lean keeps: the canonical form of every memory, and the queue of waiting
commands.
-/

namespace Sys2Proof.Machine

set_option maxRecDepth 2000

theorem Core.stopEngines_kept (c : Core) (h_c : (c).memsOk = true) :
    (Core.stopEngines c).memsOk = true := by
  grind [Core.stopEngines, coreMemsOk_eq, wf_eq]

theorem State.sendHalt_kept {wq : List Instr} (s : State) (id : Nat) (h_s : (s).kept wq = true) :
    (State.sendHalt s id).kept wq = true := by
  grind [State.sendHalt, !(State.injectC_kept (wq := wq))]

theorem State.completeOpt_kept {wq : List Instr} (s : State) (req : Option (Nat × Nat)) (status : Nat) (result :
    BitVec 128) (h_s : (s).kept wq = true) :
    (State.completeOpt s req status result).kept wq = true := by
  unfold State.completeOpt
  grind [!(State.complete_kept (wq := wq)), !(kept_eq (wq := wq))]

theorem State.leaveRunning_kept {wq : List Instr} (s : State) (id : Nat) (st : Nat) (h_s : (s).kept wq = true) :
    (State.leaveRunning s id st).kept wq = true := by
  grind [State.leaveRunning, !(State.setRegion_kept (wq := wq)), !(State.completeOpt_kept (wq := wq)), !(kept_eq (wq
      := wq))]

theorem State.faultRegion_kept {wq : List Instr} (s : State) (id : Nat) (k : SiteId) (cause : Nat) (detail : Nat) (h_s
    : (s).kept wq = true) :
    (State.faultRegion s id k cause detail).kept wq = true := by
  grind [State.faultRegion, !(State.core_kept (wq := wq)), !(State.setCore_kept (wq := wq)), !(State.setRegion_kept
      (wq := wq)), Core.setReg_kept, !(State.raise_kept (wq := wq)), !(State.sendHalt_kept (wq := wq)),
      !(State.leaveRunning_kept (wq := wq))]

theorem State.regionFault_kept {wq : List Instr} (s : State) (k : SiteId) (cause : Nat) (detail : Nat) (h_s : (s).kept
    wq = true) :
    (State.regionFault s k cause detail).kept wq = true := by
  grind [State.regionFault, !(State.core_kept (wq := wq)), !(State.faultRegion_kept (wq := wq))]

theorem State.engineFault_kept {wq : List Instr} (s : State) (k : SiteId) (eng : Nat) (cause : Nat) (resp : Byte) (off
    : Nat) (h_s : (s).kept wq = true) :
    (State.engineFault s k eng cause resp off).kept wq = true := by
  grind [State.engineFault, !(State.core_kept (wq := wq)), !(State.setCore_kept (wq := wq)), Core.setReg_kept,
      Core.stopEngines_kept, !(State.regionFault_kept (wq := wq))]

theorem State.seqException_kept {wq : List Instr} (s : State) (k : SiteId) (cause : Nat) (code : Nat) (insn : Word)
    (h_s : (s).kept wq = true) :
    (State.seqException s k cause code insn).kept wq = true := by
  grind [State.seqException, !(State.core_kept (wq := wq)), !(State.setCore_kept (wq := wq)), Core.setReg_kept,
      Core.stopEngines_kept, !(State.regionFault_kept (wq := wq)), !(kept_eq (wq := wq)), coreMemsOk_eq, wf_eq,
      !(foldl_kept (wq := wq)), foldl_keptC, foldl_keptE, coresOk_set, stksOk_set, hostOk_hostWrites,
      core_reset_kept, stack_reset_kept, EccMem.zero_kept]

theorem Core.closeChans_kept (c : Core) (p : Word → Bool) (h_c : (c).memsOk = true) :
    (Core.closeChans c p).memsOk = true := by
  grind [Core.closeChans, coreMemsOk_eq, wf_eq]

theorem State.checkDone_kept {wq : List Instr} (s : State) (k : SiteId) (h_s : (s).kept wq = true) :
    (State.checkDone s k).kept wq = true := by
  grind [State.checkDone, !(State.core_kept (wq := wq)), !(State.setCore_kept (wq := wq)), Core.setReg_kept,
      !(State.leaveRunning_kept (wq := wq)), Core.closeChans_kept]

theorem State.slip_kept {wq : List Instr} (s : State) (k : SiteId) (src : Nat) (cycles : Nat) (h_s : (s).kept wq =
    true) :
    (State.slip s k src cycles).kept wq = true := by
  grind [State.slip, !(State.core_kept (wq := wq)), !(State.setCore_kept (wq := wq)), Core.setReg_kept,
      Core.add64_kept, !(State.add64_kept (wq := wq)), !(State.regionFault_kept (wq := wq))]

end Sys2Proof.Machine
end

