-- ==== Sys2Proof/Laws/KeepBank.lean ====
section
/-!
SUPPORT. What each operation of Machine/Bank.lean keeps: the canonical form of every memory, and the queue of waiting
commands.
-/

namespace Sys2Proof.Machine

set_option maxRecDepth 2000

theorem Core.powerReq_kept (c : Core) (b : Nat) (req : Nat) (h_c : (c).memsOk = true) :
    (Core.powerReq c b req).memsOk = true := by
  grind [Core.powerReq, EccMem.put_kept, Core.setReg_kept, Core.setBank_kept]

theorem Core.bankCtlWrite_kept (c : Core) (b : Nat) (v : Word) (h_c : (c).memsOk = true) :
    (Core.bankCtlWrite c b v).memsOk = true := by
  unfold Core.bankCtlWrite
  extract_lets old own takes w1 w2 c' notOn req
  have hc : c'.memsOk = true := Core.setReg_kept _ _ _ h_c
  (repeat' split) <;> first | exact hc | exact Core.powerReq_kept _ _ _ hc

theorem Core.wakeBank_kept (c : Core) (b : Nat) (h_c : (c).memsOk = true) :
    (Core.wakeBank c b).memsOk = true := by
  grind [Core.wakeBank, Core.powerReq_kept]

theorem Core.zeroBank_kept (c : Core) (b : Nat) (h_c : (c).memsOk = true) :
    (Core.zeroBank c b).memsOk = true := by
  grind [Core.zeroBank, EccMem.zeroRun_kept, Core.setBank_kept, coreMemsOk_eq, wf_eq]

theorem Core.entryDone_kept (c : Core) (b : Nat) (h_c : (c).memsOk = true) :
    (Core.entryDone c b).memsOk = true := by
  grind [Core.entryDone, Core.setReg_kept, Core.setBank_kept]

theorem Core.wakeDone_kept (c : Core) (b : Nat) (h_c : (c).memsOk = true) :
    (Core.wakeDone c b).memsOk = true := by
  grind [Core.wakeDone, Core.setReg_kept, Core.setBank_kept, Core.zeroBank_kept]

theorem Core.winWrite_kept (c : Core) (n : Nat) (v : Word) (h_c : (c).memsOk = true) :
    (Core.winWrite c n v).memsOk = true := by
  grind [Core.winWrite, Core.setReg_kept]

theorem Core.scrubRow_kept (c : Core) (b : Nat) (h_c : (c).memsOk = true) :
    (Core.scrubRow c b).memsOk = true := by
  grind [Core.scrubRow, Core.noteEcc_kept, Core.setBank_kept]

theorem Core.scrubWriteback_kept (c : Core) (b : Nat) (h_c : (c).memsOk = true) :
    (Core.scrubWriteback c b).memsOk = true := by
  grind [Core.scrubWriteback, EccMem.put_kept, Core.setBank_kept, coreMemsOk_eq, wf_eq, foldl_keptC, foldl_keptE,
      coresOk_set, stksOk_set, hostOk_hostWrites, core_reset_kept, stack_reset_kept, EccMem.zero_kept]

theorem Core.marchBegin_kept (c : Core) (kind : Nat) (bank : Nat) (req : Option (Nat × Nat)) (h_c : (c).memsOk = true)
    :
    (Core.marchBegin c kind bank req).memsOk = true := by
  grind [Core.marchBegin, Core.setReg_kept, coreMemsOk_eq, wf_eq]

theorem Core.mtStart_kept (c : Core) (v : Word) (h_c : (c).memsOk = true) :
    (Core.mtStart c v).memsOk = true := by
  grind [Core.mtStart, Core.setReg_kept, Core.marchBegin_kept]

theorem Core.marchAbort_kept (c : Core) (h_c : (c).memsOk = true) :
    (Core.marchAbort c).memsOk = true := by
  grind [Core.marchAbort, Core.setReg_kept, Core.zeroBank_kept, coreMemsOk_eq, wf_eq]

theorem State.marchStop_kept {wq : List Instr} (s : State) (k : SiteId) (h_s : (s).kept wq = true) :
    (State.marchStop s k).kept wq = true := by
  grind [State.marchStop, !(State.core_kept (wq := wq)), !(State.putCore_kept (wq := wq)), !(State.complete_kept (wq
      := wq)), !(State.testDone_kept (wq := wq)), Core.marchAbort_kept]

theorem correctBank_kept (m : EccMem) (b : Nat) (h_m : (m).wf = true) :
    (correctBank m b).wf = true := by
  grind [correctBank, EccMem.put_kept, coreMemsOk_eq, wf_eq, foldl_keptC, foldl_keptE, coresOk_set, stksOk_set,
      hostOk_hostWrites, core_reset_kept, stack_reset_kept, EccMem.zero_kept]

theorem Core.marchEnd_kept (c : Core) (bad : List (Nat × Nat)) (h_c : (c).memsOk = true) :
    (Core.marchEnd c bad).memsOk = true := by
  grind [Core.marchEnd, Core.setReg_kept, Core.zeroBank_kept, correctBank_kept, coreMemsOk_eq, wf_eq]

end Sys2Proof.Machine
end

