-- ==== Sys2Proof/Laws/KeepOperands.lean ====
section
/-!
SUPPORT. What each operation of Machine/Operands.lean keeps: the canonical form of every memory, and the queue of waiting
commands.
-/

namespace Sys2Proof.Machine

set_option maxRecDepth 2000

theorem Core.readSegs_kept (c : Core) (src : Nat) (z0 : List (Nat × Nat)) (h_c : (c).memsOk = true) :
    ((Core.readSegs c src z0).1).memsOk = true := by
  induction z0 generalizing c src <;> grind [Core.readSegs, Core.sramRead_kept, coreMemsOk_eq, wf_eq, foldl_keptC,
      foldl_keptE, coresOk_set, stksOk_set, hostOk_hostWrites, core_reset_kept, stack_reset_kept, EccMem.zero_kept]

theorem Core.writeSegs_kept (c : Core) (src : Nat) (z0 : List (Nat × Nat)) (z1 : List Byte) (h_c : (c).memsOk = true)
    :
    ((Core.writeSegs c src z0 z1).1).memsOk = true := by
  induction z0 generalizing c src z1 <;> grind [Core.writeSegs, Core.sramWrite_kept, coreMemsOk_eq, wf_eq,
      foldl_keptC, foldl_keptE, coresOk_set, stksOk_set, hostOk_hostWrites, core_reset_kept, stack_reset_kept,
      EccMem.zero_kept]

theorem Core.takeLand_kept (c : Core) (a : Nat) (n : Nat) (h_c : (c).memsOk = true) :
    ((Core.takeLand c a n).1).memsOk = true := by
  grind [Core.takeLand, Core.setAcc_kept, Core.readSegs_kept]

theorem Core.dispatch_kept (c : Core) (eng : Nat) (o : Op) (h_c : (c).memsOk = true) :
    (Core.dispatch c eng o).memsOk = true := by
  grind [Core.dispatch, Core.setEngine_kept]

theorem Core.retireOps_kept (c : Core) (eng : Nat) (h_c : (c).memsOk = true) :
    (Core.retireOps c eng).memsOk = true := by
  grind [Core.retireOps, Core.setEngine_kept]

theorem Core.finishOp_kept (c : Core) (eng : Nat) (seq : Nat) (h_c : (c).memsOk = true) :
    (Core.finishOp c eng seq).memsOk = true := by
  grind [Core.finishOp, Core.setEngine_kept, Core.retireOps_kept]

theorem Core.progress_kept (c : Core) (h_c : (c).memsOk = true) :
    (Core.progress c).memsOk = true := by
  grind [Core.progress, coreMemsOk_eq, wf_eq]

theorem Core.chkApply_kept (c : Core) (off : Nat) (v : Word) (h_c : (c).memsOk = true) :
    (Core.chkApply c off v).memsOk = true := by
  grind [Core.chkApply, Core.setReg_kept, coreMemsOk_eq, wf_eq]

theorem Core.chkWrite_kept (c : Core) (off : Nat) (v : Word) (h_c : (c).memsOk = true) :
    (Core.chkWrite c off v).memsOk = true := by
  grind [Core.chkWrite, Core.chkApply_kept, coreMemsOk_eq, wf_eq]

theorem Core.chkLate_kept (c : Core) (h_c : (c).memsOk = true) :
    (Core.chkLate c).memsOk = true := by
  grind [Core.chkLate, Core.chkApply_kept, coreMemsOk_eq, wf_eq, foldl_keptC, foldl_keptE, coresOk_set, stksOk_set,
      hostOk_hostWrites, core_reset_kept, stack_reset_kept, EccMem.zero_kept]

theorem Core.landWrite_kept (c : Core) (v : Word) (h_c : (c).memsOk = true) :
    (Core.landWrite c v).memsOk = true := by
  grind [Core.landWrite, Core.setReg_kept, Core.setAcc_kept, coreMemsOk_eq, wf_eq, foldl_keptC, foldl_keptE,
      coresOk_set, stksOk_set, hostOk_hostWrites, core_reset_kept, stack_reset_kept, EccMem.zero_kept]

end Sys2Proof.Machine
end

