-- ==== Sys2Proof/Laws/KeepSource.lean ====
section
/-!
SUPPORT. What each operation of Machine/Source.lean keeps: the canonical form of every memory, and the queue of waiting
commands.
-/

namespace Sys2Proof.Machine

set_option maxRecDepth 2000

theorem State.answerHere_kept {wq : List Instr} (s : State) (k : SiteId) (p : Packet) (code : Byte) (h_s : (s).kept wq
    = true) :
    (State.answerHere s k p code).kept wq = true := by
  grind [State.answerHere, !(State.fly_kept (wq := wq))]

theorem State.enter_kept {wq : List Instr} (s : State) (k : SiteId) (p : Packet) (h_s : (s).kept wq = true) :
    (State.enter s k p).kept wq = true := by
  grind [State.enter, !(State.core_kept (wq := wq)), !(State.setCore_kept (wq := wq)), Core.bump_kept,
      !(State.modCore_kept (wq := wq)), !(State.inject_kept (wq := wq)), !(State.refuse_kept (wq := wq)),
      Core.progress_kept, !(State.answerHere_kept (wq := wq))]

theorem State.newRequest_kept {wq : List Instr} (s : State) (k : SiteId) (plane : Plane) (dest : DWord) (type : Byte)
    (gen : BitVec 3) (tag : BitVec 16) (bytes : Nat) (payload : List Byte) (h_s : (s).kept wq = true) :
    ((State.newRequest s k plane dest type gen tag bytes payload).1).kept wq = true := by
  grind [State.newRequest, !(State.core_kept (wq := wq)), !(State.setCore_kept (wq := wq)), !(kept_eq (wq := wq)),
      coreMemsOk_eq, wf_eq, !(foldl_kept (wq := wq)), foldl_keptC, foldl_keptE, coresOk_set, stksOk_set,
      hostOk_hostWrites, core_reset_kept, stack_reset_kept, EccMem.zero_kept]

theorem State.sendRead_kept {wq : List Instr} (s : State) (k : SiteId) (a : Nat) (dest : DWord) (bytes : Nat) (slots :
    List Nat) (header : Option Nat) (gen : BitVec 3) (h_s : (s).kept wq = true) :
    (State.sendRead s k a dest bytes slots header gen).kept wq = true := by
  grind [State.sendRead, !(State.core_kept (wq := wq)), !(State.setCore_kept (wq := wq)), Core.setAcc_kept,
      !(State.enter_kept (wq := wq)), !(State.newRequest_kept (wq := wq)), !(kept_eq (wq := wq)), coreMemsOk_eq,
      wf_eq, !(foldl_kept (wq := wq)), foldl_keptC, foldl_keptE, coresOk_set, stksOk_set, hostOk_hostWrites,
      core_reset_kept, stack_reset_kept, EccMem.zero_kept]

theorem Core.landSlots_kept (c : Core) (a : Nat) (z0 : List Nat) (z1 : List Byte) (h_c : (c).memsOk = true) :
    (Core.landSlots c a z0 z1).memsOk = true := by
  induction z0 generalizing c a z1 <;> grind [Core.landSlots, Core.setAcc_kept, Core.writeSegs_kept, coreMemsOk_eq,
      wf_eq, foldl_keptC, foldl_keptE, coresOk_set, stksOk_set, hostOk_hostWrites, core_reset_kept,
      stack_reset_kept, EccMem.zero_kept]

theorem Core.setStream_kept (c : Core) (a : Nat) (t : StreamSt) (h_c : (c).memsOk = true) :
    (Core.setStream c a t).memsOk = true := by
  grind [Core.setStream, Core.setAcc_kept]

theorem State.headerStep_kept {wq : List Instr} (s : State) (k : SiteId) (a : Nat) (t : StreamSt) (d : SDesc) (h_s :
    (s).kept wq = true) :
    ∀ y, State.headerStep s k a t d = some y → (y).kept wq = true := by
  grind [State.headerStep, !(State.core_kept (wq := wq)), !(State.setCore_kept (wq := wq)), !(State.sendRead_kept (wq
      := wq)), Core.setStream_kept]

theorem State.sparseStep_kept {wq : List Instr} (s : State) (k : SiteId) (a : Nat) (t : StreamSt) (d : SDesc) (h_s :
    (s).kept wq = true) :
    ∀ y, State.sparseStep s k a t d = some y → (y).kept wq = true := by
  grind [State.sparseStep, !(State.core_kept (wq := wq)), Core.add64_kept, !(State.putCore_kept (wq := wq)),
      !(State.add64_kept (wq := wq)), Core.setAcc_kept, !(State.sendRead_kept (wq := wq)), Core.landSlots_kept]

theorem State.denseStep_kept {wq : List Instr} (s : State) (k : SiteId) (a : Nat) (t : StreamSt) (d : SDesc) (h_s :
    (s).kept wq = true) :
    ∀ y, State.denseStep s k a t d = some y → (y).kept wq = true := by
  grind [State.denseStep, !(State.core_kept (wq := wq)), !(State.setCore_kept (wq := wq)), Core.setAcc_kept,
      !(State.sendRead_kept (wq := wq))]

theorem State.accStep_kept {wq : List Instr} (s : State) (k : SiteId) (a : Nat) (h_s : (s).kept wq = true) :
    ∀ y, State.accStep s k a = some y → (y).kept wq = true := by
  grind [State.accStep, !(State.core_kept (wq := wq)), !(State.setCore_kept (wq := wq)), !(State.enter_kept (wq :=
      wq)), Core.setStream_kept, !(State.headerStep_kept (wq := wq)), !(State.sparseStep_kept (wq := wq)),
      !(State.denseStep_kept (wq := wq))]

theorem State.accRun_kept {wq : List Instr} (s : State) (k : SiteId) (a : Nat) (z0 : Nat) (h_s : (s).kept wq = true) :
    (State.accRun s k a z0).kept wq = true := by
  induction z0 generalizing s k a <;> grind [State.accRun, !(State.accStep_kept (wq := wq)), !(kept_eq (wq := wq)),
      coreMemsOk_eq, wf_eq, !(foldl_kept (wq := wq)), foldl_keptC, foldl_keptE, coresOk_set, stksOk_set,
      hostOk_hostWrites, core_reset_kept, stack_reset_kept, EccMem.zero_kept]

theorem State.mcFree_kept {wq : List Instr} (s : State) (k : SiteId) (a : Nat) (h_s : (s).kept wq = true) :
    (State.mcFree s k a).kept wq = true := by
  grind [State.mcFree, !(State.core_kept (wq := wq)), !(State.setCore_kept (wq := wq)), Core.setAcc_kept,
      !(State.injectC_kept (wq := wq)), !(kept_eq (wq := wq)), coreMemsOk_eq, wf_eq, !(foldl_kept (wq := wq)),
      foldl_keptC, foldl_keptE, coresOk_set, stksOk_set, hostOk_hostWrites, core_reset_kept, stack_reset_kept,
      EccMem.zero_kept]

theorem Core.mapOp_kept (c : Core) (eng : Nat) (seq : Nat) (f : Op → Op) (h_c : (c).memsOk = true) :
    (Core.mapOp c eng seq f).memsOk = true := by
  grind [Core.mapOp, Core.setEngine_kept]

theorem State.sendStep_kept {wq : List Instr} (s : State) (k : SiteId) (h_s : (s).kept wq = true) :
    ∀ y, State.sendStep s k = some y → (y).kept wq = true := by
  grind [State.sendStep, !(State.core_kept (wq := wq)), !(State.setCore_kept (wq := wq)), !(State.enter_kept (wq :=
      wq)), !(State.newRequest_kept (wq := wq)), Core.mapOp_kept, !(kept_eq (wq := wq)), coreMemsOk_eq, wf_eq,
      !(foldl_kept (wq := wq)), foldl_keptC, foldl_keptE, coresOk_set, stksOk_set, hostOk_hostWrites,
      core_reset_kept, stack_reset_kept, EccMem.zero_kept]

theorem State.sendRun_kept {wq : List Instr} (s : State) (k : SiteId) (z0 : Nat) (h_s : (s).kept wq = true) :
    (State.sendRun s k z0).kept wq = true := by
  induction z0 generalizing s k <;> grind [State.sendRun, !(State.sendStep_kept (wq := wq)), !(kept_eq (wq := wq)),
      coreMemsOk_eq, wf_eq, !(foldl_kept (wq := wq)), foldl_keptC, foldl_keptE, coresOk_set, stksOk_set,
      hostOk_hostWrites, core_reset_kept, stack_reset_kept, EccMem.zero_kept]

theorem State.pump_kept {wq : List Instr} (s : State) (k : SiteId) (h_s : (s).kept wq = true) :
    (State.pump s k).kept wq = true := by
  grind [State.pump, !(State.accRun_kept (wq := wq)), !(State.mcFree_kept (wq := wq)), !(State.sendRun_kept (wq :=
      wq))]

end Sys2Proof.Machine
end

