-- ==== Sys2Proof/Laws/KeepTensor.lean ====
section
/-!
SUPPORT. What each operation of Machine/Tensor.lean keeps: the canonical form of every memory, and the queue of waiting
commands.
-/

namespace Sys2Proof.Machine

set_option maxRecDepth 2000

theorem Core.takeElems_kept (c : Core) (o : Op) (segs : List (Nat × Nat)) (rows : Nat) (len : Nat) (h_c : (c).memsOk =
    true) :
    ((Core.takeElems c o segs rows len).1).memsOk = true := by
  grind [Core.takeElems, Core.readSegs_kept, Core.takeLand_kept, coreMemsOk_eq, wf_eq]

theorem Core.wloadRun_kept (c : Core) (o : Op) (f : Format) (h_c : (c).memsOk = true) :
    ((Core.wloadRun c o f).1).memsOk = true := by
  grind [Core.wloadRun, Core.bump_kept, Core.readSegs_kept, Core.takeElems_kept]

theorem State.headFault_kept {wq : List Instr} (s : State) (k : SiteId) (eng : Nat) (o : Op) (f : Nat × Byte) (h_s :
    (s).kept wq = true) :
    (State.headFault s k eng o f).kept wq = true := by
  grind [State.headFault, !(State.engineFault_kept (wq := wq))]

theorem wload_kept {wq : List Instr} (k : SiteId) (s : State) (h_s : (s).kept wq = true) :
    (wload k s).kept wq = true := by
  unfold wload
  dsimp only
  (repeat' split) <;> grind [!(State.core_kept (wq := wq)), !(State.putCore_kept (wq := wq)), Core.dispatch_kept,
      !(State.pump_kept (wq := wq)), Core.wloadRun_kept, !(State.headFault_kept (wq := wq)), !(kept_eq (wq := wq)),
      coreMemsOk_eq, wf_eq, !(foldl_kept (wq := wq)), foldl_keptC, foldl_keptE, coresOk_set, stksOk_set,
      hostOk_hostWrites, core_reset_kept, stack_reset_kept, EccMem.zero_kept]

theorem wloadComplete_kept {wq : List Instr} (k : SiteId) (s : State) (h_s : (s).kept wq = true) :
    (wloadComplete k s).kept wq = true := by
  grind [wloadComplete, !(State.core_kept (wq := wq)), !(State.putCore_kept (wq := wq)), !(State.checkDone_kept (wq :=
      wq)), Core.finishOp_kept, Core.progress_kept, !(kept_eq (wq := wq)), coreMemsOk_eq, wf_eq, !(foldl_kept (wq :=
      wq)), foldl_keptC, foldl_keptE, coresOk_set, stksOk_set, hostOk_hostWrites, core_reset_kept, stack_reset_kept,
      EccMem.zero_kept]

theorem Core.setAccRow_kept (c : Core) (r : Nat) (x : AccRow) (h_c : (c).memsOk = true) :
    (Core.setAccRow c r x).memsOk = true := by
  grind [Core.setAccRow, coreMemsOk_eq, wf_eq]

theorem Core.tmmRows_kept (c : Core) (o : Op) (wf : Format) (af : Format) (kb : Nat) (ws : List (List Nat)) (wscs :
    List (List Byte)) (z0 : Nat) (z1 : List (List Nat × List Byte)) (h_c : (c).memsOk = true) :
    ((Core.tmmRows c o wf af kb ws wscs z0 z1).1).memsOk = true := by
  induction z1 generalizing c z0 with
  | nil => exact h_c
  | cons x rest ih =>
    obtain ⟨a, asc⟩ := x
    unfold Core.tmmRows
    dsimp only
    split
    · exact h_c
    · exact ih _ _ (Core.setAccRow_kept _ _ _ h_c)

theorem Core.tmmRun_kept (c : Core) (o : Op) (wf : Format) (af : Format) (t : Tile) (h_c : (c).memsOk = true) :
    ((Core.tmmRun c o wf af t).1).memsOk = true := by
  grind [Core.tmmRun, Core.bump_kept, Core.readSegs_kept, Core.takeElems_kept, Core.tmmRows_kept]

theorem tmm_kept {wq : List Instr} (k : SiteId) (s : State) (h_s : (s).kept wq = true) :
    (tmm k s).kept wq = true := by
  unfold tmm
  dsimp only
  (repeat' split) <;> grind [!(State.core_kept (wq := wq)), Core.add64_kept, !(State.putCore_kept (wq := wq)),
      !(State.add64_kept (wq := wq)), Core.dispatch_kept, !(State.pump_kept (wq := wq)), !(State.headFault_kept (wq
      := wq)), Core.tmmRun_kept, !(kept_eq (wq := wq)), coreMemsOk_eq, wf_eq, !(foldl_kept (wq := wq)), foldl_keptC,
      foldl_keptE, coresOk_set, stksOk_set, hostOk_hostWrites, core_reset_kept, stack_reset_kept, EccMem.zero_kept]

theorem tmmComplete_kept {wq : List Instr} (k : SiteId) (s : State) (h_s : (s).kept wq = true) :
    (tmmComplete k s).kept wq = true := by
  grind [tmmComplete, !(State.core_kept (wq := wq)), !(State.putCore_kept (wq := wq)), !(State.checkDone_kept (wq :=
      wq)), Core.finishOp_kept, Core.progress_kept, Core.chkLate_kept]

theorem azero_kept {wq : List Instr} (k : SiteId) (s : State) (h_s : (s).kept wq = true) :
    (azero k s).kept wq = true := by
  grind [azero, !(State.core_kept (wq := wq)), Core.add64_kept, !(State.putCore_kept (wq := wq)), !(State.add64_kept
      (wq := wq)), !(State.checkDone_kept (wq := wq)), Core.dispatch_kept, Core.retireOps_kept, Core.progress_kept,
      !(State.headFault_kept (wq := wq)), Core.setAccRow_kept, !(kept_eq (wq := wq)), coreMemsOk_eq, wf_eq,
      !(foldl_kept (wq := wq)), foldl_keptC, foldl_keptE, coresOk_set, stksOk_set, hostOk_hostWrites,
      core_reset_kept, stack_reset_kept, EccMem.zero_kept]

end Sys2Proof.Machine
end

