-- ==== Sys2Proof/Laws/KeepAccess.lean ====
section
/-!
SUPPORT. What each operation of Machine/Access.lean keeps: the canonical form of every memory, and the queue of waiting
commands.
-/

namespace Sys2Proof.Machine

set_option maxRecDepth 2000

theorem Core.auditCompare_kept (c : Core) (p : PBlock) (pred : List Byte) (truth : List Byte) (h_c : (c).memsOk =
    true) :
    (Core.auditCompare c p pred truth).memsOk = true := by
  grind [Core.auditCompare, Core.bump_kept]

theorem Core.wakeFor_kept (c : Core) (segs : List (Nat × Nat)) (h_c : (c).memsOk = true) :
    ((Core.wakeFor c segs).1).memsOk = true := by
  grind [Core.wakeFor, Core.wakeBank_kept, coreMemsOk_eq, wf_eq, foldl_keptC, foldl_keptE, coresOk_set, stksOk_set,
      hostOk_hostWrites, core_reset_kept, stack_reset_kept, EccMem.zero_kept]

theorem Core.predictRead_kept (c : Core) (b : Bool) (a : Nat) (n : Nat) (h_c : (c).memsOk = true) :
    ((Core.predictRead c b a n).1).memsOk = true := by
  grind [Core.predictRead, Core.sramRead_kept]

theorem Core.predictLand_kept (c : Core) (m : Nat) (p : PBlock) (b : List Byte) (zb : List Byte) (rb : List Byte) (h_c
    : (c).memsOk = true) :
    ((Core.predictLand c m p b zb rb).1).memsOk = true := by
  grind [Core.predictLand, Core.bump_kept, Core.sramWrite_kept]

theorem Core.predictMark_kept (c : Core) (verify : Bool) (m : Nat) (p : PBlock) (h_c : (c).memsOk = true) :
    (Core.predictMark c verify m p).memsOk = true := by
  grind [Core.predictMark, Core.sramWrite_kept]

theorem Core.predictAt_kept (c : Core) (m : Nat) (runs : Nat) (h_c : (c).memsOk = true) :
    ((Core.predictAt c m runs).1).memsOk = true := by
  grind [Core.predictAt, Core.sramRead_kept, Core.auditCompare_kept, Core.wakeFor_kept, Core.predictRead_kept,
      Core.predictLand_kept, Core.predictMark_kept]

theorem Core.beginStream_kept (c : Core) (a : Nat) (o : Op) (d : SDesc) (fetch : Option (List Byte)) (h_c : (c).memsOk
    = true) :
    (Core.beginStream c a o d fetch).memsOk = true := by
  unfold Core.beginStream
  grind [Core.setAcc_kept, Core.dispatch_kept, coreMemsOk_eq, wf_eq]

theorem accDispatch_kept {wq : List Instr} (opc : Nat) (k : SiteId) (a1 : Bool) (s : State) (h_s : (s).kept wq = true)
    :
    (accDispatch opc k a1 s).kept wq = true := by
  grind [accDispatch, !(State.core_kept (wq := wq)), !(State.setCore_kept (wq := wq)), !(State.putCore_kept (wq :=
      wq)), !(State.pump_kept (wq := wq)), !(State.headFault_kept (wq := wq)), Core.predictAt_kept,
      Core.beginStream_kept]

theorem streamComplete_kept {wq : List Instr} (k : SiteId) (a1 : Bool) (s : State) (h_s : (s).kept wq = true) :
    (streamComplete k a1 s).kept wq = true := by
  grind [streamComplete, !(State.core_kept (wq := wq)), !(State.setCore_kept (wq := wq)), Core.setAcc_kept,
      !(State.checkDone_kept (wq := wq)), Core.finishOp_kept, Core.progress_kept]

end Sys2Proof.Machine
end

