-- ==== Sys2Proof/Laws/KeepFlags.lean ====
section
/-!
SUPPORT. What each operation of Machine/Flags.lean keeps: the canonical form of every memory, and the queue of waiting
commands.
-/

namespace Sys2Proof.Machine

set_option maxRecDepth 2000

theorem Core.setFlags_kept (c : Core) (m : BitVec 16) (h_c : (c).memsOk = true) :
    (Core.setFlags c m).memsOk = true := by
  grind [Core.setFlags, coreMemsOk_eq, wf_eq]

theorem Core.clrFlags_kept (c : Core) (m : BitVec 16) (h_c : (c).memsOk = true) :
    (Core.clrFlags c m).memsOk = true := by
  grind [Core.clrFlags, coreMemsOk_eq, wf_eq]

theorem Core.pend_kept (c : Core) (ctx : Nat) (ev : Nat) (h_c : (c).memsOk = true) :
    (Core.pend c ctx ev).memsOk = true := by
  grind [Core.pend, Core.setCtx_kept]

theorem Core.ovfClear_kept (c : Core) (off : Nat) (v : Word) (h_c : (c).memsOk = true) :
    (Core.ovfClear c off v).memsOk = true := by
  grind [Core.ovfClear, Core.setReg_kept, coreMemsOk_eq, wf_eq, foldl_keptC, foldl_keptE, coresOk_set, stksOk_set,
      hostOk_hostWrites, core_reset_kept, stack_reset_kept, EccMem.zero_kept]

theorem Core.latchHigh_kept (c : Core) (off : Nat) (v : DWord) (h_c : (c).memsOk = true) :
    (Core.latchHigh c off v).memsOk = true := by
  grind [Core.latchHigh, coreMemsOk_eq, wf_eq]

end Sys2Proof.Machine
end

