-- ==== Sys2Proof/Laws/KeepCoreRegs.lean ====
section
/-!
SUPPORT. What each operation of Machine/CoreRegs.lean keeps: the canonical form of every memory, and the queue of waiting
commands.
-/

namespace Sys2Proof.Machine

set_option maxRecDepth 2000

theorem Core.setTq_kept (c : Core) (n : Nat) (x : TokQ) (h_c : (c).memsOk = true) :
    (Core.setTq c n x).memsOk = true := by
  grind [Core.setTq, coreMemsOk_eq, wf_eq]

theorem Core.setChan_kept (c : Core) (off : Nat) (v : Word) (h_c : (c).memsOk = true) :
    (Core.setChan c off v).memsOk = true := by
  grind [Core.setChan, coreMemsOk_eq, wf_eq]

theorem Core.setCmb_kept (c : Core) (off : Nat) (v : Word) (h_c : (c).memsOk = true) :
    (Core.setCmb c off v).memsOk = true := by
  grind [Core.setCmb, coreMemsOk_eq, wf_eq]

theorem State.coreRead_kept {wq : List Instr} (s : State) (k : SiteId) (off : Nat) (h_s : (s).kept wq = true) :
    ((State.coreRead s k off).1).kept wq = true := by
  grind [State.coreRead, !(State.core_kept (wq := wq)), !(State.setCore_kept (wq := wq)), !(State.putCore_kept (wq :=
      wq)), !(State.modCore_kept (wq := wq)), Core.noteEcc_kept, Core.sramRead_kept, Core.latchHigh_kept,
      Core.setTq_kept]

theorem Core.chanWrite_kept (c : Core) (off : Nat) (v : Word) (h_c : (c).memsOk = true) :
    (Core.chanWrite c off v).memsOk = true := by
  grind [Core.chanWrite, Core.setChan_kept]

theorem Core.cmbWrite_kept (c : Core) (off : Nat) (v : Word) (h_c : (c).memsOk = true) :
    (Core.cmbWrite c off v).memsOk = true := by
  grind [Core.cmbWrite, Core.setCmb_kept]

theorem Core.ctxWrite_kept (c : Core) (off : Nat) (v : Word) (h_c : (c).memsOk = true) :
    (Core.ctxWrite c off v).memsOk = true := by
  grind [Core.ctxWrite, EccMem.write_kept, Core.setCtx_kept, Core.pend_kept, coreMemsOk_eq, wf_eq]

theorem State.armLaunch_kept {wq : List Instr} (s : State) (k : SiteId) (v : Word) (h_s : (s).kept wq = true) :
    (State.armLaunch s k v).kept wq = true := by
  grind [State.armLaunch, !(State.core_kept (wq := wq)), !(State.setCore_kept (wq := wq)), Core.setReg_kept, !(kept_eq
      (wq := wq)), coreMemsOk_eq, wf_eq, !(foldl_kept (wq := wq)), foldl_keptC, foldl_keptE, coresOk_set,
      stksOk_set, hostOk_hostWrites, core_reset_kept, stack_reset_kept, EccMem.zero_kept]

theorem State.armDrain_kept {wq : List Instr} (s : State) (k : SiteId) (v : Word) (h_s : (s).kept wq = true) :
    (State.armDrain s k v).kept wq = true := by
  grind [State.armDrain, !(State.core_kept (wq := wq)), !(State.setCore_kept (wq := wq)), Core.setReg_kept, !(kept_eq
      (wq := wq)), coreMemsOk_eq, wf_eq, !(foldl_kept (wq := wq)), foldl_keptC, foldl_keptE, coresOk_set,
      stksOk_set, hostOk_hostWrites, core_reset_kept, stack_reset_kept, EccMem.zero_kept]

theorem State.coreWrite_kept {wq : List Instr} (s : State) (k : SiteId) (off : Nat) (v : Word) (h_s : (s).kept wq =
    true) :
    (State.coreWrite s k off v).kept wq = true := by
  have m : ∀ f : Core → Core, (∀ c, c.memsOk = true → (f c).memsOk = true) → (s.modCore k f).kept wq = true :=
    fun f h => State.modCore_kept s k f h_s h
  have r : ∀ (o : Nat) (w : Core → Word), (s.modCore k fun c => c.setReg o (w c)).kept wq = true := fun o w => m _ fun
      c hc => Core.setReg_kept _ _ _ hc
  unfold State.coreWrite
  dsimp only
  split
  · exact m _ fun c hc => Core.ovfClear_kept _ _ _ hc
  split
  · exact m _ fun c hc => Core.chanWrite_kept _ _ _ hc
  split
  · exact m _ fun c hc => Core.cmbWrite_kept _ _ _ hc
  split
  · split
    · exact h_s
    · exact m _ fun c hc => hc
  split
  · exact m _ fun c hc => Core.ctxWrite_kept _ _ _ hc
  split
  · exact m _ fun c hc => Core.bankCtlWrite_kept _ _ _ hc
  split
  · exact m _ fun c hc => Core.winWrite_kept _ _ _ hc
  split
  · split
    · exact h_s
    · exact r _ _
  split
  · exact m _ fun c hc => Core.setFlags_kept _ _ hc
  · exact m _ fun c hc => Core.clrFlags_kept _ _ hc
  · exact m _ fun c hc => Core.landWrite_kept _ _ hc
  · have h := m (fun c => if wbit v 31 then c.mtStart v else c.setReg 0x1004A0 (v &&& 0x303)) (by
      intro c hc; split
      · exact Core.mtStart_kept _ _ hc
      · exact Core.setReg_kept _ _ _ hc)
    split
    · exact State.marchStop_kept _ _ h
    · exact h
  · exact State.armLaunch_kept _ _ _ h_s
  · exact State.armDrain_kept _ _ _ h_s
  · exact r _ _
  · exact m _ fun c hc => Core.chkWrite_kept _ _ _ hc
  · exact m _ fun c hc => Core.chkWrite_kept _ _ _ hc
  · split
    · exact h_s
    · exact r _ _

theorem Core.wakeBytes_kept (c : Core) (a : Nat) (n : Nat) (h_c : (c).memsOk = true) :
    (Core.wakeBytes c a n).memsOk = true := by
  grind [Core.wakeBytes, Core.wakeBank_kept, coreMemsOk_eq, wf_eq, foldl_keptC, foldl_keptE, coresOk_set, stksOk_set,
      hostOk_hostWrites, core_reset_kept, stack_reset_kept, EccMem.zero_kept]

end Sys2Proof.Machine
end

