-- ==== Sys2Proof/Laws/KeepRelOps.lean ====
section
/-!
SUPPORT. What each operation of Machine/RelOps.lean keeps: the canonical form of every memory, and the queue of waiting
commands.
-/

namespace Sys2Proof.Machine

set_option maxRecDepth 2000

theorem State.setSite_kept {wq : List Instr} (s : State) (k : SiteId) (x : SiteRec) (h_s : (s).kept wq = true) :
    (State.setSite s k x).kept wq = true := by
  grind [State.setSite, !(kept_eq (wq := wq))]

theorem State.setAreaRec_kept {wq : List Instr} (s : State) (a : Nat) (x : AreaRec) (h_s : (s).kept wq = true) :
    (State.setAreaRec s a x).kept wq = true := by
  grind [State.setAreaRec, !(kept_eq (wq := wq))]

theorem State.logRec_kept {wq : List Instr} (s : State) (type : Nat) (ws : List Nat) (h_s : (s).kept wq = true) :
    (State.logRec s type ws).kept wq = true := by
  grind [State.logRec, !(kept_eq (wq := wq))]

theorem State.applyFence_kept {wq : List Instr} (s : State) (k : SiteId) (reason : Nat) (h_s : (s).kept wq = true) :
    (State.applyFence s k reason).kept wq = true := by
  grind [State.applyFence, !(State.setRouter_kept (wq := wq))]

theorem State.fenceFault_kept {wq : List Instr} (s : State) (k : SiteId) (cause : Nat) (h_s : (s).kept wq = true) :
    (State.fenceFault s k cause).kept wq = true := by
  grind [State.fenceFault, !(State.core_kept (wq := wq)), !(State.faultRegion_kept (wq := wq))]

theorem State.fenceSite_kept {wq : List Instr} (s : State) (k : SiteId) (reason : Nat) (h_s : (s).kept wq = true) :
    (State.fenceSite s k reason).kept wq = true := by
  grind [State.fenceSite, !(State.raise_kept (wq := wq)), !(State.setSite_kept (wq := wq)), !(State.logRec_kept (wq :=
      wq)), !(State.applyFence_kept (wq := wq)), !(State.fenceFault_kept (wq := wq))]

theorem State.transient_kept {wq : List Instr} (s : State) (k : SiteId) (h_s : (s).kept wq = true) :
    (State.transient s k).kept wq = true := by
  grind [State.transient, !(State.setSite_kept (wq := wq)), !(State.logRec_kept (wq := wq)), !(State.fenceSite_kept
      (wq := wq))]

theorem State.charge_kept {wq : List Instr} (s : State) (k : SiteId) (m : Nat) (vstep : Nat) (kernel : Nat) (h_s :
    (s).kept wq = true) :
    (State.charge s k m vstep kernel).kept wq = true := by
  grind [State.charge, !(State.setSite_kept (wq := wq)), !(State.logRec_kept (wq := wq))]

theorem State.retested_kept {wq : List Instr} (s : State) (k : SiteId) (h_s : (s).kept wq = true) :
    (State.retested s k).kept wq = true := by
  grind [State.retested, !(State.setSite_kept (wq := wq)), !(State.fenceSite_kept (wq := wq)), !(State.transient_kept
      (wq := wq))]

theorem State.addRow_kept {wq : List Instr} (s : State) (k : SiteId) (bank : Nat) (row : Nat) (h_s : (s).kept wq =
    true) :
    (State.addRow s k bank row).kept wq = true := by
  grind [State.addRow, !(State.setSite_kept (wq := wq)), !(State.fenceSite_kept (wq := wq)), !(kept_eq (wq := wq))]

theorem State.assignSpares_kept {wq : List Instr} (s : State) (k : SiteId) (h_s : (s).kept wq = true) :
    (State.assignSpares s k).kept wq = true := by
  grind [State.assignSpares, !(State.core_kept (wq := wq)), !(State.setCore_kept (wq := wq)), !(kept_eq (wq := wq)),
      coreMemsOk_eq, wf_eq, !(foldl_kept (wq := wq)), foldl_keptC, foldl_keptE, coresOk_set, stksOk_set,
      hostOk_hostWrites, core_reset_kept, stack_reset_kept, EccMem.zero_kept]

theorem State.commitPlan_kept {wq : List Instr} (s : State) (v : Bool) (count : Nat) (origin : Nat) (h_s : (s).kept wq
    = true) :
    (State.commitPlan s v count origin).kept wq = true := by
  grind [State.commitPlan, !(State.setBar_kept (wq := wq)), !(State.core_kept (wq := wq)), !(State.logRec_kept (wq :=
      wq)), !(kept_eq (wq := wq))]

end Sys2Proof.Machine
end

