-- ==== Sys2Proof/Laws/KeepRouter.lean ====
section
/-!
SUPPORT. What each operation of Machine/Router.lean keeps: the canonical form of every memory, and the queue of waiting
commands.
-/

namespace Sys2Proof.Machine

set_option maxRecDepth 2000

theorem State.dropAt_kept {wq : List Instr} (s : State) (k : SiteId) (h_s : (s).kept wq = true) :
    (State.dropAt s k).kept wq = true := by
  grind [State.dropAt, Core.bump_kept, !(State.modCore_kept (wq := wq))]

theorem State.crossP_kept {wq : List Instr} (s : State) (k : SiteId) (d : Dir) (hops : BitVec 4) (p : Packet) (h_s :
    (s).kept wq = true) :
    (State.crossP s k d hops p).kept wq = true := by
  grind [State.crossP, Core.bump_kept, !(State.modCore_kept (wq := wq)), !(State.fly_kept (wq := wq)),
      !(State.routerRefuse_kept (wq := wq)), !(State.dropAt_kept (wq := wq))]

theorem State.crossC_kept {wq : List Instr} (s : State) (k : SiteId) (port : Port) (d : Dir) (c : CPacket) (h_s :
    (s).kept wq = true) :
    (State.crossC s k port d c).kept wq = true := by
  grind [State.crossC, !(State.fly_kept (wq := wq))]

theorem State.forwardC_kept {wq : List Instr} (s : State) (k : SiteId) (port : Port) (t : TreeAt) (c : CPacket) (h_s :
    (s).kept wq = true) :
    (State.forwardC s k port t c).kept wq = true := by
  grind [State.forwardC, !(State.crossC_kept (wq := wq)), !(kept_eq (wq := wq)), coreMemsOk_eq, wf_eq, !(foldl_kept
      (wq := wq)), foldl_keptC, foldl_keptE, coresOk_set, stksOk_set, hostOk_hostWrites, core_reset_kept,
      stack_reset_kept, EccMem.zero_kept]

theorem State.ejectC_kept {wq : List Instr} (s : State) (k : SiteId) (c : CPacket) (h_s : (s).kept wq = true) :
    (State.ejectC s k c).kept wq = true := by
  grind [State.ejectC, !(State.fly_kept (wq := wq))]

theorem State.broadcast_kept {wq : List Instr} (s : State) (k : SiteId) (port : Port) (c : CPacket) (h_s : (s).kept wq
    = true) :
    (State.broadcast s k port c).kept wq = true := by
  grind [State.broadcast, !(State.dropAt_kept (wq := wq)), !(State.forwardC_kept (wq := wq)), !(State.ejectC_kept (wq
      := wq))]

theorem State.mapCores_kept {wq : List Instr} (s : State) (f : Nat → Core → Core) (h_s : (s).kept wq = true) (h_f : ∀
    x0 x1, (x1).memsOk = true → (f x0 x1).memsOk = true) :
    (State.mapCores s f).kept wq = true := by
  have hc : coresOk s.cores = true := by grind [kept_eq]
  have : coresOk (s.cores.foldl (fun (t : Tbl Core) x => Tbl.set Core.reset t x.1 (f x.1 x.2)) s.cores) = true := by
    refine foldl_inv_mem (fun t => coresOk t = true) _ _ _ hc ?_
    intro t x hx ht
    refine coresOk_set _ _ _ ht (h_f _ _ ?_)
    simp only [coresOk, List.all_eq_true] at hc
    exact hc x hx
  grind [kept_eq, State.mapCores]

theorem Core.mcFresh_kept (c : Core) (g : Nat) (h_c : (c).memsOk = true) :
    (Core.mcFresh c g).memsOk = true := by
  grind [Core.mcFresh, Core.setAcc_kept, coreMemsOk_eq, wf_eq, foldl_keptC, foldl_keptE, coresOk_set, stksOk_set,
      hostOk_hostWrites, core_reset_kept, stack_reset_kept, EccMem.zero_kept]

theorem State.mapRouters_kept {wq : List Instr} (s : State) (f : Nat → Router → Router) (h_s : (s).kept wq = true) :
    (State.mapRouters s f).kept wq = true := by
  grind [State.mapRouters, !(kept_eq (wq := wq))]

theorem State.putTree_kept {wq : List Instr} (s : State) (v : Bool) (g : Nat) (root : SiteId) (t : TreeMap) (h_s :
    (s).kept wq = true) :
    ∀ y, State.putTree s v g root t = some y → (y).kept wq = true := by
  intro y hy
  unfold State.putTree at hy
  simp only [Option.map_eq_some_iff] at hy
  obtain ⟨t', ht, rfl⟩ := hy
  suffices h : t'.kept wq = true by grind [kept_eq]
  refine foldl_inv (fun a => ∀ z, a = some z → z.kept wq = true) _ _ _ ?_ ?_ _ ht
  · grind [State.mapRouters_kept]
  · intro a x ha z hz
    cases a with
    | none => simp at hz
    | some q =>
      simp only [Option.bind_eq_bind, Option.bind_some, Option.bind_eq_some_iff, Option.some.injEq] at hz
      obtain ⟨r, _, rfl⟩ := hz
      exact State.setRouter_kept _ _ _ (ha _ rfl)

theorem State.copyTables_kept {wq : List Instr} (s : State) (h_s : (s).kept wq = true) :
    (State.copyTables s).kept wq = true := by
  grind [State.copyTables, !(State.mapRouters_kept (wq := wq)), !(kept_eq (wq := wq))]

theorem State.epochBit_kept {wq : List Instr} (s : State) (i : Nat) (b : Bool) (h_s : (s).kept wq = true) :
    (State.epochBit s i b).kept wq = true := by
  grind [State.epochBit, !(State.setBar_kept (wq := wq))]

theorem State.setResult_kept {wq : List Instr} (s : State) (r : Nat) (h_s : (s).kept wq = true) :
    (State.setResult s r).kept wq = true := by
  grind [State.setResult, !(State.setBar_kept (wq := wq))]

theorem State.setStaging_kept {wq : List Instr} (s : State) (x : Nat) (h_s : (s).kept wq = true) :
    (State.setStaging s x).kept wq = true := by
  grind [State.setStaging, !(State.epochBit_kept (wq := wq)), !(kept_eq (wq := wq))]

theorem State.dropGroup_kept {wq : List Instr} (s : State) (v : Bool) (g : Nat) (h_s : (s).kept wq = true) :
    (State.dropGroup s v g).kept wq = true := by
  grind [State.dropGroup, !(State.mapRouters_kept (wq := wq)), !(kept_eq (wq := wq))]

theorem State.failFlip_kept {wq : List Instr} (s : State) (f : Flip) (status : Nat) (h_s : (s).kept wq = true) :
    (State.failFlip s f status).kept wq = true := by
  grind [State.failFlip, !(State.setRegion_kept (wq := wq)), Core.setReg_kept, !(State.modCore_kept (wq := wq)),
      !(State.completeOpt_kept (wq := wq)), !(State.dropGroup_kept (wq := wq)), !(kept_eq (wq := wq)),
      coreMemsOk_eq, wf_eq, !(foldl_kept (wq := wq)), foldl_keptC, foldl_keptE, coresOk_set, stksOk_set,
      hostOk_hostWrites, core_reset_kept, stack_reset_kept, EccMem.zero_kept]

theorem State.markUp_kept {wq : List Instr} (s : State) (l : SiteId × Dir) (h_s : (s).kept wq = true) :
    (State.markUp s l).kept wq = true := by
  grind [State.markUp, !(State.setRouter_kept (wq := wq))]

theorem State.rerouteHeld_kept {wq : List Instr} (s : State) (h_s : (s).kept wq = true) :
    (State.rerouteHeld s).kept wq = true := by
  grind [State.rerouteHeld, !(kept_eq (wq := wq))]

theorem State.noteImage_kept {wq : List Instr} (s : State) (m : BitVec 256 × BitVec 256) (h_s : (s).kept wq = true) :
    (State.noteImage s m).kept wq = true := by
  grind [State.noteImage, !(kept_eq (wq := wq))]

theorem State.afterFlip_kept {wq : List Instr} (s : State) (f : Flip) (h_s : (s).kept wq = true) :
    (State.afterFlip s f).kept wq = true := by
  grind [State.afterFlip, !(State.setRouter_kept (wq := wq)), !(State.setRegion_kept (wq := wq)),
      !(State.completeOpt_kept (wq := wq)), !(State.commitPlan_kept (wq := wq)), !(State.noteImage_kept (wq := wq)),
      !(kept_eq (wq := wq)), coreMemsOk_eq, wf_eq, !(foldl_kept (wq := wq)), foldl_keptC, foldl_keptE, coresOk_set,
      stksOk_set, hostOk_hostWrites, core_reset_kept, stack_reset_kept, EccMem.zero_kept]

theorem State.switchVersion_kept {wq : List Instr} (s : State) (h_s : (s).kept wq = true) :
    (State.switchVersion s).kept wq = true := by
  grind [State.switchVersion, !(State.bumpBar_kept (wq := wq)), !(State.mapCores_kept (wq := wq)), Core.mcFresh_kept,
      !(State.mapRouters_kept (wq := wq)), !(State.epochBit_kept (wq := wq)), !(State.setResult_kept (wq := wq)),
      !(State.markUp_kept (wq := wq)), !(State.rerouteHeld_kept (wq := wq)), !(kept_eq (wq := wq)), coreMemsOk_eq,
      wf_eq, !(foldl_kept (wq := wq)), foldl_keptC, foldl_keptE, coresOk_set, stksOk_set, hostOk_hostWrites,
      core_reset_kept, stack_reset_kept, EccMem.zero_kept]

theorem State.sendFlip_kept {wq : List Instr} (s : State) (h_s : (s).kept wq = true) :
    (State.sendFlip s).kept wq = true := by
  grind [State.sendFlip, !(State.injectC_kept (wq := wq))]

theorem State.beginFence_kept {wq : List Instr} (s : State) (f : Flip) (h_s : (s).kept wq = true) :
    (State.beginFence s f).kept wq = true := by
  grind [State.beginFence, !(State.injectC_kept (wq := wq)), !(State.mapRouters_kept (wq := wq)),
      !(State.epochBit_kept (wq := wq)), !(State.afterFlip_kept (wq := wq)), !(State.switchVersion_kept (wq := wq)),
      !(kept_eq (wq := wq))]

theorem State.stageFor_kept {wq : List Instr} (s : State) (f : Flip) (h_s : (s).kept wq = true) :
    (State.stageFor s f).kept wq = true := by
  grind [State.stageFor, !(State.core_kept (wq := wq)), !(State.setCore_kept (wq := wq)), !(State.setRouter_kept (wq
      := wq)), !(State.copyTables_kept (wq := wq)), !(kept_eq (wq := wq)), coreMemsOk_eq, wf_eq, !(foldl_kept (wq :=
      wq)), foldl_keptC, foldl_keptE, coresOk_set, stksOk_set, hostOk_hostWrites, core_reset_kept, stack_reset_kept,
      EccMem.zero_kept]

theorem State.beginFlip_kept {wq : List Instr} (s : State) (f : Flip) (h_s : (s).kept wq = true) :
    (State.beginFlip s f).kept wq = true := by
  grind [State.beginFlip, !(State.setResult_kept (wq := wq)), !(State.setStaging_kept (wq := wq)),
      !(State.failFlip_kept (wq := wq)), !(State.beginFence_kept (wq := wq)), !(State.stageFor_kept (wq := wq)),
      !(kept_eq (wq := wq))]

theorem State.nextFlips_kept {wq : List Instr} (s : State) (z0 : Nat) (h_s : (s).kept wq = true) :
    (State.nextFlips s z0).kept wq = true := by
  induction z0 generalizing s <;> grind [State.nextFlips, !(State.beginFlip_kept (wq := wq)), !(kept_eq (wq := wq)),
      coreMemsOk_eq, wf_eq, !(foldl_kept (wq := wq)), foldl_keptC, foldl_keptE, coresOk_set, stksOk_set,
      hostOk_hostWrites, core_reset_kept, stack_reset_kept, EccMem.zero_kept]

theorem State.askFlip_kept {wq : List Instr} (s : State) (f : Flip) (h_s : (s).kept wq = true) :
    (State.askFlip s f).kept wq = true := by
  grind [State.askFlip, !(State.nextFlips_kept (wq := wq)), !(kept_eq (wq := wq))]

end Sys2Proof.Machine
end

