-- ==== Sys2Proof/Laws/KeepSync.lean ====
section
/-!
SUPPORT. What each operation of Machine/Sync.lean keeps: the canonical form of every memory, and the queue of waiting
commands.
-/

namespace Sys2Proof.Machine

set_option maxRecDepth 2000

theorem Core.setChState_kept (c : Core) (n : Nat) (st : Nat) (h_c : (c).memsOk = true) :
    (Core.setChState c n st).memsOk = true := by
  grind [Core.setChState, Core.setChan_kept]

theorem Core.startSend_kept (c : Core) (o : Op) (h_c : (c).memsOk = true) :
    (Core.startSend c o).memsOk = true := by
  grind [Core.startSend, Core.dispatch_kept]

theorem Core.settleSends_kept (c : Core) (h_c : (c).memsOk = true) :
    (Core.settleSends c).memsOk = true := by
  grind [Core.settleSends, Core.setEngine_kept, Core.retireOps_kept]

theorem State.sendOn_kept {wq : List Instr} (s : State) (k : SiteId) (h_s : (s).kept wq = true) :
    (State.sendOn s k).kept wq = true := by
  grind [State.sendOn, !(State.core_kept (wq := wq)), !(State.modCore_kept (wq := wq)), !(State.checkDone_kept (wq :=
      wq)), Core.progress_kept, !(State.pump_kept (wq := wq)), Core.settleSends_kept]

theorem State.sendNow_kept {wq : List Instr} (s : State) (k : SiteId) (o : Op) (body : List Byte) (h_s : (s).kept wq =
    true) :
    ((State.sendNow s k o body).1).kept wq = true := by
  grind [State.sendNow, !(State.core_kept (wq := wq)), !(State.setCore_kept (wq := wq)), Core.setChan_kept]

theorem State.sendFault_kept {wq : List Instr} (s : State) (k : SiteId) (o : Op) (f : Nat × Byte) (h_s : (s).kept wq =
    true) :
    (State.sendFault s k o f).kept wq = true := by
  grind [State.sendFault, !(State.engineFault_kept (wq := wq))]

theorem State.withBytes_kept {wq : List Instr} (s : State) (k : SiteId) (o : Op) (a : Nat) (n : Nat) (go : List Byte →
    State → State) (h_s : (s).kept wq = true) (h_go : ∀ x0 x1, (x1).kept wq = true → (go x0 x1).kept wq = true) :
    (State.withBytes s k o a n go).kept wq = true := by
  grind [State.withBytes, !(State.core_kept (wq := wq)), !(State.putCore_kept (wq := wq)), Core.sramRead_kept,
      Core.wakeBytes_kept, !(State.sendFault_kept (wq := wq))]

theorem seSend_kept {wq : List Instr} (k : SiteId) (o : Op) (s : State) (h_s : (s).kept wq = true) :
    (seSend k o s).kept wq = true := by
  grind [seSend, !(State.core_kept (wq := wq)), !(State.setCore_kept (wq := wq)), Core.bump_kept, !(State.putCore_kept
      (wq := wq)), !(State.modCore_kept (wq := wq)), Core.pend_kept, Core.startSend_kept, !(State.sendOn_kept (wq :=
      wq)), !(State.sendNow_kept (wq := wq)), !(State.sendFault_kept (wq := wq)), !(State.withBytes_kept (wq :=
      wq))]

theorem sendResume_kept {wq : List Instr} (k : SiteId) (s : State) (h_s : (s).kept wq = true) :
    (sendResume k s).kept wq = true := by
  grind [sendResume, !(State.core_kept (wq := wq)), Core.bump_kept, !(State.putCore_kept (wq := wq)),
      !(State.modCore_kept (wq := wq)), Core.mapOp_kept, Core.pend_kept, !(State.sendOn_kept (wq := wq)),
      !(State.sendNow_kept (wq := wq)), !(State.withBytes_kept (wq := wq))]

theorem seSignal_kept {wq : List Instr} (k : SiteId) (o : Op) (s : State) (h_s : (s).kept wq = true) :
    (seSignal k o s).kept wq = true := by
  grind [seSignal, !(State.modCore_kept (wq := wq)), Core.startSend_kept, !(State.sendOn_kept (wq := wq))]

theorem sePut_kept {wq : List Instr} (k : SiteId) (o : Op) (s : State) (h_s : (s).kept wq = true) :
    (sePut k o s).kept wq = true := by
  grind [sePut, !(State.modCore_kept (wq := wq)), Core.startSend_kept, !(State.sendOn_kept (wq := wq)),
      !(State.withBytes_kept (wq := wq))]

theorem seRelease_kept {wq : List Instr} (k : SiteId) (o : Op) (s : State) (h_s : (s).kept wq = true) :
    (seRelease k o s).kept wq = true := by
  grind [seRelease, !(State.core_kept (wq := wq)), !(State.setCore_kept (wq := wq)), Core.setChan_kept,
      Core.startSend_kept, !(State.sendOn_kept (wq := wq)), !(State.sendFault_kept (wq := wq))]

theorem seContrib_kept {wq : List Instr} (k : SiteId) (o : Op) (s : State) (h_s : (s).kept wq = true) :
    (seContrib k o s).kept wq = true := by
  grind [seContrib, !(State.modCore_kept (wq := wq)), Core.startSend_kept, !(State.sendOn_kept (wq := wq)),
      !(State.withBytes_kept (wq := wq))]

theorem seOpen_kept {wq : List Instr} (k : SiteId) (o : Op) (s : State) (h_s : (s).kept wq = true) :
    (seOpen k o s).kept wq = true := by
  grind [seOpen, !(State.core_kept (wq := wq)), !(State.setCore_kept (wq := wq)), Core.setChan_kept,
      Core.setChState_kept, Core.startSend_kept, !(State.sendOn_kept (wq := wq)), !(State.sendFault_kept (wq :=
      wq)), !(State.withBytes_kept (wq := wq)), !(kept_eq (wq := wq)), coreMemsOk_eq, wf_eq, !(foldl_kept (wq :=
      wq)), foldl_keptC, foldl_keptE, coresOk_set, stksOk_set, hostOk_hostWrites, core_reset_kept, stack_reset_kept,
      EccMem.zero_kept]

theorem seClose_kept {wq : List Instr} (k : SiteId) (o : Op) (s : State) (h_s : (s).kept wq = true) :
    (seClose k o s).kept wq = true := by
  grind [seClose, !(State.modCore_kept (wq := wq)), Core.setChState_kept, Core.startSend_kept, !(State.sendOn_kept (wq
      := wq))]

theorem Core.setCb64_kept (c : Core) (m : Nat) (w : Nat) (v : DWord) (h_c : (c).memsOk = true) :
    (Core.setCb64 c m w v).memsOk = true := by
  grind [Core.setCb64, Core.setCmb_kept]

theorem Core.setCbState_kept (c : Core) (m : Nat) (st : Nat) (h_c : (c).memsOk = true) :
    (Core.setCbState c m st).memsOk = true := by
  grind [Core.setCbState, Core.setCmb_kept]

theorem Core.setRound_kept (c : Core) (m : Nat) (r : CmbRound) (h_c : (c).memsOk = true) :
    (Core.setRound c m r).memsOk = true := by
  grind [Core.setRound, coreMemsOk_eq, wf_eq]

theorem Core.readWords_kept (c : Core) (a : Nat) (z0 : Nat) (h_c : (c).memsOk = true) :
    ((Core.readWords c a z0).1).memsOk = true := by
  induction z0 generalizing c a <;> grind [Core.readWords, Core.sramRead_kept, coreMemsOk_eq, wf_eq, foldl_keptC,
      foldl_keptE, coresOk_set, stksOk_set, hostOk_hostWrites, core_reset_kept, stack_reset_kept, EccMem.zero_kept]

theorem Core.writeWords_kept (c : Core) (a : Nat) (ws : List Word) (h_c : (c).memsOk = true) :
    (Core.writeWords c a ws).memsOk = true := by
  grind [Core.writeWords, Core.sramWrite_kept]

theorem Core.foldOne_kept (c : Core) (m : Nat) (i : Nat) (h_c : (c).memsOk = true) :
    (Core.foldOne c m i).memsOk = true := by
  grind [Core.foldOne, Core.setRound_kept, Core.readWords_kept, Core.writeWords_kept]

theorem State.groupWrite_kept {wq : List Instr} (s : State) (k : SiteId) (g : Nat) (off : Nat) (b : List Byte) (h_s :
    (s).kept wq = true) :
    (State.groupWrite s k g off b).kept wq = true := by
  grind [State.groupWrite, !(State.enter_kept (wq := wq)), !(State.newRequest_kept (wq := wq)), !(kept_eq (wq := wq)),
      coreMemsOk_eq, wf_eq, !(foldl_kept (wq := wq)), foldl_keptC, foldl_keptE, coresOk_set, stksOk_set,
      hostOk_hostWrites, core_reset_kept, stack_reset_kept, EccMem.zero_kept]

theorem State.finishRound_kept {wq : List Instr} (s : State) (k : SiteId) (m : Nat) (h_s : (s).kept wq = true) :
    (State.finishRound s k m).kept wq = true := by
  grind [State.finishRound, !(State.core_kept (wq := wq)), !(State.setCore_kept (wq := wq)), !(State.putCore_kept (wq
      := wq)), Core.sramWrite_kept, Core.setFlags_kept, Core.setCmb_kept, Core.setCb64_kept, Core.setCbState_kept,
      Core.setRound_kept, Core.readWords_kept, Core.writeWords_kept, !(State.groupWrite_kept (wq := wq))]

theorem Core.chainFold_kept (c : Core) (m : Nat) (e : Nat) (sum : List Word) (h_c : (c).memsOk = true) :
    (Core.chainFold c m e sum).memsOk = true := by
  grind [Core.chainFold, Core.readWords_kept, Core.writeWords_kept]

theorem State.chainEnd_kept {wq : List Instr} (s : State) (k : SiteId) (m : Nat) (h_s : (s).kept wq = true) :
    (State.chainEnd s k m).kept wq = true := by
  grind [State.chainEnd, !(State.core_kept (wq := wq)), !(State.setCore_kept (wq := wq)), Core.setCmb_kept,
      Core.setCb64_kept, Core.setCbState_kept, Core.setRound_kept, !(State.finishRound_kept (wq := wq))]

theorem State.chainRun_kept {wq : List Instr} (s : State) (k : SiteId) (m : Nat) (h_s : (s).kept wq = true) :
    (State.chainRun s k m).kept wq = true := by
  grind [State.chainRun, !(State.core_kept (wq := wq)), !(State.putCore_kept (wq := wq)), !(State.finishRound_kept (wq
      := wq)), Core.chainFold_kept, !(State.chainEnd_kept (wq := wq)), !(kept_eq (wq := wq)), coreMemsOk_eq, wf_eq,
      !(foldl_kept (wq := wq)), foldl_keptC, foldl_keptE, coresOk_set, stksOk_set, hostOk_hostWrites,
      core_reset_kept, stack_reset_kept, EccMem.zero_kept]

theorem State.cmbAdvance_kept {wq : List Instr} (s : State) (k : SiteId) (m : Nat) (z0 : Nat) (h_s : (s).kept wq =
    true) :
    (State.cmbAdvance s k m z0).kept wq = true := by
  induction z0 generalizing s k m <;> grind [State.cmbAdvance, !(State.core_kept (wq := wq)), !(State.putCore_kept (wq
      := wq)), Core.foldOne_kept, !(State.finishRound_kept (wq := wq)), !(State.chainRun_kept (wq := wq)), !(kept_eq
      (wq := wq)), coreMemsOk_eq, wf_eq, !(foldl_kept (wq := wq)), foldl_keptC, foldl_keptE, coresOk_set,
      stksOk_set, hostOk_hostWrites, core_reset_kept, stack_reset_kept, EccMem.zero_kept]

theorem State.cmbRun_kept {wq : List Instr} (s : State) (k : SiteId) (m : Nat) (h_s : (s).kept wq = true) :
    (State.cmbRun s k m).kept wq = true := by
  grind [State.cmbRun, !(State.cmbAdvance_kept (wq := wq))]

theorem seArm_kept {wq : List Instr} (k : SiteId) (o : Op) (s : State) (h_s : (s).kept wq = true) :
    (seArm k o s).kept wq = true := by
  grind [seArm, !(State.core_kept (wq := wq)), !(State.setCore_kept (wq := wq)), Core.setCmb_kept,
      Core.startSend_kept, !(State.sendOn_kept (wq := wq)), !(State.sendFault_kept (wq := wq)),
      !(State.withBytes_kept (wq := wq)), Core.setCbState_kept, Core.setRound_kept, !(State.cmbRun_kept (wq := wq)),
      !(kept_eq (wq := wq)), coreMemsOk_eq, wf_eq, !(foldl_kept (wq := wq)), foldl_keptC, foldl_keptE, coresOk_set,
      stksOk_set, hostOk_hostWrites, core_reset_kept, stack_reset_kept, EccMem.zero_kept]

theorem seFail_kept {wq : List Instr} (k : SiteId) (o : Op) (s : State) (h_s : (s).kept wq = true) :
    (seFail k o s).kept wq = true := by
  grind [seFail, !(State.modCore_kept (wq := wq)), Core.startSend_kept, !(State.sendOn_kept (wq := wq)),
      Core.setCb64_kept, !(State.cmbRun_kept (wq := wq))]

theorem seDispatch_kept {wq : List Instr} (opc : Nat) (body : SiteId → Op → State → State) (k : SiteId) (s : State)
    (h_body : ∀ x0 x1 x2, (x2).kept wq = true → (body x0 x1 x2).kept wq = true) (h_s : (s).kept wq = true) :
    (seDispatch opc body k s).kept wq = true := by
  grind [seDispatch, !(State.core_kept (wq := wq)), !(State.sendFault_kept (wq := wq))]

theorem State.sendAnswered_kept {wq : List Instr} (s : State) (k : SiteId) (r : Rtx) (code : Byte) (h_s : (s).kept wq
    = true) :
    (State.sendAnswered s k r code).kept wq = true := by
  grind [State.sendAnswered, !(State.core_kept (wq := wq)), !(State.setCore_kept (wq := wq)), Core.bump_kept,
      !(State.modCore_kept (wq := wq)), Core.mapOp_kept, Core.pend_kept, Core.setChState_kept, !(State.sendOn_kept
      (wq := wq)), !(State.sendFault_kept (wq := wq))]

theorem cmbTimeout_kept {wq : List Instr} (k : SiteId) (m : Nat) (s : State) (h_s : (s).kept wq = true) :
    (cmbTimeout k m s).kept wq = true := by
  grind [cmbTimeout, !(State.core_kept (wq := wq)), Core.bump_kept, !(State.putCore_kept (wq := wq)), Core.pend_kept,
      Core.setCb64_kept, Core.setRound_kept, !(State.cmbRun_kept (wq := wq))]

end Sys2Proof.Machine
end

