-- ==== Sys2Proof/Laws/KeepDest.lean ====
section
/-!
SUPPORT. What each operation of Machine/Dest.lean keeps: the canonical form of every memory, and the queue of waiting
commands.
-/

namespace Sys2Proof.Machine

set_option maxRecDepth 2000

theorem State.crcFail_kept {wq : List Instr} (s : State) (k : SiteId) (h_s : (s).kept wq = true) :
    (State.crcFail s k).kept wq = true := by
  grind [State.crcFail, Core.bump_kept, !(State.modCore_kept (wq := wq))]

theorem State.nakFrom_kept {wq : List Instr} (s : State) (k : SiteId) (p : Packet) (code : Byte) (h_s : (s).kept wq =
    true) :
    (State.nakFrom s k p code).kept wq = true := by
  grind [State.nakFrom, !(State.refuse_kept (wq := wq))]

theorem State.endCheck_kept {wq : List Instr} (s : State) (k : SiteId) (p : Packet) (go : State → State) (h_s :
    (s).kept wq = true) (h_go : ∀ x0, (x0).kept wq = true → (go x0).kept wq = true) :
    (State.endCheck s k p go).kept wq = true := by
  unfold State.endCheck
  grind [!(State.core_kept (wq := wq)), !(State.modCore_kept (wq := wq)), !(State.regionFault_kept (wq := wq)),
      Core.progress_kept, !(State.crcFail_kept (wq := wq)), !(State.nakFrom_kept (wq := wq)), !(kept_eq (wq := wq)),
      coreMemsOk_eq, wf_eq, !(foldl_kept (wq := wq)), foldl_keptC, foldl_keptE, coresOk_set, stksOk_set,
      hostOk_hostWrites, core_reset_kept, stack_reset_kept, EccMem.zero_kept]

theorem State.receive_kept {wq : List Instr} (s : State) (k : SiteId) (p : Packet) (type : Byte) (go : State → State)
    (h_s : (s).kept wq = true) (h_go : ∀ x0, (x0).kept wq = true → (go x0).kept wq = true) :
    (State.receive s k p type go).kept wq = true := by
  grind [State.receive, !(State.land_kept (wq := wq)), !(State.routerRefuse_kept (wq := wq)), !(State.dropAt_kept (wq
      := wq)), !(State.nakFrom_kept (wq := wq)), !(State.endCheck_kept (wq := wq))]

theorem State.bankBusy_kept {wq : List Instr} (s : State) (k : SiteId) (p : Packet) (h_s : (s).kept wq = true) :
    (State.bankBusy s k p).kept wq = true := by
  grind [State.bankBusy, Core.bump_kept, !(State.modCore_kept (wq := wq)), !(State.nakFrom_kept (wq := wq))]

theorem State.readRegs_kept {wq : List Instr} (s : State) (k : SiteId) (off : Nat) (z0 : Nat) (h_s : (s).kept wq =
    true) :
    ((State.readRegs s k off z0).1).kept wq = true := by
  induction z0 generalizing s k off <;> grind [State.readRegs, !(State.coreRead_kept (wq := wq)), !(kept_eq (wq :=
      wq)), coreMemsOk_eq, wf_eq, !(foldl_kept (wq := wq)), foldl_keptC, foldl_keptE, coresOk_set, stksOk_set,
      hostOk_hostWrites, core_reset_kept, stack_reset_kept, EccMem.zero_kept]

theorem State.coreFetch_kept {wq : List Instr} (s : State) (k : SiteId) (off : Nat) (n : Nat) (h_s : (s).kept wq =
    true) :
    ((State.coreFetch s k off n).1).kept wq = true := by
  grind [State.coreFetch, !(State.core_kept (wq := wq)), Core.bump_kept, !(State.putCore_kept (wq := wq)),
      !(State.modCore_kept (wq := wq)), Core.sramRead_kept, !(State.readRegs_kept (wq := wq))]

theorem State.regStore_kept {wq : List Instr} (s : State) (k : SiteId) (off : Nat) (v : Word) (h_s : (s).kept wq =
    true) :
    (State.regStore s k off v).kept wq = true := by
  grind [State.regStore, !(State.coreWrite_kept (wq := wq)), !(State.cmbRun_kept (wq := wq))]

theorem State.writeRegs_kept {wq : List Instr} (s : State) (k : SiteId) (off : Nat) (b : List Byte) (h_s : (s).kept wq
    = true) :
    (State.writeRegs s k off b).kept wq = true := by
  grind [State.writeRegs, !(State.regStore_kept (wq := wq)), !(kept_eq (wq := wq)), coreMemsOk_eq, wf_eq, !(foldl_kept
      (wq := wq)), foldl_keptC, foldl_keptE, coresOk_set, stksOk_set, hostOk_hostWrites, core_reset_kept,
      stack_reset_kept, EccMem.zero_kept]

theorem State.coreStore_kept {wq : List Instr} (s : State) (k : SiteId) (off : Nat) (b : List Byte) (h_s : (s).kept wq
    = true) :
    ((State.coreStore s k off b).1).kept wq = true := by
  grind [State.coreStore, !(State.core_kept (wq := wq)), Core.bump_kept, !(State.putCore_kept (wq := wq)),
      !(State.modCore_kept (wq := wq)), Core.sramWrite_kept, !(State.writeRegs_kept (wq := wq))]

theorem State.sendAck_kept {wq : List Instr} (s : State) (k : SiteId) (a : AckGather) (h_s : (s).kept wq = true) :
    (State.sendAck s k a).kept wq = true := by
  grind [State.sendAck, !(State.core_kept (wq := wq)), !(State.setCore_kept (wq := wq)), !(State.answer_kept (wq :=
      wq)), !(kept_eq (wq := wq)), coreMemsOk_eq, wf_eq, !(foldl_kept (wq := wq)), foldl_keptC, foldl_keptE,
      coresOk_set, stksOk_set, hostOk_hostWrites, core_reset_kept, stack_reset_kept, EccMem.zero_kept]

theorem State.ackPacket_kept {wq : List Instr} (s : State) (k : SiteId) (p : Packet) (h_s : (s).kept wq = true) :
    (State.ackPacket s k p).kept wq = true := by
  grind [State.ackPacket, EccMem.put_kept, !(State.core_kept (wq := wq)), !(State.setCore_kept (wq := wq)),
      !(State.sendAck_kept (wq := wq)), !(kept_eq (wq := wq)), coreMemsOk_eq, wf_eq, !(foldl_kept (wq := wq)),
      foldl_keptC, foldl_keptE, coresOk_set, stksOk_set, hostOk_hostWrites, core_reset_kept, stack_reset_kept,
      EccMem.zero_kept]

theorem State.ackOr_kept {wq : List Instr} (s : State) (k : SiteId) (p : Packet) (code : Byte) (h_s : (s).kept wq =
    true) :
    (State.ackOr s k p code).kept wq = true := by
  grind [State.ackOr, !(State.nakFrom_kept (wq := wq)), !(State.ackPacket_kept (wq := wq))]

theorem rdReq_kept {wq : List Instr} (k : SiteId) (p : Packet) (s : State) (h_s : (s).kept wq = true) :
    (rdReq k p s).kept wq = true := by
  grind [rdReq, !(State.respond_kept (wq := wq)), !(State.receive_kept (wq := wq)), !(State.coreFetch_kept (wq :=
      wq))]

theorem wrReq_kept {wq : List Instr} (k : SiteId) (p : Packet) (s : State) (h_s : (s).kept wq = true) :
    (wrReq k p s).kept wq = true := by
  grind [wrReq, !(State.receive_kept (wq := wq)), !(State.coreStore_kept (wq := wq)), !(State.ackOr_kept (wq := wq))]

theorem Core.statusNotify_kept (c : Core) (ch : Nat) (h_c : (c).memsOk = true) :
    (Core.statusNotify c ch).memsOk = true := by
  grind [Core.statusNotify, Core.setFlags_kept, Core.pend_kept]

theorem landReq_kept {wq : List Instr} (k : SiteId) (p : Packet) (s : State) (h_s : (s).kept wq = true) :
    (landReq k p s).kept wq = true := by
  grind [landReq, !(State.core_kept (wq := wq)), Core.bump_kept, !(State.putCore_kept (wq := wq)),
      !(State.modCore_kept (wq := wq)), Core.sramWrite_kept, !(State.nakFrom_kept (wq := wq)), !(State.receive_kept
      (wq := wq)), !(State.bankBusy_kept (wq := wq)), !(State.ackPacket_kept (wq := wq)), Core.statusNotify_kept]

theorem contribReq_kept {wq : List Instr} (k : SiteId) (p : Packet) (s : State) (h_s : (s).kept wq = true) :
    (contribReq k p s).kept wq = true := by
  grind [contribReq, !(State.core_kept (wq := wq)), Core.bump_kept, !(State.putCore_kept (wq := wq)),
      !(State.modCore_kept (wq := wq)), Core.sramWrite_kept, !(State.sendOn_kept (wq := wq)), Core.setCb64_kept,
      Core.setRound_kept, !(State.cmbRun_kept (wq := wq)), !(State.nakFrom_kept (wq := wq)), !(State.receive_kept
      (wq := wq)), !(State.bankBusy_kept (wq := wq)), !(State.ackPacket_kept (wq := wq))]

theorem Core.mcIntake_kept (c : Core) (g : Nat) (idx : Nat) (b : List Byte) (h_c : (c).memsOk = true) :
    (Core.mcIntake c g idx b).memsOk = true := by
  grind [Core.mcIntake, Core.bump_kept, Core.landSlots_kept]

theorem State.mcEject_kept {wq : List Instr} (s : State) (k : SiteId) (p : Packet) (h_s : (s).kept wq = true) :
    (State.mcEject s k p).kept wq = true := by
  grind [State.mcEject, !(State.modCore_kept (wq := wq)), !(State.regionFault_kept (wq := wq)), Core.progress_kept,
      !(State.pump_kept (wq := wq)), !(State.dropAt_kept (wq := wq)), !(State.crcFail_kept (wq := wq)),
      !(State.coreStore_kept (wq := wq)), Core.mcIntake_kept]

theorem State.mcTree_kept {wq : List Instr} (s : State) (k : SiteId) (hops : BitVec 4) (p : Packet) (t : TreeAt) (h_s
    : (s).kept wq = true) :
    (State.mcTree s k hops p t).kept wq = true := by
  grind [State.mcTree, !(State.crossP_kept (wq := wq)), !(State.mcEject_kept (wq := wq)), !(kept_eq (wq := wq)),
      coreMemsOk_eq, wf_eq, !(foldl_kept (wq := wq)), foldl_keptC, foldl_keptE, coresOk_set, stksOk_set,
      hostOk_hostWrites, core_reset_kept, stack_reset_kept, EccMem.zero_kept]

theorem State.routeP_kept {wq : List Instr} (s : State) (k : SiteId) (port : Port) (hops : BitVec 4) (p : Packet) (h_s
    : (s).kept wq = true) :
    (State.routeP s k port hops p).kept wq = true := by
  grind [State.routeP, !(State.fly_kept (wq := wq)), !(State.routerRefuse_kept (wq := wq)), !(State.refuse_kept (wq :=
      wq)), !(State.dropAt_kept (wq := wq)), !(State.crossP_kept (wq := wq))]

theorem mcArrive_kept {wq : List Instr} (k : SiteId) (port : Port) (hops : BitVec 4) (p : Packet) (s : State) (h_s :
    (s).kept wq = true) :
    (mcArrive k port hops p s).kept wq = true := by
  grind [mcArrive, !(State.dropAt_kept (wq := wq)), !(State.mcTree_kept (wq := wq)), !(State.routeP_kept (wq := wq))]

theorem mcWrite_kept {wq : List Instr} (k : SiteId) (p : Packet) (port : Port) (s : State) (h_s : (s).kept wq = true)
    :
    (mcWrite k p port s).kept wq = true := by
  grind [mcWrite, !(State.land_kept (wq := wq)), !(mcArrive_kept (wq := wq))]

theorem tokenIn_kept {wq : List Instr} (k : SiteId) (c : CPacket) (s : State) (h_s : (s).kept wq = true) :
    (tokenIn k c s).kept wq = true := by
  grind [tokenIn, !(State.core_kept (wq := wq)), Core.bump_kept, !(State.putCore_kept (wq := wq)),
      !(State.modCore_kept (wq := wq)), Core.sramWrite_kept, !(State.land_kept (wq := wq)), Core.progress_kept,
      Core.setTq_kept, !(State.dropAt_kept (wq := wq)), !(State.ejectC_kept (wq := wq))]

end Sys2Proof.Machine
end

