-- ==== Sys2Proof/Laws/KeepAnswers.lean ====
section
/-!
SUPPORT. What each operation of Machine/Answers.lean keeps: the canonical form of every memory, and the queue of waiting
commands.
-/

namespace Sys2Proof.Machine

set_option maxRecDepth 2000

theorem State.fenceCheck_kept {wq : List Instr} (s : State) (k : SiteId) (h_s : (s).kept wq = true) :
    (State.fenceCheck s k).kept wq = true := by
  grind [State.fenceCheck, !(State.core_kept (wq := wq)), !(State.setCore_kept (wq := wq)), !(State.injectC_kept (wq
      := wq)), !(kept_eq (wq := wq)), coreMemsOk_eq, wf_eq, !(foldl_kept (wq := wq)), foldl_keptC, foldl_keptE,
      coresOk_set, stksOk_set, hostOk_hostWrites, core_reset_kept, stack_reset_kept, EccMem.zero_kept]

theorem State.goOn_kept {wq : List Instr} (s : State) (k : SiteId) (h_s : (s).kept wq = true) :
    (State.goOn s k).kept wq = true := by
  grind [State.goOn, !(State.sendOn_kept (wq := wq)), !(State.fenceCheck_kept (wq := wq))]

theorem Core.mapSent_kept (c : Core) (ord : Nat) (fr : Rtx → Rtx) (fo : Outstanding → Outstanding) (h_c : (c).memsOk =
    true) :
    (Core.mapSent c ord fr fo).memsOk = true := by
  grind [Core.mapSent, Core.setAcc_kept, coreMemsOk_eq, wf_eq, foldl_keptC, foldl_keptE, coresOk_set, stksOk_set,
      hostOk_hostWrites, core_reset_kept, stack_reset_kept, EccMem.zero_kept]

theorem State.resendAll_kept {wq : List Instr} (s : State) (k : SiteId) (l : List Again) (h_s : (s).kept wq = true) :
    (State.resendAll s k l).kept wq = true := by
  grind [State.resendAll, Core.bump_kept, !(State.modCore_kept (wq := wq)), !(State.enter_kept (wq := wq)),
      Core.mapSent_kept, !(kept_eq (wq := wq)), coreMemsOk_eq, wf_eq, !(foldl_kept (wq := wq)), foldl_keptC,
      foldl_keptE, coresOk_set, stksOk_set, hostOk_hostWrites, core_reset_kept, stack_reset_kept, EccMem.zero_kept]

theorem State.resendFrom_kept {wq : List Instr} (s : State) (k : SiteId) (p : Packet) (ord : Nat) (h_s : (s).kept wq =
    true) :
    (State.resendFrom s k p ord).kept wq = true := by
  grind [State.resendFrom, !(State.resendAll_kept (wq := wq))]

theorem State.holdSent_kept {wq : List Instr} (s : State) (k : SiteId) (p : Packet) (ord : Nat) (h_s : (s).kept wq =
    true) :
    (State.holdSent s k p ord).kept wq = true := by
  grind [State.holdSent, !(State.modCore_kept (wq := wq)), Core.mapSent_kept, !(kept_eq (wq := wq)), coreMemsOk_eq,
      wf_eq, !(foldl_kept (wq := wq)), foldl_keptC, foldl_keptE, coresOk_set, stksOk_set, hostOk_hostWrites,
      core_reset_kept, stack_reset_kept, EccMem.zero_kept]

theorem Core.countTimeout_kept (c : Core) (code : Byte) (h_c : (c).memsOk = true) :
    (Core.countTimeout c code).memsOk = true := by
  grind [Core.countTimeout, Core.bump_kept]

theorem State.finishRtx_kept {wq : List Instr} (s : State) (k : SiteId) (r : Rtx) (code : Byte) (h_s : (s).kept wq =
    true) :
    (State.finishRtx s k r code).kept wq = true := by
  grind [State.finishRtx, !(State.modCore_kept (wq := wq)), !(State.sendAnswered_kept (wq := wq)), !(State.goOn_kept
      (wq := wq)), Core.countTimeout_kept, !(kept_eq (wq := wq)), coreMemsOk_eq, wf_eq, !(foldl_kept (wq := wq)),
      foldl_keptC, foldl_keptE, coresOk_set, stksOk_set, hostOk_hostWrites, core_reset_kept, stack_reset_kept,
      EccMem.zero_kept]

theorem State.judgeRtx_kept {wq : List Instr} (s : State) (k : SiteId) (r : Rtx) (v : Verdict × Nat) (h_s : (s).kept
    wq = true) :
    (State.judgeRtx s k r v).kept wq = true := by
  grind [State.judgeRtx, !(State.modCore_kept (wq := wq)), !(State.fenceCheck_kept (wq := wq)), Core.mapSent_kept,
      !(State.resendFrom_kept (wq := wq)), !(State.holdSent_kept (wq := wq)), !(State.finishRtx_kept (wq := wq))]

theorem State.failRead_kept {wq : List Instr} (s : State) (k : SiteId) (a : Nat) (o : Outstanding) (code : Byte) (h_s
    : (s).kept wq = true) :
    (State.failRead s k a o code).kept wq = true := by
  grind [State.failRead, !(State.core_kept (wq := wq)), !(State.modCore_kept (wq := wq)), Core.setAcc_kept,
      !(State.engineFault_kept (wq := wq)), !(State.fenceCheck_kept (wq := wq)), Core.countTimeout_kept]

theorem State.judgeRead_kept {wq : List Instr} (s : State) (k : SiteId) (a : Nat) (o : Outstanding) (v : Verdict ×
    Nat) (h_s : (s).kept wq = true) :
    (State.judgeRead s k a o v).kept wq = true := by
  grind [State.judgeRead, !(State.modCore_kept (wq := wq)), !(State.fenceCheck_kept (wq := wq)), Core.mapSent_kept,
      !(State.resendFrom_kept (wq := wq)), !(State.holdSent_kept (wq := wq)), !(State.failRead_kept (wq := wq))]

theorem Core.takeHeaders_kept (c : Core) (a : Nat) (t : StreamSt) (at_ : Nat) (b : List Byte) (h_c : (c).memsOk =
    true) :
    (Core.takeHeaders c a t at_ b).memsOk = true := by
  grind [Core.takeHeaders, Core.bump_kept, Core.setStream_kept, coreMemsOk_eq, wf_eq, foldl_keptC, foldl_keptE,
      coresOk_set, stksOk_set, hostOk_hostWrites, core_reset_kept, stack_reset_kept, EccMem.zero_kept]

theorem State.landRead_kept {wq : List Instr} (s : State) (k : SiteId) (a : Nat) (o : Outstanding) (b : List Byte)
    (h_s : (s).kept wq = true) :
    (State.landRead s k a o b).kept wq = true := by
  grind [State.landRead, !(State.core_kept (wq := wq)), !(State.setCore_kept (wq := wq)), !(State.putCore_kept (wq :=
      wq)), Core.setAcc_kept, Core.landSlots_kept, Core.setStream_kept, Core.takeHeaders_kept]

theorem rdResp_kept {wq : List Instr} (k : SiteId) (p : Packet) (s : State) (h_s : (s).kept wq = true) :
    (rdResp k p s).kept wq = true := by
  grind [rdResp, !(State.core_kept (wq := wq)), !(State.modCore_kept (wq := wq)), !(State.land_kept (wq := wq)),
      Core.progress_kept, !(State.dropAt_kept (wq := wq)), !(State.crcFail_kept (wq := wq)), !(State.goOn_kept (wq
      := wq)), !(State.judgeRead_kept (wq := wq)), !(State.landRead_kept (wq := wq))]

theorem State.answerIn_kept {wq : List Instr} (s : State) (k : SiteId) (p : Packet) (type : Byte) (go : State → State)
    (h_s : (s).kept wq = true) (h_go : ∀ x0, (x0).kept wq = true → (go x0).kept wq = true) :
    (State.answerIn s k p type go).kept wq = true := by
  grind [State.answerIn, !(State.modCore_kept (wq := wq)), !(State.land_kept (wq := wq)), Core.progress_kept,
      !(State.dropAt_kept (wq := wq)), !(State.crcFail_kept (wq := wq))]

theorem ackIn_kept {wq : List Instr} (k : SiteId) (p : Packet) (s : State) (h_s : (s).kept wq = true) :
    (ackIn k p s).kept wq = true := by
  grind [ackIn, !(State.core_kept (wq := wq)), !(State.finishRtx_kept (wq := wq)), !(State.answerIn_kept (wq := wq)),
      !(kept_eq (wq := wq)), coreMemsOk_eq, wf_eq, !(foldl_kept (wq := wq)), foldl_keptC, foldl_keptE, coresOk_set,
      stksOk_set, hostOk_hostWrites, core_reset_kept, stack_reset_kept, EccMem.zero_kept]

theorem nakIn_kept {wq : List Instr} (k : SiteId) (p : Packet) (s : State) (h_s : (s).kept wq = true) :
    (nakIn k p s).kept wq = true := by
  grind [nakIn, !(State.core_kept (wq := wq)), !(State.judgeRtx_kept (wq := wq)), !(State.answerIn_kept (wq := wq))]

theorem timerOut_kept {wq : List Instr} (k : SiteId) (w : Waiting) (s : State) (h_s : (s).kept wq = true) :
    (timerOut k w s).kept wq = true := by
  unfold timerOut
  grind [!(State.core_kept (wq := wq)), !(State.judgeRtx_kept (wq := wq)), !(State.judgeRead_kept (wq := wq)),
      !(kept_eq (wq := wq))]

theorem gapOut_kept {wq : List Instr} (k : SiteId) (w : Waiting) (s : State) (h_s : (s).kept wq = true) :
    (gapOut k w s).kept wq = true := by
  unfold gapOut
  grind [!(State.core_kept (wq := wq)), !(State.fenceCheck_kept (wq := wq)), !(State.resendFrom_kept (wq := wq)),
      !(State.holdSent_kept (wq := wq)), !(kept_eq (wq := wq))]

end Sys2Proof.Machine
end

