-- ==== Sys2Proof/Laws/KeepVector.lean ====
section
/-!
SUPPORT. What each operation of Machine/Vector.lean keeps: the canonical form of every memory, and the queue of waiting
commands.
-/

namespace Sys2Proof.Machine

set_option maxRecDepth 2000

theorem Core.vRun_kept (c : Core) (o : Op) (d : VDesc) (g : VSegs) (h_c : (c).memsOk = true) :
    ((Core.vRun c o d g).1).memsOk = true := by
  grind [Core.vRun, Core.bump_kept, Core.readSegs_kept, Core.takeLand_kept]

theorem vuDispatch_kept {wq : List Instr} (opcs : List Nat) (k : SiteId) (s : State) (h_s : (s).kept wq = true) :
    (vuDispatch opcs k s).kept wq = true := by
  unfold vuDispatch
  dsimp only
  (repeat' split) <;> grind [!(State.core_kept (wq := wq)), !(State.putCore_kept (wq := wq)), Core.dispatch_kept,
      !(State.pump_kept (wq := wq)), !(State.headFault_kept (wq := wq)), Core.vRun_kept, !(kept_eq (wq := wq)),
      coreMemsOk_eq, wf_eq, !(foldl_kept (wq := wq)), foldl_keptC, foldl_keptE, coresOk_set, stksOk_set,
      hostOk_hostWrites, core_reset_kept, stack_reset_kept, EccMem.zero_kept]

theorem Core.applyWrites_kept (side : List Nat) (c : Core) (z0 : List (Nat × List Byte)) (h_c : (c).memsOk = true) :
    ((Core.applyWrites side c z0).1).memsOk = true := by
  induction z0 generalizing side c <;> grind [Core.applyWrites, Core.sramWrite_kept, coreMemsOk_eq, wf_eq,
      foldl_keptC, foldl_keptE, coresOk_set, stksOk_set, hostOk_hostWrites, core_reset_kept, stack_reset_kept,
      EccMem.zero_kept]

theorem Core.ssbMerge_kept (c : Core) (off : Nat) (a : Word) (sat : Bool) (h_c : (c).memsOk = true) :
    ((Core.ssbMerge c off a sat).1).memsOk = true := by
  grind [Core.ssbMerge, Core.readSegs_kept, Core.writeSegs_kept]

theorem vuComplete_kept {wq : List Instr} (k : SiteId) (s : State) (h_s : (s).kept wq = true) :
    (vuComplete k s).kept wq = true := by
  grind [vuComplete, !(State.core_kept (wq := wq)), !(State.putCore_kept (wq := wq)), !(State.engineFault_kept (wq :=
      wq)), !(State.checkDone_kept (wq := wq)), Core.finishOp_kept, Core.progress_kept, Core.chkLate_kept,
      Core.applyWrites_kept, Core.ssbMerge_kept, !(kept_eq (wq := wq)), coreMemsOk_eq, wf_eq, !(foldl_kept (wq :=
      wq)), foldl_keptC, foldl_keptE, coresOk_set, stksOk_set, hostOk_hostWrites, core_reset_kept, stack_reset_kept,
      EccMem.zero_kept]

end Sys2Proof.Machine
end

