-- ==== Sys2Proof/Laws/KeepSequencer.lean ====
section
/-!
SUPPORT. What each operation of Machine/Sequencer.lean keeps: the canonical form of every memory, and the queue of waiting
commands.
-/

namespace Sys2Proof.Machine

set_option maxRecDepth 2000

theorem Core.mapCur_kept (c : Core) (f : Ctx → Ctx) (h_c : (c).memsOk = true) :
    (Core.mapCur c f).memsOk = true := by
  grind [Core.mapCur, Core.setCtx_kept]

theorem Core.setLate_kept (c : Core) (n : Nat) (cycles : Nat) (h_c : (c).memsOk = true) :
    (Core.setLate c n cycles).memsOk = true := by
  grind [Core.setLate, coreMemsOk_eq, wf_eq]

theorem Core.setSreg_kept (c : Core) (n : Nat) (v : Word) (h_c : (c).memsOk = true) :
    (Core.setSreg c n v).memsOk = true := by
  grind [Core.setSreg, Core.mapCur_kept, Core.setLate_kept]

theorem Core.elapse_kept (c : Core) (n : Nat) (h_c : (c).memsOk = true) :
    (Core.elapse c n).memsOk = true := by
  grind [Core.elapse, Core.add64_kept, State.add64_kept, coreMemsOk_eq, wf_eq]

theorem Core.setWait_kept (c : Core) (w : Wait) (h_c : (c).memsOk = true) :
    (Core.setWait c w).memsOk = true := by
  grind [Core.setWait, coreMemsOk_eq, wf_eq]

theorem State.retire_kept {wq : List Instr} (s : State) (k : SiteId) (w : Word) (cycles : Nat) (h_s : (s).kept wq =
    true) :
    (State.retire s k w cycles).kept wq = true := by
  grind [State.retire, !(State.core_kept (wq := wq)), !(State.putCore_kept (wq := wq)), !(State.seqException_kept (wq
      := wq)), Core.progress_kept, Core.mapCur_kept, Core.elapse_kept, Core.setWait_kept]

theorem State.jump_kept {wq : List Instr} (s : State) (k : SiteId) (w : Word) (t : Int) (cycles : Nat) (h_s : (s).kept
    wq = true) :
    (State.jump s k w t cycles).kept wq = true := by
  grind [State.jump, !(State.core_kept (wq := wq)), !(State.putCore_kept (wq := wq)), !(State.seqException_kept (wq :=
      wq)), Core.progress_kept, Core.mapCur_kept, Core.elapse_kept]

theorem Core.fetch_kept (c : Core) (h_c : (c).memsOk = true) :
    ((Core.fetch c).1).memsOk = true := by
  grind [Core.fetch, Core.noteEcc_kept]

theorem Core.awaitSrcs_kept (c : Core) (w : Word) (h_c : (c).memsOk = true) :
    (Core.awaitSrcs c w).memsOk = true := by
  grind [Core.awaitSrcs, Core.add64_kept, State.add64_kept, Core.elapse_kept]

theorem State.fetchRun_kept {wq : List Instr} (s : State) (k : SiteId) (takes : Nat → Bool) (body : Word → State →
    State) (h_s : (s).kept wq = true) (h_body : ∀ x0 x1, (x1).kept wq = true → (body x0 x1).kept wq = true) :
    (State.fetchRun s k takes body).kept wq = true := by
  grind [State.fetchRun, !(State.core_kept (wq := wq)), !(State.putCore_kept (wq := wq)), !(State.seqException_kept
      (wq := wq)), Core.fetch_kept, Core.awaitSrcs_kept]

theorem seqStep_kept {wq : List Instr} (op : Nat) (body : Word → State → State) (k : SiteId) (s : State) (h_body : ∀
    x0 x1, (x1).kept wq = true → (body x0 x1).kept wq = true) (h_s : (s).kept wq = true) :
    (seqStep op body k s).kept wq = true := by
  grind [seqStep, !(State.core_kept (wq := wq)), !(State.fetchRun_kept (wq := wq))]

theorem aluRR_kept {wq : List Instr} (k : SiteId) (f : Word → Word → Word) (w : Word) (s : State) (h_s : (s).kept wq =
    true) :
    (aluRR k f w s).kept wq = true := by
  grind [aluRR, !(State.core_kept (wq := wq)), !(State.setCore_kept (wq := wq)), Core.setSreg_kept,
      !(State.retire_kept (wq := wq))]

theorem aluRI_kept {wq : List Instr} (k : SiteId) (f : Word → Word → Word) (w : Word) (s : State) (h_s : (s).kept wq =
    true) :
    (aluRI k f w s).kept wq = true := by
  grind [aluRI, !(State.core_kept (wq := wq)), !(State.setCore_kept (wq := wq)), Core.setSreg_kept,
      !(State.retire_kept (wq := wq))]

theorem seqMul_kept {wq : List Instr} (k : SiteId) (w : Word) (s : State) (h_s : (s).kept wq = true) :
    (seqMul k w s).kept wq = true := by
  grind [seqMul, !(State.core_kept (wq := wq)), !(State.setCore_kept (wq := wq)), Core.setLate_kept,
      Core.setSreg_kept, !(State.retire_kept (wq := wq))]

theorem branch_kept {wq : List Instr} (k : SiteId) (f : Word → Word → Bool) (w : Word) (s : State) (h_s : (s).kept wq
    = true) :
    (branch k f w s).kept wq = true := by
  grind [branch, !(State.core_kept (wq := wq)), !(State.seqException_kept (wq := wq)), !(State.retire_kept (wq :=
      wq)), !(State.jump_kept (wq := wq))]

theorem seqLd_kept {wq : List Instr} (k : SiteId) (w : Word) (s : State) (h_s : (s).kept wq = true) :
    (seqLd k w s).kept wq = true := by
  grind [seqLd, !(State.core_kept (wq := wq)), !(State.putCore_kept (wq := wq)), !(State.modCore_kept (wq := wq)),
      Core.sramRead_kept, !(State.seqException_kept (wq := wq)), !(State.coreRead_kept (wq := wq)),
      Core.wakeBytes_kept, Core.setLate_kept, Core.setSreg_kept, !(State.retire_kept (wq := wq))]

theorem seqSt_kept {wq : List Instr} (k : SiteId) (w : Word) (s : State) (h_s : (s).kept wq = true) :
    (seqSt k w s).kept wq = true := by
  grind [seqSt, !(State.core_kept (wq := wq)), !(State.putCore_kept (wq := wq)), Core.sramWrite_kept,
      !(State.seqException_kept (wq := wq)), !(State.coreWrite_kept (wq := wq)), Core.wakeBytes_kept,
      !(State.retire_kept (wq := wq))]

theorem State.ssbCommit_kept {wq : List Instr} (s : State) (k : SiteId) (w : Word) (off : Nat) (h_s : (s).kept wq =
    true) :
    (State.ssbCommit s k w off).kept wq = true := by
  grind [State.ssbCommit, !(State.core_kept (wq := wq)), Core.bump_kept, !(State.putCore_kept (wq := wq)),
      Core.sramRead_kept, Core.sramWrite_kept, !(State.seqException_kept (wq := wq)), !(State.retire_kept (wq :=
      wq))]

theorem seqSsbc_kept {wq : List Instr} (k : SiteId) (w : Word) (s : State) (h_s : (s).kept wq = true) :
    (seqSsbc k w s).kept wq = true := by
  grind [seqSsbc, !(State.core_kept (wq := wq)), !(State.setCore_kept (wq := wq)), !(State.putCore_kept (wq := wq)),
      !(State.seqException_kept (wq := wq)), Core.wakeBytes_kept, Core.setWait_kept, !(State.ssbCommit_kept (wq :=
      wq))]

theorem loopPush_kept {wq : List Instr} (k : SiteId) (w : Word) (len : Nat) (count : Word) (s : State) (h_s : (s).kept
    wq = true) :
    (loopPush k w len count s).kept wq = true := by
  grind [loopPush, !(State.core_kept (wq := wq)), !(State.putCore_kept (wq := wq)), !(State.seqException_kept (wq :=
      wq)), Core.progress_kept, Core.mapCur_kept, Core.elapse_kept]

theorem seqIssue_kept {wq : List Instr} (k : SiteId) (w : Word) (s : State) (h_s : (s).kept wq = true) :
    (seqIssue k w s).kept wq = true := by
  grind [seqIssue, !(State.core_kept (wq := wq)), !(State.setCore_kept (wq := wq)), !(State.putCore_kept (wq := wq)),
      Core.sramRead_kept, Core.setEngine_kept, !(State.seqException_kept (wq := wq)), Core.wakeBytes_kept,
      Core.setSreg_kept, Core.setWait_kept, !(State.retire_kept (wq := wq)), !(kept_eq (wq := wq)), coreMemsOk_eq,
      wf_eq, !(foldl_kept (wq := wq)), foldl_keptC, foldl_keptE, coresOk_set, stksOk_set, hostOk_hostWrites,
      core_reset_kept, stack_reset_kept, EccMem.zero_kept]

theorem seqWait_kept {wq : List Instr} (k : SiteId) (w : Word) (cond : Bool) (wt : Wait) (s : State) (h_s : (s).kept
    wq = true) :
    (seqWait k w cond wt s).kept wq = true := by
  grind [seqWait, !(State.core_kept (wq := wq)), !(State.setCore_kept (wq := wq)), Core.setWait_kept,
      !(State.retire_kept (wq := wq))]

theorem seqWaitc_kept {wq : List Instr} (k : SiteId) (w : Word) (s : State) (h_s : (s).kept wq = true) :
    (seqWaitc k w s).kept wq = true := by
  grind [seqWaitc, !(State.core_kept (wq := wq)), !(State.seqException_kept (wq := wq)), !(seqWait_kept (wq := wq))]

theorem seqWaiti_kept {wq : List Instr} (k : SiteId) (w : Word) (s : State) (h_s : (s).kept wq = true) :
    (seqWaiti k w s).kept wq = true := by
  grind [seqWaiti, !(State.core_kept (wq := wq)), !(seqWait_kept (wq := wq))]

theorem seqWaitw_kept {wq : List Instr} (k : SiteId) (w : Word) (s : State) (h_s : (s).kept wq = true) :
    (seqWaitw k w s).kept wq = true := by
  grind [seqWaitw, !(State.core_kept (wq := wq)), !(State.putCore_kept (wq := wq)), Core.sramRead_kept,
      !(State.seqException_kept (wq := wq)), !(State.coreRead_kept (wq := wq)), Core.wakeBytes_kept,
      Core.setWait_kept, !(seqWait_kept (wq := wq))]

theorem State.sendArrival_kept {wq : List Instr} (s : State) (k : SiteId) (b : Nat) (sense : Bool) (h_s : (s).kept wq
    = true) :
    (State.sendArrival s k b sense).kept wq = true := by
  grind [State.sendArrival, !(State.core_kept (wq := wq)), !(State.injectC_kept (wq := wq))]

theorem seqBarrier_kept {wq : List Instr} (k : SiteId) (w : Word) (s : State) (h_s : (s).kept wq = true) :
    (seqBarrier k w s).kept wq = true := by
  grind [seqBarrier, !(State.core_kept (wq := wq)), !(State.setCore_kept (wq := wq)), Core.setWait_kept,
      !(State.sendArrival_kept (wq := wq)), !(kept_eq (wq := wq)), coreMemsOk_eq, wf_eq, !(foldl_kept (wq := wq)),
      foldl_keptC, foldl_keptE, coresOk_set, stksOk_set, hostOk_hostWrites, core_reset_kept, stack_reset_kept,
      EccMem.zero_kept]

theorem seqFwait_kept {wq : List Instr} (k : SiteId) (w : Word) (s : State) (h_s : (s).kept wq = true) :
    (seqFwait k w s).kept wq = true := by
  grind [seqFwait, !(State.core_kept (wq := wq)), !(State.setCore_kept (wq := wq)), Core.clrFlags_kept,
      Core.setWait_kept, !(State.retire_kept (wq := wq))]

theorem Core.startCtx_kept (c : Core) (n : Nat) (h_c : (c).memsOk = true) :
    (Core.startCtx c n).memsOk = true := by
  grind [Core.startCtx, Core.setCtx_kept, coreMemsOk_eq, wf_eq]

theorem State.switchTo_kept {wq : List Instr} (s : State) (k : SiteId) (w : Word) (n : Nat) (halting : Bool) (h_s :
    (s).kept wq = true) :
    (State.switchTo s k w n halting).kept wq = true := by
  grind [State.switchTo, !(State.core_kept (wq := wq)), !(State.putCore_kept (wq := wq)), !(State.seqException_kept
      (wq := wq)), Core.progress_kept, Core.mapCur_kept, Core.elapse_kept, Core.startCtx_kept]

theorem seqYield_kept {wq : List Instr} (k : SiteId) (w : Word) (s : State) (h_s : (s).kept wq = true) :
    (seqYield k w s).kept wq = true := by
  grind [seqYield, !(State.core_kept (wq := wq)), !(State.seqException_kept (wq := wq)), !(State.retire_kept (wq :=
      wq)), !(State.switchTo_kept (wq := wq))]

theorem seqCtx_kept {wq : List Instr} (k : SiteId) (w : Word) (s : State) (h_s : (s).kept wq = true) :
    (seqCtx k w s).kept wq = true := by
  grind [seqCtx, !(State.core_kept (wq := wq)), !(State.seqException_kept (wq := wq)), !(State.retire_kept (wq :=
      wq)), !(State.switchTo_kept (wq := wq))]

theorem seqHalt_kept {wq : List Instr} (k : SiteId) (w : Word) (s : State) (h_s : (s).kept wq = true) :
    (seqHalt k w s).kept wq = true := by
  grind [seqHalt, !(State.core_kept (wq := wq)), !(State.putCore_kept (wq := wq)), !(State.seqException_kept (wq :=
      wq)), !(State.checkDone_kept (wq := wq)), Core.progress_kept, Core.mapCur_kept, Core.elapse_kept,
      !(State.switchTo_kept (wq := wq)), !(kept_eq (wq := wq)), coreMemsOk_eq, wf_eq, !(foldl_kept (wq := wq)),
      foldl_keptC, foldl_keptE, coresOk_set, stksOk_set, hostOk_hostWrites, core_reset_kept, stack_reset_kept,
      EccMem.zero_kept]

theorem seqRete_kept {wq : List Instr} (k : SiteId) (w : Word) (s : State) (h_s : (s).kept wq = true) :
    (seqRete k w s).kept wq = true := by
  grind [seqRete, !(State.core_kept (wq := wq)), !(State.putCore_kept (wq := wq)), !(State.seqException_kept (wq :=
      wq)), Core.progress_kept, Core.mapCur_kept, Core.elapse_kept]

theorem seqEvset_kept {wq : List Instr} (k : SiteId) (w : Word) (s : State) (h_s : (s).kept wq = true) :
    (seqEvset k w s).kept wq = true := by
  grind [seqEvset, !(State.core_kept (wq := wq)), !(State.setCore_kept (wq := wq)), !(State.seqException_kept (wq :=
      wq)), Core.pend_kept, !(State.retire_kept (wq := wq))]

theorem seqEvclr_kept {wq : List Instr} (k : SiteId) (w : Word) (s : State) (h_s : (s).kept wq = true) :
    (seqEvclr k w s).kept wq = true := by
  grind [seqEvclr, !(State.modCore_kept (wq := wq)), Core.pend_kept, Core.mapCur_kept, !(State.retire_kept (wq :=
      wq))]

theorem seqJal_kept {wq : List Instr} (k : SiteId) (w : Word) (s : State) (h_s : (s).kept wq = true) :
    (seqJal k w s).kept wq = true := by
  grind [seqJal, !(State.core_kept (wq := wq)), !(State.setCore_kept (wq := wq)), !(State.seqException_kept (wq :=
      wq)), Core.setSreg_kept, !(State.jump_kept (wq := wq))]

theorem seqJr_kept {wq : List Instr} (k : SiteId) (w : Word) (s : State) (h_s : (s).kept wq = true) :
    (seqJr k w s).kept wq = true := by
  grind [seqJr, !(State.core_kept (wq := wq)), !(State.seqException_kept (wq := wq)), !(State.jump_kept (wq := wq))]

theorem seqFtst_kept {wq : List Instr} (k : SiteId) (w : Word) (s : State) (h_s : (s).kept wq = true) :
    (seqFtst k w s).kept wq = true := by
  grind [seqFtst, !(State.modCore_kept (wq := wq)), Core.setSreg_kept, !(State.retire_kept (wq := wq))]

theorem stalledBody_kept {wq : List Instr} (k : SiteId) (w : Word) (s : State) (h_s : (s).kept wq = true) :
    (stalledBody k w s).kept wq = true := by
  grind [stalledBody, !(seqSsbc_kept (wq := wq)), !(seqIssue_kept (wq := wq)), !(seqWaitc_kept (wq := wq)),
      !(seqWaiti_kept (wq := wq)), !(seqWaitw_kept (wq := wq)), !(seqBarrier_kept (wq := wq)), !(seqFwait_kept (wq
      := wq))]

theorem stallRetire_kept {wq : List Instr} (k : SiteId) (s : State) (h_s : (s).kept wq = true) :
    (stallRetire k s).kept wq = true := by
  grind [stallRetire, !(State.core_kept (wq := wq)), !(State.setCore_kept (wq := wq)), Core.setWait_kept,
      !(State.fetchRun_kept (wq := wq)), !(stalledBody_kept (wq := wq))]

theorem eventEntry_kept {wq : List Instr} (k : SiteId) (s : State) (h_s : (s).kept wq = true) :
    (eventEntry k s).kept wq = true := by
  grind [eventEntry, !(State.core_kept (wq := wq)), !(State.putCore_kept (wq := wq)), !(State.slip_kept (wq := wq)),
      Core.pend_kept, Core.mapCur_kept, Core.elapse_kept, Core.setWait_kept]

theorem illegalInsn_kept {wq : List Instr} (k : SiteId) (s : State) (h_s : (s).kept wq = true) :
    (illegalInsn k s).kept wq = true := by
  grind [illegalInsn, !(State.core_kept (wq := wq)), !(State.fetchRun_kept (wq := wq))]

end Sys2Proof.Machine
end

