-- ==== Sys2Proof/Laws/KeepFabric.lean ====
section
/-!
SUPPORT. What each operation of Machine/Fabric.lean keeps: the canonical form of every memory, and the queue of waiting
commands.
-/

namespace Sys2Proof.Machine

set_option maxRecDepth 2000

theorem State.lntSend_kept {wq : List Instr} (s : State) (l : Nat) (x : LinkOut) (h_s : (s).kept wq = true) :
    (State.lntSend s l x).kept wq = true := by
  grind [State.lntSend, !(State.setLantern_kept (wq := wq))]

theorem State.releaseTree_kept {wq : List Instr} (s : State) (v : Bool) (b : Nat) (sense : Bool) (h_s : (s).kept wq =
    true) :
    (State.releaseTree s v b sense).kept wq = true := by
  grind [State.releaseTree, !(State.injectC_kept (wq := wq))]

theorem State.sbarFree_kept {wq : List Instr} (s : State) (b : Nat) (sense : Bool) (h_s : (s).kept wq = true) :
    (State.sbarFree s b sense).kept wq = true := by
  grind [State.sbarFree, !(State.lntSend_kept (wq := wq)), !(State.releaseTree_kept (wq := wq)), !(kept_eq (wq :=
      wq)), coreMemsOk_eq, wf_eq, !(foldl_kept (wq := wq)), foldl_keptC, foldl_keptE, coresOk_set, stksOk_set,
      hostOk_hostWrites, core_reset_kept, stack_reset_kept, EccMem.zero_kept]

theorem State.sbarMark_kept {wq : List Instr} (s : State) (b : Nat) (sense : Bool) (bit : Nat) (h_s : (s).kept wq =
    true) :
    (State.sbarMark s b sense bit).kept wq = true := by
  unfold State.sbarMark
  dsimp only
  (repeat' split) <;> grind [EccMem.put_kept, !(State.lntSend_kept (wq := wq)), !(State.sbarFree_kept (wq := wq)),
      !(kept_eq (wq := wq)), coreMemsOk_eq, wf_eq, !(foldl_kept (wq := wq)), foldl_keptC, foldl_keptE, coresOk_set,
      stksOk_set, hostOk_hostWrites, core_reset_kept, stack_reset_kept, EccMem.zero_kept]

theorem barArriveAt_kept {wq : List Instr} (k : SiteId) (c : CPacket) (port : Port) (s : State) (h_s : (s).kept wq =
    true) :
    (barArriveAt k c port s).kept wq = true := by
  grind [barArriveAt, !(State.setRouter_kept (wq := wq)), !(State.injectC_kept (wq := wq)), !(State.dropAt_kept (wq :=
      wq)), !(State.crossC_kept (wq := wq)), !(State.sbarMark_kept (wq := wq))]

theorem State.barFree_kept {wq : List Instr} (s : State) (k : SiteId) (b : BitVec 14) (sense : Bool) (h_s : (s).kept
    wq = true) :
    (State.barFree s k b sense).kept wq = true := by
  grind [State.barFree, !(State.core_kept (wq := wq)), !(State.setCore_kept (wq := wq)), Core.setCtx_kept,
      Core.progress_kept, !(State.retire_kept (wq := wq)), !(kept_eq (wq := wq)), coreMemsOk_eq, wf_eq, !(foldl_kept
      (wq := wq)), foldl_keptC, foldl_keptE, coresOk_set, stksOk_set, hostOk_hostWrites, core_reset_kept,
      stack_reset_kept, EccMem.zero_kept]

theorem barReleaseAt_kept {wq : List Instr} (k : SiteId) (port : Port) (c : CPacket) (s : State) (h_s : (s).kept wq =
    true) :
    (barReleaseAt k port c s).kept wq = true := by
  grind [barReleaseAt, !(State.dropAt_kept (wq := wq)), !(State.forwardC_kept (wq := wq)), !(State.barFree_kept (wq :=
      wq))]

theorem Core.mcCredit_kept (c : Core) (g : Nat) (n : Nat) (h_c : (c).memsOk = true) :
    (Core.mcCredit c g n).memsOk = true := by
  grind [Core.mcCredit, Core.setAcc_kept, coreMemsOk_eq, wf_eq, foldl_keptC, foldl_keptE, coresOk_set, stksOk_set,
      hostOk_hostWrites, core_reset_kept, stack_reset_kept, EccMem.zero_kept]

theorem mcReleaseAt_kept {wq : List Instr} (k : SiteId) (c : CPacket) (port : Port) (s : State) (h_s : (s).kept wq =
    true) :
    (mcReleaseAt k c port s).kept wq = true := by
  unfold mcReleaseAt
  grind [!(State.setRouter_kept (wq := wq)), !(State.modCore_kept (wq := wq)), !(State.pump_kept (wq := wq)),
      !(State.dropAt_kept (wq := wq)), !(State.crossC_kept (wq := wq)), Core.mcCredit_kept, !(kept_eq (wq := wq))]

theorem State.cIn_kept {wq : List Instr} (s : State) (k : SiteId) (c : CPacket) (type : Nat) (go : State → State) (h_s
    : (s).kept wq = true) (h_go : ∀ x0, (x0).kept wq = true → (go x0).kept wq = true) :
    (State.cIn s k c type go).kept wq = true := by
  grind [State.cIn, !(State.land_kept (wq := wq)), !(State.dropAt_kept (wq := wq))]

theorem Core.stopSeq_kept (c : Core) (h_c : (c).memsOk = true) :
    (Core.stopSeq c).memsOk = true := by
  grind [Core.stopSeq, Core.mapCur_kept, coreMemsOk_eq, wf_eq]

theorem State.stopCheck_kept {wq : List Instr} (s : State) (id : Nat) (h_s : (s).kept wq = true) :
    (State.stopCheck s id).kept wq = true := by
  grind [State.stopCheck, !(State.core_kept (wq := wq)), !(State.setRegion_kept (wq := wq)), !(State.complete_kept (wq
      := wq)), !(State.leaveRunning_kept (wq := wq))]

theorem State.haltCore_kept {wq : List Instr} (s : State) (k : SiteId) (h_s : (s).kept wq = true) :
    (State.haltCore s k).kept wq = true := by
  grind [State.haltCore, !(State.core_kept (wq := wq)), !(State.setCore_kept (wq := wq)), !(State.modCore_kept (wq :=
      wq)), Core.stopEngines_kept, !(State.ssbCommit_kept (wq := wq)), Core.stopSeq_kept, !(State.stopCheck_kept (wq
      := wq)), !(kept_eq (wq := wq)), coreMemsOk_eq, wf_eq, !(foldl_kept (wq := wq)), foldl_keptC, foldl_keptE,
      coresOk_set, stksOk_set, hostOk_hostWrites, core_reset_kept, stack_reset_kept, EccMem.zero_kept]

theorem haltIn_kept {wq : List Instr} (k : SiteId) (c : CPacket) (s : State) (h_s : (s).kept wq = true) :
    (haltIn k c s).kept wq = true := by
  grind [haltIn, !(State.core_kept (wq := wq)), !(State.cIn_kept (wq := wq)), !(State.haltCore_kept (wq := wq))]

theorem State.egress_kept {wq : List Instr} (s : State) (k : SiteId) (l : Nat) (hops : BitVec 4) (p : Packet) (h_s :
    (s).kept wq = true) :
    (State.egress s k l hops p).kept wq = true := by
  grind [State.egress, Core.bump_kept, !(State.modCore_kept (wq := wq)), !(State.routerRefuse_kept (wq := wq)),
      !(State.dropAt_kept (wq := wq)), !(State.lntSend_kept (wq := wq))]

theorem arriveP_kept {wq : List Instr} (x : Flight) (p : Packet) (s : State) (h_s : (s).kept wq = true) :
    (arriveP x p s).kept wq = true := by
  grind [arriveP, !(State.routerRefuse_kept (wq := wq)), !(State.dropAt_kept (wq := wq)), !(State.routeP_kept (wq :=
      wq)), !(mcArrive_kept (wq := wq)), !(State.egress_kept (wq := wq))]

theorem fenceDoneAt_kept {wq : List Instr} (k : SiteId) (c : CPacket) (port : Port) (s : State) (h_s : (s).kept wq =
    true) :
    (fenceDoneAt k c port s).kept wq = true := by
  grind [fenceDoneAt, !(State.setRouter_kept (wq := wq)), !(State.crossC_kept (wq := wq)), !(State.afterFlip_kept (wq
      := wq)), !(State.switchVersion_kept (wq := wq)), !(State.sendFlip_kept (wq := wq))]

theorem arriveC_kept {wq : List Instr} (x : Flight) (c : CPacket) (s : State) (h_s : (s).kept wq = true) :
    (arriveC x c s).kept wq = true := by
  grind [arriveC, !(State.refuse_kept (wq := wq)), !(State.dropAt_kept (wq := wq)), !(State.crossC_kept (wq := wq)),
      !(State.ejectC_kept (wq := wq)), !(State.broadcast_kept (wq := wq)), !(barArriveAt_kept (wq := wq)),
      !(barReleaseAt_kept (wq := wq)), !(mcReleaseAt_kept (wq := wq)), !(fenceDoneAt_kept (wq := wq))]

theorem State.takeFlight_kept {wq : List Instr} (s : State) (n : Nat) (h_s : (s).kept wq = true) :
    (State.takeFlight s n).kept wq = true := by
  grind [State.takeFlight, !(kept_eq (wq := wq))]

theorem routerArrive_kept {wq : List Instr} (n : Nat) (s : State) (h_s : (s).kept wq = true) :
    (routerArrive n s).kept wq = true := by
  grind [routerArrive, !(State.crossC_kept (wq := wq)), !(arriveP_kept (wq := wq)), !(arriveC_kept (wq := wq)),
      !(State.takeFlight_kept (wq := wq))]

theorem State.markDown_kept {wq : List Instr} (s : State) (k : SiteId) (d : Dir) (h_s : (s).kept wq = true) :
    (State.markDown s k d).kept wq = true := by
  grind [State.markDown, EccMem.put_kept, !(State.setRouter_kept (wq := wq))]

theorem linkUe_kept {wq : List Instr} (n : Nat) (s : State) (h_s : (s).kept wq = true) :
    (linkUe n s).kept wq = true := by
  grind [linkUe, Core.bump_kept, !(State.noteRisk_kept (wq := wq)), !(State.modCore_kept (wq := wq)),
      !(State.logRec_kept (wq := wq)), !(State.epochBit_kept (wq := wq)), !(State.takeFlight_kept (wq := wq)),
      !(State.markDown_kept (wq := wq))]

theorem linkRetrained_kept {wq : List Instr} (k : SiteId) (d : Dir) (ok : Bool) (s : State) (h_s : (s).kept wq = true)
    :
    (linkRetrained k d ok s).kept wq = true := by
  grind [linkRetrained, !(State.logRec_kept (wq := wq)), !(kept_eq (wq := wq))]

theorem stallDetect_kept {wq : List Instr} (k : SiteId) (s : State) (h_s : (s).kept wq = true) :
    (stallDetect k s).kept wq = true := by
  grind [stallDetect, !(State.core_kept (wq := wq)), !(State.setCore_kept (wq := wq)), !(State.regionFault_kept (wq :=
      wq)), !(kept_eq (wq := wq)), coreMemsOk_eq, wf_eq, !(foldl_kept (wq := wq)), foldl_keptC, foldl_keptE,
      coresOk_set, stksOk_set, hostOk_hostWrites, core_reset_kept, stack_reset_kept, EccMem.zero_kept]

end Sys2Proof.Machine
end

