-- ==== Sys2Proof/Laws/KeepHostOps.lean ====
section
/-!
SUPPORT. What each operation of Machine/HostOps.lean keeps: the canonical form of every memory, and the queue of waiting
commands.
-/

namespace Sys2Proof.Machine

set_option maxRecDepth 2000

theorem State.hostOp_kept {wq : List Instr} (s : State) (r : Fin 256) (j : Nat) (opc : Nat) (go : Nat × Nat → Desc →
    State → State) (h_s : (s).kept wq = true) (h_go : ∀ x0 x1 x2, (x2).kept wq = true → (go x0 x1 x2).kept wq = true)
    :
    (State.hostOp s r j opc go).kept wq = true := by
  grind [State.hostOp]

theorem State.gatedWrite_kept {wq : List Instr} (s : State) (off : Nat) (h_s : (s).kept wq = true) :
    (State.gatedWrite s off).kept wq = true := by
  grind [State.gatedWrite, !(State.setBar_kept (wq := wq))]

theorem State.barAccess_kept {wq : List Instr} (s : State) (off : Nat) (go : State → State) (h_s : (s).kept wq = true)
    (h_go : ∀ x0, (x0).kept wq = true → (go x0).kept wq = true) :
    (State.barAccess s off go).kept wq = true := by
  grind [State.barAccess, !(State.gatedWrite_kept (wq := wq))]

theorem State.gateOp_kept {wq : List Instr} (s : State) (bit : Nat) (req : Nat × Nat) (go : State → State) (h_s :
    (s).kept wq = true) (h_go : ∀ x0, (x0).kept wq = true → (go x0).kept wq = true) :
    (State.gateOp s bit req go).kept wq = true := by
  grind [State.gateOp, !(State.complete_kept (wq := wq))]

theorem State.wakeDome_kept {wq : List Instr} (s : State) (d : Nat) (h_s : (s).kept wq = true) :
    (State.wakeDome s d).kept wq = true := by
  grind [State.wakeDome, !(State.setDome_kept (wq := wq)), !(State.bumpBar_kept (wq := wq))]

theorem State.wakeFor_kept {wq : List Instr} (s : State) (ds : List Nat) (go : State → State) (h_s : (s).kept wq =
    true) (h_go : ∀ x0, (x0).kept wq = true → (go x0).kept wq = true) :
    (State.wakeFor s ds go).kept wq = true := by
  grind [State.wakeFor, !(State.wakeDome_kept (wq := wq)), !(kept_eq (wq := wq)), coreMemsOk_eq, wf_eq, !(foldl_kept
      (wq := wq)), foldl_keptC, foldl_keptE, coresOk_set, stksOk_set, hostOk_hostWrites, core_reset_kept,
      stack_reset_kept, EccMem.zero_kept]

end Sys2Proof.Machine
end

