-- ==== Sys2Proof/Laws/KeepEpoch.lean ====
section
/-!
SUPPORT. What each operation of Machine/Epoch.lean keeps: the canonical form of every memory, and the queue of waiting
commands.
-/

namespace Sys2Proof.Machine

set_option maxRecDepth 2000

theorem fenceIn_kept {wq : List Instr} (k : SiteId) (c : CPacket) (s : State) (h_s : (s).kept wq = true) :
    (fenceIn k c s).kept wq = true := by
  grind [fenceIn, !(State.modCore_kept (wq := wq)), Core.progress_kept, !(State.fenceCheck_kept (wq := wq)),
      !(State.cIn_kept (wq := wq)), !(kept_eq (wq := wq)), coreMemsOk_eq, wf_eq, !(foldl_kept (wq := wq)),
      foldl_keptC, foldl_keptE, coresOk_set, stksOk_set, hostOk_hostWrites, core_reset_kept, stack_reset_kept,
      EccMem.zero_kept]

theorem State.arriveAgain_kept {wq : List Instr} (s : State) (k : SiteId) (h_s : (s).kept wq = true) :
    (State.arriveAgain s k).kept wq = true := by
  grind [State.arriveAgain, !(State.core_kept (wq := wq)), !(State.sendArrival_kept (wq := wq))]

theorem flipIn_kept {wq : List Instr} (k : SiteId) (c : CPacket) (s : State) (h_s : (s).kept wq = true) :
    (flipIn k c s).kept wq = true := by
  grind [flipIn, !(State.core_kept (wq := wq)), !(State.modCore_kept (wq := wq)), Core.progress_kept,
      !(State.sendOn_kept (wq := wq)), !(State.cmbRun_kept (wq := wq)), !(State.resendAll_kept (wq := wq)),
      !(State.cIn_kept (wq := wq)), !(State.arriveAgain_kept (wq := wq)), !(kept_eq (wq := wq)), coreMemsOk_eq,
      wf_eq, !(foldl_kept (wq := wq)), foldl_keptC, foldl_keptE, coresOk_set, stksOk_set, hostOk_hostWrites,
      core_reset_kept, stack_reset_kept, EccMem.zero_kept]

theorem fabCopy_kept {wq : List Instr} (s : State) (h_s : (s).kept wq = true) :
    (fabCopy s).kept wq = true := by
  grind [fabCopy, !(State.setResult_kept (wq := wq)), !(State.setStaging_kept (wq := wq)), !(State.barAccess_kept (wq
      := wq))]

theorem fabCheck_kept {wq : List Instr} (s : State) (h_s : (s).kept wq = true) :
    (fabCheck s).kept wq = true := by
  grind [fabCheck, !(State.setResult_kept (wq := wq)), !(State.setStaging_kept (wq := wq)), !(State.barAccess_kept (wq
      := wq))]

theorem State.flipsOn_kept {wq : List Instr} (s : State) (h_s : (s).kept wq = true) :
    (State.flipsOn s).kept wq = true := by
  grind [State.flipsOn, !(State.nextFlips_kept (wq := wq))]

theorem fabCopyDone_kept {wq : List Instr} (s : State) (h_s : (s).kept wq = true) :
    (fabCopyDone s).kept wq = true := by
  grind [fabCopyDone, !(State.copyTables_kept (wq := wq)), !(State.setResult_kept (wq := wq)), !(State.setStaging_kept
      (wq := wq)), !(State.flipsOn_kept (wq := wq))]

theorem fabCheckDone_kept {wq : List Instr} (bad : List SiteId) (s : State) (h_s : (s).kept wq = true) :
    (fabCheckDone bad s).kept wq = true := by
  unfold fabCheckDone
  grind [!(State.setBar_kept (wq := wq)), !(State.setResult_kept (wq := wq)), !(State.setStaging_kept (wq := wq)),
      !(State.failFlip_kept (wq := wq)), !(State.beginFence_kept (wq := wq)), !(State.flipsOn_kept (wq := wq)),
      !(kept_eq (wq := wq))]

theorem epochFlip_kept {wq : List Instr} (r : Fin 256) (j : Nat) (s : State) (h_s : (s).kept wq = true) :
    (epochFlip r j s).kept wq = true := by
  grind [epochFlip, !(State.setBusy_kept (wq := wq)), !(State.askFlip_kept (wq := wq)), !(State.hostOp_kept (wq :=
      wq)), !(State.gateOp_kept (wq := wq))]

theorem settleEnd_kept {wq : List Instr} (s : State) (h_s : (s).kept wq = true) :
    (settleEnd s).kept wq = true := by
  grind [settleEnd, !(State.epochBit_kept (wq := wq)), !(State.flipsOn_kept (wq := wq))]

theorem State.rebuildTree_kept {wq : List Instr} (s : State) (v : Bool) (g : Nat) (h_s : (s).kept wq = true) :
    (State.rebuildTree s v g).kept wq = true := by
  unfold State.rebuildTree
  dsimp only
  split
  · exact State.dropGroup_kept _ _ _ h_s
  · cases hp : s.putTree v g (mkSite (wfld (s.fab.groupRoot v g) 0 10) (wfld (s.fab.groupRoot v g) 10 9))
      (s.fab.treeToAll v (mkSite (wfld (s.fab.groupRoot v g) 0 10) (wfld (s.fab.groupRoot v g) 10 9))
        ((s.members v g).length + 1) (s.members v g)) with
    | none => exact State.dropGroup_kept _ _ _ h_s
    | some t => exact State.putTree_kept _ _ _ _ _ h_s _ hp

theorem State.stageDetours_kept {wq : List Instr} (s : State) (h_s : (s).kept wq = true) :
    (State.stageDetours s).kept wq = true := by
  grind [State.stageDetours, !(State.copyTables_kept (wq := wq)), !(State.rebuildTree_kept (wq := wq)), !(kept_eq (wq
      := wq)), coreMemsOk_eq, wf_eq, !(foldl_kept (wq := wq)), foldl_keptC, foldl_keptE, coresOk_set, stksOk_set,
      hostOk_hostWrites, core_reset_kept, stack_reset_kept, EccMem.zero_kept]

theorem cupolaRestage_kept {wq : List Instr} (check : Bool) (s : State) (h_s : (s).kept wq = true) :
    (cupolaRestage check s).kept wq = true := by
  grind [cupolaRestage, !(State.setResult_kept (wq := wq)), !(State.beginFence_kept (wq := wq)),
      !(State.stageDetours_kept (wq := wq))]

end Sys2Proof.Machine
end

