-- ==== Sys2Proof/Laws/KeepResetOps.lean ====
section
/-!
SUPPORT. What each operation of Machine/ResetOps.lean keeps: the canonical form of every memory, and the queue of waiting
commands.
-/

namespace Sys2Proof.Machine

set_option maxRecDepth 2000

theorem State.releaseArea_kept {wq : List Instr} (s : State) (a : Nat) (h_s : (s).kept wq = true) :
    (State.releaseArea s a).kept wq = true := by
  grind [State.releaseArea, !(State.setArea_kept (wq := wq)), Core.zeroBank_kept, !(State.mapCores_kept (wq := wq)),
      !(kept_eq (wq := wq)), coreMemsOk_eq, wf_eq, !(foldl_kept (wq := wq)), foldl_keptC, foldl_keptE, coresOk_set,
      stksOk_set, hostOk_hostWrites, core_reset_kept, stack_reset_kept, EccMem.zero_kept]

theorem State.closeXchk_kept {wq : List Instr} (s : State) (x : Xchk) (status : Nat) (h_s : (s).kept wq = true) :
    (State.closeXchk s x status).kept wq = true := by
  grind [State.closeXchk, !(State.complete_kept (wq := wq)), !(State.testDone_kept (wq := wq))]

theorem State.endXchk_kept {wq : List Instr} (s : State) (a : Nat) (status : Nat) (h_s : (s).kept wq = true) :
    (State.endXchk s a status).kept wq = true := by
  grind [State.endXchk, !(State.releaseArea_kept (wq := wq)), !(State.closeXchk_kept (wq := wq)), !(kept_eq (wq :=
      wq))]

theorem State.abortXchk_kept {wq : List Instr} (s : State) (areas : List Nat) (h_s : (s).kept wq = true) :
    (State.abortXchk s areas).kept wq = true := by
  grind [State.abortXchk, !(State.endXchk_kept (wq := wq)), !(kept_eq (wq := wq)), coreMemsOk_eq, wf_eq, !(foldl_kept
      (wq := wq)), foldl_keptC, foldl_keptE, coresOk_set, stksOk_set, hostOk_hostWrites, core_reset_kept,
      stack_reset_kept, EccMem.zero_kept]

theorem marchDone_kept {wq : List Instr} (k : SiteId) (bad : List (Nat × Nat)) (s : State) (h_s : (s).kept wq = true)
    :
    (marchDone k bad s).kept wq = true := by
  grind [marchDone, !(State.core_kept (wq := wq)), !(State.putCore_kept (wq := wq)), !(State.complete_kept (wq :=
      wq)), !(State.testDone_kept (wq := wq)), Core.marchEnd_kept, !(State.addRow_kept (wq := wq)), !(kept_eq (wq :=
      wq)), coreMemsOk_eq, wf_eq, !(foldl_kept (wq := wq)), foldl_keptC, foldl_keptE, coresOk_set, stksOk_set,
      hostOk_hostWrites, core_reset_kept, stack_reset_kept, EccMem.zero_kept]

theorem Seqr.reset_kept (q : Seqr) (h_q : (q).istore.wf = true) :
    (Seqr.reset q).istore.wf = true := by
  grind [Seqr.reset]

theorem Core.resetSync_kept (c : Core) (h_c : (c).memsOk = true) :
    (Core.resetSync c).memsOk = true := by
  grind [Core.resetSync, Core.closeChans_kept, Core.setCmb_kept, coreMemsOk_eq, wf_eq, foldl_keptC, foldl_keptE,
      coresOk_set, stksOk_set, hostOk_hostWrites, core_reset_kept, stack_reset_kept, EccMem.zero_kept]

theorem Core.regionReset_kept (c : Core) (h_c : (c).memsOk = true) :
    (Core.regionReset c).memsOk = true := by
  grind [Core.regionReset, Core.zeroBank_kept, Core.marchAbort_kept, Seqr.reset_kept, Core.resetSync_kept,
      coreMemsOk_eq, wf_eq, foldl_keptC, foldl_keptE, coresOk_set, stksOk_set, hostOk_hostWrites, core_reset_kept,
      stack_reset_kept, EccMem.zero_kept]

theorem State.resetCore_kept {wq : List Instr} (s : State) (k : SiteId) (h_s : (s).kept wq = true) :
    (State.resetCore s k).kept wq = true := by
  grind [State.resetCore, !(State.modCore_kept (wq := wq)), !(State.marchStop_kept (wq := wq)), Core.regionReset_kept]

theorem State.releaseTables_kept {wq : List Instr} (s : State) (id : Nat) (h_s : (s).kept wq = true) :
    (State.releaseTables s id).kept wq = true := by
  grind [State.releaseTables, !(State.setRouter_kept (wq := wq)), !(State.setRegion_kept (wq := wq)),
      !(State.dropGroup_kept (wq := wq)), !(kept_eq (wq := wq)), coreMemsOk_eq, wf_eq, !(foldl_kept (wq := wq)),
      foldl_keptC, foldl_keptE, coresOk_set, stksOk_set, hostOk_hostWrites, core_reset_kept, stack_reset_kept,
      EccMem.zero_kept]

theorem State.endRequests_kept {wq : List Instr} (s : State) (id : Nat) (st : Nat) (h_s : (s).kept wq = true) :
    (State.endRequests s id st).kept wq = true := by
  grind [State.endRequests, !(State.setRegion_kept (wq := wq)), !(State.completeOpt_kept (wq := wq))]

theorem State.killRegion_kept {wq : List Instr} (s : State) (id : Nat) (h_s : (s).kept wq = true) :
    (State.killRegion s id).kept wq = true := by
  grind [State.killRegion, !(State.modCore_kept (wq := wq)), Core.stopEngines_kept, !(State.leaveRunning_kept (wq :=
      wq)), Core.stopSeq_kept, !(kept_eq (wq := wq)), coreMemsOk_eq, wf_eq, !(foldl_kept (wq := wq)), foldl_keptC,
      foldl_keptE, coresOk_set, stksOk_set, hostOk_hostWrites, core_reset_kept, stack_reset_kept, EccMem.zero_kept]

theorem State.resetRegion_kept {wq : List Instr} (s : State) (id : Nat) (h_s : (s).kept wq = true) :
    (State.resetRegion s id).kept wq = true := by
  grind [State.resetRegion, !(State.setRegion_kept (wq := wq)), Seqr.reset_kept, !(State.resetCore_kept (wq := wq)),
      !(State.releaseTables_kept (wq := wq)), !(State.endRequests_kept (wq := wq)), !(State.killRegion_kept (wq :=
      wq)), !(kept_eq (wq := wq)), coreMemsOk_eq, wf_eq, !(foldl_kept (wq := wq)), foldl_keptC, foldl_keptE,
      coresOk_set, stksOk_set, hostOk_hostWrites, core_reset_kept, stack_reset_kept, EccMem.zero_kept]

end Sys2Proof.Machine
end

