-- ==== Sys2Proof/Laws/KeepStack.lean ====
section
/-!
SUPPORT. What each operation of Machine/Stack.lean keeps: the canonical form of every memory, and the queue of waiting
commands.
-/

namespace Sys2Proof.Machine

set_option maxRecDepth 2000

theorem State.ioCheck_kept {wq : List Instr} (s : State) (k : SiteId) (p : Packet) (go : State → State) (h_s :
    (s).kept wq = true) (h_go : ∀ x0, (x0).kept wq = true → (go x0).kept wq = true) :
    (State.ioCheck s k p go).kept wq = true := by
  grind [State.ioCheck, !(State.core_kept (wq := wq)), !(State.modCore_kept (wq := wq)), !(State.crcFail_kept (wq :=
      wq)), !(State.nakFrom_kept (wq := wq)), !(kept_eq (wq := wq)), coreMemsOk_eq, wf_eq, !(foldl_kept (wq := wq)),
      foldl_keptC, foldl_keptE, coresOk_set, stksOk_set, hostOk_hostWrites, core_reset_kept, stack_reset_kept,
      EccMem.zero_kept]

theorem State.setCands_kept {wq : List Instr} (s : State) (k : Nat) (l : List Nat) (h_s : (s).kept wq = true) :
    (State.setCands s k l).kept wq = true := by
  grind [State.setCands, !(State.stack_kept (wq := wq)), !(State.setStack_kept (wq := wq)), !(kept_eq (wq := wq))]

theorem State.candidate_kept {wq : List Instr} (s : State) (k : Nat) (u : Nat) (h_s : (s).kept wq = true) :
    (State.candidate s k u).kept wq = true := by
  grind [State.candidate, !(State.stack_kept (wq := wq)), !(State.setStack_kept (wq := wq)), !(State.setCands_kept (wq
      := wq))]

theorem State.addTot_kept {wq : List Instr} (s : State) (i : Nat) (n : Nat) (h_s : (s).kept wq = true) :
    (State.addTot s i n).kept wq = true := by
  grind [State.addTot, !(kept_eq (wq := wq))]

theorem State.stackUe_kept {wq : List Instr} (s : State) (k : Nat) (src : Nat) (n : Nat) (cw : Nat) (h_s : (s).kept wq
    = true) :
    (State.stackUe s k src n cw).kept wq = true := by
  grind [State.stackUe, !(State.setBar_kept (wq := wq)), !(State.bumpStk_kept (wq := wq)), !(State.candidate_kept (wq
      := wq)), !(State.addTot_kept (wq := wq))]

theorem State.stackCe_kept {wq : List Instr} (s : State) (k : Nat) (n : Nat) (h_s : (s).kept wq = true) :
    (State.stackCe s k n).kept wq = true := by
  grind [State.stackCe, !(State.noteRisk_kept (wq := wq)), !(State.bumpStk_kept (wq := wq)), !(State.addTot_kept (wq
      := wq))]

theorem State.stackRead_kept {wq : List Instr} (s : State) (a : Nat) (n : Nat) (h_s : (s).kept wq = true) :
    ((State.stackRead s a n).1).kept wq = true := by
  grind [State.stackRead, !(State.stack_kept (wq := wq)), Core.add64_kept, !(State.add64_kept (wq := wq)),
      !(State.stackUe_kept (wq := wq)), !(State.stackCe_kept (wq := wq))]

theorem State.stackWrite_kept {wq : List Instr} (s : State) (a : Nat) (b : List Byte) (h_s : (s).kept wq = true) :
    ((State.stackWrite s a b).1).kept wq = true := by
  grind [State.stackWrite, EccMem.write_kept, !(State.stack_kept (wq := wq)), !(State.setStack_kept (wq := wq)),
      Core.add64_kept, !(State.add64_kept (wq := wq)), !(State.stackUe_kept (wq := wq)), !(State.stackCe_kept (wq :=
      wq))]

theorem State.ackNow_kept {wq : List Instr} (s : State) (k : SiteId) (p : Packet) (h_s : (s).kept wq = true) :
    (State.ackNow s k p).kept wq = true := by
  grind [State.ackNow, !(State.respond_kept (wq := wq))]

theorem msdRequest_kept {wq : List Instr} (m : Nat) (p : Packet) (s : State) (h_s : (s).kept wq = true) :
    (msdRequest m p s).kept wq = true := by
  grind [msdRequest, !(State.land_kept (wq := wq)), !(State.respond_kept (wq := wq)), !(State.dropAt_kept (wq := wq)),
      !(State.nakFrom_kept (wq := wq)), !(State.ioCheck_kept (wq := wq)), !(State.stackRead_kept (wq := wq)),
      !(State.stackWrite_kept (wq := wq)), !(State.ackNow_kept (wq := wq))]

theorem stackTemps_kept {wq : List Instr} (m : Nat) (t0 : Int) (t1 : Int) (s : State) (h_s : (s).kept wq = true) :
    (stackTemps m t0 t1 s).kept wq = true := by
  grind [stackTemps, EccMem.put_kept, !(State.stack_kept (wq := wq)), !(State.setStack_kept (wq := wq))]

theorem refreshBank_kept {wq : List Instr} (k : Nat) (bank : Nat) (s : State) (h_s : (s).kept wq = true) :
    (refreshBank k bank s).kept wq = true := by
  grind [refreshBank, !(State.stack_kept (wq := wq)), !(State.setStack_kept (wq := wq))]

theorem scrubStep_kept {wq : List Instr} (k : Nat) (s : State) (h_s : (s).kept wq = true) :
    (scrubStep k s).kept wq = true := by
  grind [scrubStep, EccMem.put_kept, !(State.stack_kept (wq := wq)), !(State.setStack_kept (wq := wq)),
      !(State.candidate_kept (wq := wq)), !(State.stackUe_kept (wq := wq)), !(State.stackCe_kept (wq := wq))]

theorem State.setPpr_kept {wq : List Instr} (s : State) (k : Nat) (result : Nat) (noRes : Nat) (done : Nat) (h_s :
    (s).kept wq = true) :
    (State.setPpr s k result noRes done).kept wq = true := by
  grind [State.setPpr, !(State.setBar_kept (wq := wq))]

theorem State.endRepair_kept {wq : List Instr} (s : State) (k : Nat) (req : Nat × Nat) (h_s : (s).kept wq = true) :
    (State.endRepair s k req).kept wq = true := by
  grind [State.endRepair, !(State.stack_kept (wq := wq)), !(State.setStack_kept (wq := wq)), !(State.complete_kept (wq
      := wq)), !(State.testDone_kept (wq := wq)), !(State.setPpr_kept (wq := wq))]

theorem State.repairOn_kept {wq : List Instr} (s : State) (k : Nat) (req : Nat × Nat) (z0 : List Nat) (h_s : (s).kept
    wq = true) :
    (State.repairOn s k req z0).kept wq = true := by
  induction z0 generalizing s k req <;> grind [State.repairOn, !(State.stack_kept (wq := wq)), !(State.setStack_kept
      (wq := wq)), !(State.setPpr_kept (wq := wq)), !(State.endRepair_kept (wq := wq)), !(kept_eq (wq := wq)),
      coreMemsOk_eq, wf_eq, !(foldl_kept (wq := wq)), foldl_keptC, foldl_keptE, coresOk_set, stksOk_set,
      hostOk_hostWrites, core_reset_kept, stack_reset_kept, EccMem.zero_kept]

theorem State.testOp_kept {wq : List Instr} (s : State) (r : Fin 256) (j : Nat) (kind : Nat) (go : Nat × Nat → Desc →
    State → State) (h_s : (s).kept wq = true) (h_go : ∀ x0 x1 x2, (x2).kept wq = true → (go x0 x1 x2).kept wq = true)
    :
    (State.testOp s r j kind go).kept wq = true := by
  grind [State.testOp, !(State.complete_kept (wq := wq)), !(State.hostOp_kept (wq := wq)), !(State.gateOp_kept (wq :=
      wq))]

theorem stackRepair_kept {wq : List Instr} (r : Fin 256) (j : Nat) (s : State) (h_s : (s).kept wq = true) :
    (stackRepair r j s).kept wq = true := by
  grind [stackRepair, !(State.stack_kept (wq := wq)), !(State.setStack_kept (wq := wq)), !(State.complete_kept (wq :=
      wq)), !(State.setBusy_kept (wq := wq)), !(State.setPpr_kept (wq := wq)), !(State.repairOn_kept (wq := wq)),
      !(State.testOp_kept (wq := wq))]

theorem pprRowDone_kept {wq : List Instr} (k : Nat) (s : State) (h_s : (s).kept wq = true) :
    (pprRowDone k s).kept wq = true := by
  grind [pprRowDone, !(State.stack_kept (wq := wq)), !(State.bumpStk_kept (wq := wq)), !(State.setCands_kept (wq :=
      wq)), !(State.setPpr_kept (wq := wq)), !(State.repairOn_kept (wq := wq)), !(kept_eq (wq := wq))]

theorem stackFail_kept {wq : List Instr} (k : Nat) (s : State) (h_s : (s).kept wq = true) :
    (stackFail k s).kept wq = true := by
  grind [stackFail, !(State.stack_kept (wq := wq)), !(State.setStack_kept (wq := wq)), !(State.complete_kept (wq :=
      wq)), !(State.testDone_kept (wq := wq)), !(State.logRec_kept (wq := wq)), !(State.setPpr_kept (wq := wq)),
      !(kept_eq (wq := wq))]

theorem stateDigest_kept {wq : List Instr} (r : Fin 256) (j : Nat) (s : State) (h_s : (s).kept wq = true) :
    (stateDigest r j s).kept wq = true := by
  grind [stateDigest, !(State.stack_kept (wq := wq)), !(State.setStack_kept (wq := wq)), !(State.complete_kept (wq :=
      wq)), !(State.setBusy_kept (wq := wq)), !(State.hostOp_kept (wq := wq)), !(State.gateOp_kept (wq := wq)),
      !(kept_eq (wq := wq)), coreMemsOk_eq, wf_eq, !(foldl_kept (wq := wq)), foldl_keptC, foldl_keptE, coresOk_set,
      stksOk_set, hostOk_hostWrites, core_reset_kept, stack_reset_kept, EccMem.zero_kept]

theorem State.digestStack_kept {wq : List Instr} (s : State) (k : Nat) (lo : Nat) (n : Nat) (h_s : (s).kept wq = true)
    :
    ((State.digestStack s k lo n).1).kept wq = true := by
  grind [State.digestStack, !(State.stack_kept (wq := wq)), !(State.stackUe_kept (wq := wq)), !(State.stackCe_kept (wq
      := wq))]

theorem digestDone_kept {wq : List Instr} (s : State) (h_s : (s).kept wq = true) :
    (digestDone s).kept wq = true := by
  unfold digestDone
  split
  · exact h_s
  · dsimp only
    split
    · exact h_s
    · apply State.complete_kept
      apply foldl_kept _ _ _ _ (by grind [State.setStack_kept, State.stack_kept])
      have w : ∀ (t : State) x, t.kept wq = true → (State.kept wq { t with stks := { t.stks with digest := x } }) =
          true := by
        intro t x ht; grind [kept_eq]
      refine w _ _ (State.hostWrite_kept _ _ _ ?_)
      refine foldl_inv (fun a : State × List (Nat × Option (BitVec 256)) => a.1.kept wq = true) _ _ _ h_s ?_
      intro a x ha
      exact State.digestStack_kept _ _ _ _ ha

end Sys2Proof.Machine
end

