-- ==== Sys2Proof/Laws/KeepHostAccess.lean ====
section
/-!
SUPPORT. What each operation of Machine/HostAccess.lean keeps: the canonical form of every memory, and the queue of waiting
commands.
-/

namespace Sys2Proof.Machine

set_option maxRecDepth 2000

theorem State.freeBytes_kept {wq : List Instr} (s : State) (n : Nat) (h_s : (s).kept wq = true) :
    ((State.freeBytes s n).1).kept wq = true := by
  grind [State.freeBytes, !(State.draw_kept (wq := wq))]

theorem State.remoteAccess_kept {wq : List Instr} (s : State) (ent : Nat) (l : Nat) (dest : DWord) (type : Byte) (n :
    Nat) (b : List Byte) (h_s : (s).kept wq = true) :
    ((State.remoteAccess s ent l dest type n b).1).kept wq = true := by
  grind [State.remoteAccess, !(State.setLantern_kept (wq := wq)), !(State.draw_kept (wq := wq)),
      !(State.freeBytes_kept (wq := wq))]

theorem State.fabRead1_kept {wq : List Instr} (s : State) (ent : Nat) (dest : DWord) (n : Nat) (h_s : (s).kept wq =
    true) :
    ((State.fabRead1 s ent dest n).1).kept wq = true := by
  grind [State.fabRead1, !(State.core_kept (wq := wq)), !(State.draw_kept (wq := wq)), !(State.coreFetch_kept (wq :=
      wq)), !(State.stackRead_kept (wq := wq)), !(State.freeBytes_kept (wq := wq)), !(State.remoteAccess_kept (wq :=
      wq))]

theorem State.fabWrite1_kept {wq : List Instr} (s : State) (ent : Nat) (dest : DWord) (b : List Byte) (h_s : (s).kept
    wq = true) :
    ((State.fabWrite1 s ent dest b).1).kept wq = true := by
  grind [State.fabWrite1, !(State.hostWrite_kept (wq := wq)), !(State.core_kept (wq := wq)), !(State.inject_kept (wq
      := wq)), !(State.refuse_kept (wq := wq)), !(State.coreStore_kept (wq := wq)), !(State.stackWrite_kept (wq :=
      wq)), !(State.remoteAccess_kept (wq := wq))]

theorem State.fabRead_kept {wq : List Instr} (s : State) (ent : Nat) (dest : DWord) (n : Nat) (h_s : (s).kept wq =
    true) :
    ((State.fabRead s ent dest n).1).kept wq = true := by
  unfold State.fabRead
  refine foldl_inv (fun a : State × Byte × List Byte => a.1.kept wq = true) _ _ _ h_s ?_
  intro a x ha
  dsimp only
  split
  · exact ha
  · exact State.fabRead1_kept _ _ _ _ ha

theorem State.fabWrite_kept {wq : List Instr} (s : State) (ent : Nat) (dest : DWord) (b : List Byte) (h_s : (s).kept
    wq = true) :
    ((State.fabWrite s ent dest b).1).kept wq = true := by
  unfold State.fabWrite
  refine foldl_inv (fun a : State × Byte × Nat => a.1.kept wq = true) _ _ _ h_s ?_
  intro a x ha
  dsimp only
  split
  · exact ha
  · exact State.fabWrite1_kept _ _ _ _ ha

end Sys2Proof.Machine
end

