-- ==== Sys2Proof/Laws/KeepRecord.lean ====
section
/-!
SUPPORT. What each operation of Machine/Record.lean keeps: the canonical form of every memory, and the queue of waiting
commands.
-/

namespace Sys2Proof.Machine

set_option maxRecDepth 2000

theorem Core.record_kept (c : Core) (epid : Nat) (quiet : Bool) (h_c : (c).memsOk = true) :
    ((Core.record c epid quiet).1).memsOk = true := by
  grind [Core.record, Core.noteEcc_kept]

theorem Core.restoreRegs_kept (c : Core) (b : List Byte) (base : Nat) (l : List Nat) (h_c : (c).memsOk = true) :
    (Core.restoreRegs c b base l).memsOk = true := by
  grind [Core.restoreRegs, Core.setReg_kept, coreMemsOk_eq, wf_eq, foldl_keptC, foldl_keptE, coresOk_set, stksOk_set,
      hostOk_hostWrites, core_reset_kept, stack_reset_kept, EccMem.zero_kept]

theorem Core.restoreCtxs_kept (c : Core) (b : List Byte) (h_c : (c).memsOk = true) :
    (Core.restoreCtxs c b).memsOk = true := by
  grind [Core.restoreCtxs, Core.setCtx_kept, coreMemsOk_eq, wf_eq, foldl_keptC, foldl_keptE, coresOk_set, stksOk_set,
      hostOk_hostWrites, core_reset_kept, stack_reset_kept, EccMem.zero_kept]

theorem Core.restoreSeqr_kept (c : Core) (b : List Byte) (h_c : (c).memsOk = true) :
    (Core.restoreSeqr c b).memsOk = true := by
  grind [Core.restoreSeqr, Core.setReg_kept, coreMemsOk_eq, wf_eq]

theorem Core.restoreCounts_kept (c : Core) (b : List Byte) (h_c : (c).memsOk = true) :
    (Core.restoreCounts c b).memsOk = true := by
  grind [Core.restoreCounts, Core.setReg_kept, Core.setEngine_kept, Core.setAcc_kept, Core.setTq_kept,
      Seqr.reset_kept, coreMemsOk_eq, wf_eq, foldl_keptC, foldl_keptE, coresOk_set, stksOk_set, hostOk_hostWrites,
      core_reset_kept, stack_reset_kept, EccMem.zero_kept]

theorem Core.restoreData_kept (c : Core) (b : List Byte) (h_c : (c).memsOk = true) :
    (Core.restoreData c b).memsOk = true := by
  grind [Core.restoreData, EccMem.write_kept, coreMemsOk_eq, wf_eq]

theorem Core.restore_kept (c : Core) (b : List Byte) (h_c : (c).memsOk = true) :
    (Core.restore c b).memsOk = true := by
  grind [Core.restore, Core.setReg_kept, Core.restoreRegs_kept, Core.restoreCtxs_kept, Core.restoreSeqr_kept,
      Core.restoreCounts_kept, Core.restoreData_kept]

end Sys2Proof.Machine
end

