-- ==== Sys2Proof/Laws/KeepLoad.lean ====
section
/-!
SUPPORT. What each operation of Machine/Load.lean keeps: the canonical form of every memory, and the queue of waiting
commands.
-/

namespace Sys2Proof.Machine

set_option maxRecDepth 2000

theorem State.installGroup_kept {wq : List Instr} (s : State) (g : Nat) (root : SiteId) (members : List SiteId) (h_s :
    (s).kept wq = true) :
    (∀ y, State.installGroup s g root members = .inl y → y.kept wq = true) := by
  have hm : ∀ t : State, t.kept wq = true → ((t.mapRouters fun _ r => r.mcFresh g).mapCores fun _ c => c.mcFresh
      g).kept wq = true :=
    fun t h => State.mapCores_kept _ _ (State.mapRouters_kept _ _ h) fun _ c hc => Core.mcFresh_kept _ _ hc
  intro y hy
  unfold State.installGroup at hy
  split at hy
  · simp at hy
  · split at hy
    · simp at hy
    · next q hq =>
      simp only [Sum.inl.injEq] at hy
      subst hy
      apply hm
      simp only [Option.bind_eq_some_iff] at hq
      obtain ⟨z, hz, hz'⟩ := hq
      exact State.putTree_kept _ _ _ _ _ (State.putTree_kept _ _ _ _ _ h_s _ hz) _ hz'

theorem Core.bankOn_kept (c : Core) (b : Nat) (h_c : (c).memsOk = true) :
    (Core.bankOn c b).memsOk = true := by
  grind [Core.bankOn, Core.wakeBank_kept, Core.wakeDone_kept]

theorem State.applySect_kept {wq : List Instr} (s : State) (k : SiteId) (x : Sect) (h_s : (s).kept wq = true) :
    (State.applySect s k x).kept wq = true := by
  grind [State.applySect, EccMem.write_kept, !(State.modCore_kept (wq := wq)), Core.sramWrite_kept,
      !(State.coreWrite_kept (wq := wq)), Core.bankOn_kept, !(kept_eq (wq := wq)), coreMemsOk_eq, wf_eq,
      !(foldl_kept (wq := wq)), foldl_keptC, foldl_keptE, coresOk_set, stksOk_set, hostOk_hostWrites,
      core_reset_kept, stack_reset_kept, EccMem.zero_kept]

theorem State.configure_kept {wq : List Instr} (s : State) (k : SiteId) (id : Nat) (sects : List Sect) (h_s : (s).kept
    wq = true) :
    (State.configure s k id sects).kept wq = true := by
  grind [State.configure, Core.setReg_kept, !(State.modCore_kept (wq := wq)), Core.setCtx_kept, !(State.resetCore_kept
      (wq := wq)), !(State.applySect_kept (wq := wq)), !(kept_eq (wq := wq)), coreMemsOk_eq, wf_eq, !(foldl_kept (wq
      := wq)), foldl_keptC, foldl_keptE, coresOk_set, stksOk_set, hostOk_hostWrites, core_reset_kept,
      stack_reset_kept, EccMem.zero_kept]

theorem State.clearOld_kept {wq : List Instr} (s : State) (id : Nat) (h_s : (s).kept wq = true) :
    (State.clearOld s id).kept wq = true := by
  grind [State.clearOld, !(State.setRegion_kept (wq := wq)), Core.setReg_kept, !(State.modCore_kept (wq := wq)),
      Seqr.reset_kept, !(State.resetCore_kept (wq := wq)), !(State.releaseTables_kept (wq := wq)),
      !(State.endRequests_kept (wq := wq)), !(State.killRegion_kept (wq := wq)), !(kept_eq (wq := wq)),
      coreMemsOk_eq, wf_eq, !(foldl_kept (wq := wq)), foldl_keptC, foldl_keptE, coresOk_set, stksOk_set,
      hostOk_hostWrites, core_reset_kept, stack_reset_kept, EccMem.zero_kept]

theorem loadGroup_kept {wq : List Instr} (id : Nat) (g : Nat) (root : Option SiteId) (members : List SiteId) (a :
    State ⊕ (Nat × Nat))
    (h_a : ∀ s, a = .inl s → s.kept wq = true) : ∀ y, loadGroup id g root members a = .inl y → y.kept wq = true := by
  intro y hy
  unfold loadGroup at hy
  split at hy
  · split at hy
    · next s root _ _ q hq =>
      simp only [Sum.inl.injEq] at hy
      subst hy
      exact State.setRegion_kept _ _ _ (State.installGroup_kept _ _ _ _ (h_a _ rfl) _ hq)
    · simp at hy
  · exact h_a _ hy

theorem State.buildGroups_kept {wq : List Instr} (s : State) (id : Nat) (groups : List GroupRec) (h_s : s.kept wq =
    true) :
    ∀ y, State.buildGroups s id groups = .inl y → y.kept wq = true := by
  unfold State.buildGroups
  dsimp only
  refine foldl_inv (fun a : State ⊕ (Nat × Nat) => ∀ y : State, a = .inl y → y.kept wq = true) _ _ _ ?_ ?_
  · exact loadGroup_kept _ _ _ _ _ (by intro s' h'; simp only [Sum.inl.injEq] at h'; subst h'; exact h_s)
  · intro b x hb; exact loadGroup_kept _ _ _ _ _ hb

theorem State.loadRegion_kept {wq : List Instr} (s : State) (im : Image) (x : Nat × Nat × Region) (h_s : (s).kept wq =
    true) :
    (∀ y, State.loadRegion s im x = .inl y → y.kept wq = true) := by
  grind [State.loadRegion, !(State.setRegion_kept (wq := wq)), !(State.configure_kept (wq := wq)),
      !(State.buildGroups_kept (wq := wq)), !(kept_eq (wq := wq)), coreMemsOk_eq, wf_eq, !(foldl_kept (wq := wq)),
      foldl_keptC, foldl_keptE, coresOk_set, stksOk_set, hostOk_hostWrites, core_reset_kept, stack_reset_kept,
      EccMem.zero_kept]

theorem State.unload_kept {wq : List Instr} (s : State) (im : Image) (h_s : (s).kept wq = true) :
    (State.unload s im).kept wq = true := by
  grind [State.unload, !(State.setRegion_kept (wq := wq)), Core.setReg_kept, !(State.modCore_kept (wq := wq)),
      Seqr.reset_kept, !(State.resetCore_kept (wq := wq)), !(State.releaseTables_kept (wq := wq)), !(kept_eq (wq :=
      wq)), coreMemsOk_eq, wf_eq, !(foldl_kept (wq := wq)), foldl_keptC, foldl_keptE, coresOk_set, stksOk_set,
      hostOk_hostWrites, core_reset_kept, stack_reset_kept, EccMem.zero_kept]

theorem State.loadNow_kept {wq : List Instr} (s : State) (req : Nat × Nat) (im : Image) (h_s : (s).kept wq = true) :
    (State.loadNow s req im).kept wq = true := by
  unfold State.loadNow
  extract_lets areas s1 xs
  have h1 : s1.kept wq = true := foldl_kept _ _ _ (State.abortXchk_kept _ _ (State.setBusy_kept _ _ h_s))
    fun s x hs => State.clearOld_kept _ _ hs
  have hf : ∀ a, xs.foldl (fun (a : State ⊕ (Nat × Nat × State)) x =>
      match a with
      | .inr e => .inr e
      | .inl s => match s.loadRegion im x with
        | .inl s => .inl s
        | .inr e => .inr (e.1, e.2, s)) (.inl s1) = a →
      (∀ t, a = .inl t → t.kept wq = true) ∧ ∀ e, a = .inr e → e.2.2.kept wq = true := by
    intro a ha
    rw [← ha]
    refine foldl_inv (fun a : State ⊕ (Nat × Nat × State) =>
      (∀ t : State, a = .inl t → t.kept wq = true) ∧ ∀ e : Nat × Nat × State, a = .inr e → e.2.2.kept wq = true) _ _ _
          ?_ ?_
    · exact ⟨fun t ht => by cases ht; exact h1, fun e he => by cases he⟩
    · intro b x hb
      cases b with
      | inr e => exact hb
      | inl s =>
        have hs := hb.1 s rfl
        dsimp only
        cases hl : s.loadRegion im x with
        | inl t => exact ⟨fun t' ht => by cases ht; exact State.loadRegion_kept _ _ _ hs _ hl, fun e he => by cases
            he⟩
        | inr e => exact ⟨fun t' ht => by (cases ht), fun e he => by cases he; exact hs⟩
  split
  · next e => exact State.complete_kept _ _ _ _ _ (State.unload_kept _ _ ((hf _ ‹_›).2 _ rfl))
  · next e =>
    have ht := (hf _ ‹_›).1 _ rfl
    split
    · exact State.askFlip_kept _ _ ht
    · exact State.complete_kept _ _ _ _ _ (State.noteImage_kept _ _ (foldl_kept _ _ _ ht fun s x hs =>
        State.setRegion_kept _ _ _ hs))

theorem State.drainCores_kept {wq : List Instr} (s : State) (id : Nat) (h_s : (s).kept wq = true) :
    (State.drainCores s id).kept wq = true := by
  grind [State.drainCores, Core.setReg_kept, !(State.modCore_kept (wq := wq)), Core.closeChans_kept,
      Core.setFlags_kept, !(State.armDrain_kept (wq := wq)), !(kept_eq (wq := wq)), coreMemsOk_eq, wf_eq,
      !(foldl_kept (wq := wq)), foldl_keptC, foldl_keptE, coresOk_set, stksOk_set, hostOk_hostWrites,
      core_reset_kept, stack_reset_kept, EccMem.zero_kept]

theorem State.beginDrain_kept {wq : List Instr} (s : State) (id : Nat) (req : Option (Nat × Nat)) (h_s : (s).kept wq =
    true) :
    (State.beginDrain s id req).kept wq = true := by
  grind [State.beginDrain, !(State.setRegion_kept (wq := wq)), !(State.drainCores_kept (wq := wq))]

theorem State.loadBytes_kept {wq : List Instr} (s : State) (req : Nat × Nat) (reconf : Nat) (b : List Byte) (h_s :
    (s).kept wq = true) :
    (State.loadBytes s req reconf b).kept wq = true := by
  unfold State.loadBytes
  split
  · exact State.complete_kept _ _ _ _ _ h_s
  · refine State.wakeFor_kept _ _ _ h_s ?_
    intro t ht
    split
    · exact State.loadNow_kept _ _ _ ht
    · refine foldl_kept _ _ _ (State.setBusy_kept _ _ ht) ?_
      intro s x hs
      have h := State.setRegion_kept s x { s.region x with reload := some (req.1, req.2, b) } hs
      extract_lets _ q
      split
      · exact State.beginDrain_kept _ _ _ h
      · exact h

theorem loadImage_kept {wq : List Instr} (r : Fin 256) (j : Nat) (h : HostRead) (s : State) (h_s : (s).kept wq = true)
    :
    (loadImage r j h s).kept wq = true := by
  grind [loadImage, !(State.complete_kept (wq := wq)), !(State.hostOp_kept (wq := wq)), !(State.loadBytes_kept (wq :=
      wq))]

theorem reconfWaitEnd_kept {wq : List Instr} (rgn : Nat) (s : State) (h_s : (s).kept wq = true) :
    (reconfWaitEnd rgn s).kept wq = true := by
  grind [reconfWaitEnd, !(State.setRegion_kept (wq := wq)), !(State.complete_kept (wq := wq)), !(State.loadNow_kept
      (wq := wq))]

end Sys2Proof.Machine
end

