-- ==== Sys2Proof/Laws/KeepRegion.lean ====
section
/-!
SUPPORT. What each operation of Machine/Region.lean keeps: the canonical form of every memory, and the queue of waiting
commands.
-/

namespace Sys2Proof.Machine

set_option maxRecDepth 2000

theorem State.armRegion_kept {wq : List Instr} (s : State) (id : Nat) (m : Nat) (h_s : (s).kept wq = true) :
    (State.armRegion s id m).kept wq = true := by
  grind [State.armRegion, !(State.setRegion_kept (wq := wq)), Core.setReg_kept, !(State.modCore_kept (wq := wq)),
      !(State.armLaunch_kept (wq := wq)), !(kept_eq (wq := wq)), coreMemsOk_eq, wf_eq, !(foldl_kept (wq := wq)),
      foldl_keptC, foldl_keptE, coresOk_set, stksOk_set, hostOk_hostWrites, core_reset_kept, stack_reset_kept,
      EccMem.zero_kept]

theorem regionStart_kept {wq : List Instr} (r : Fin 256) (j : Nat) (s : State) (h_s : (s).kept wq = true) :
    (regionStart r j s).kept wq = true := by
  grind [regionStart, !(State.setRegion_kept (wq := wq)), !(State.complete_kept (wq := wq)), !(State.setBusy_kept (wq
      := wq)), !(State.hostOp_kept (wq := wq)), !(State.armRegion_kept (wq := wq))]

theorem State.disarm_kept {wq : List Instr} (s : State) (id : Nat) (h_s : (s).kept wq = true) :
    (State.disarm s id).kept wq = true := by
  grind [State.disarm, !(State.modCore_kept (wq := wq)), !(kept_eq (wq := wq)), coreMemsOk_eq, wf_eq, !(foldl_kept (wq
      := wq)), foldl_keptC, foldl_keptE, coresOk_set, stksOk_set, hostOk_hostWrites, core_reset_kept,
      stack_reset_kept, EccMem.zero_kept]

theorem State.lateCore_kept {wq : List Instr} (s : State) (id : Nat) (h_s : (s).kept wq = true) :
    (State.lateCore s id).kept wq = true := by
  grind [State.lateCore, !(State.setRegion_kept (wq := wq)), !(State.complete_kept (wq := wq)), !(State.armRegion_kept
      (wq := wq)), !(State.disarm_kept (wq := wq))]

theorem rgnLaunchArm_kept {wq : List Instr} (k : SiteId) (v : Word) (s : State) (h_s : (s).kept wq = true) :
    (rgnLaunchArm k v s).kept wq = true := by
  grind [rgnLaunchArm, !(State.core_kept (wq := wq)), !(State.armLaunch_kept (wq := wq)), !(State.lateCore_kept (wq :=
      wq))]

theorem State.beginCore_kept {wq : List Instr} (s : State) (k : SiteId) (h_s : (s).kept wq = true) :
    (State.beginCore s k).kept wq = true := by
  grind [State.beginCore, !(State.core_kept (wq := wq)), !(State.setCore_kept (wq := wq)), !(State.seqException_kept
      (wq := wq)), Core.startCtx_kept, !(kept_eq (wq := wq)), coreMemsOk_eq, wf_eq, !(foldl_kept (wq := wq)),
      foldl_keptC, foldl_keptE, coresOk_set, stksOk_set, hostOk_hostWrites, core_reset_kept, stack_reset_kept,
      EccMem.zero_kept]

theorem Core.launchNow_kept (c : Core) (h_c : (c).memsOk = true) :
    (Core.launchNow c).memsOk = true := by
  exact Core.setReg_kept _ _ _ (Core.memsOk_congr c _ rfl rfl h_c)

theorem regionLaunch_kept {wq : List Instr} (k : SiteId) (s : State) (h_s : (s).kept wq = true) :
    (regionLaunch k s).kept wq = true := by
  unfold regionLaunch
  extract_lets c id r due
  by_cases h : (!c.launch || !due || !(r.st == 1 || r.live) || (r.startReq.isNone && r.st == 1)) = true
  · rw [if_pos h]; exact h_s
  rw [if_neg h]
  · refine State.checkDone_kept _ _ (State.beginCore_kept _ _ (State.setCore_kept _ _ _ ?_ (Core.launchNow_kept _
      (State.core_kept _ _ h_s))))
    have h1 : ∀ (p : Prop) [Decidable p] i r, (if p then s.setRegion i r else s).kept wq = true := by
      intro p _ i r; split
      · exact State.setRegion_kept _ _ _ h_s
      · exact h_s
    exact h1 _ _ _

theorem drainFlagCycle_kept {wq : List Instr} (k : SiteId) (s : State) (h_s : (s).kept wq = true) :
    (drainFlagCycle k s).kept wq = true := by
  grind [drainFlagCycle, !(State.core_kept (wq := wq)), !(State.setCore_kept (wq := wq)), Core.setFlags_kept,
      !(kept_eq (wq := wq)), coreMemsOk_eq, wf_eq, !(foldl_kept (wq := wq)), foldl_keptC, foldl_keptE, coresOk_set,
      stksOk_set, hostOk_hostWrites, core_reset_kept, stack_reset_kept, EccMem.zero_kept]

theorem regionStop_kept {wq : List Instr} (r : Fin 256) (j : Nat) (s : State) (h_s : (s).kept wq = true) :
    (regionStop r j s).kept wq = true := by
  grind [regionStop, !(State.setRegion_kept (wq := wq)), !(State.complete_kept (wq := wq)), !(State.setBusy_kept (wq
      := wq)), !(State.sendHalt_kept (wq := wq)), !(State.completeOpt_kept (wq := wq)), !(State.stopCheck_kept (wq
      := wq)), !(State.hostOp_kept (wq := wq))]

theorem regionDrain_kept {wq : List Instr} (r : Fin 256) (j : Nat) (s : State) (h_s : (s).kept wq = true) :
    (regionDrain r j s).kept wq = true := by
  grind [regionDrain, !(State.complete_kept (wq := wq)), !(State.setBusy_kept (wq := wq)), !(State.hostOp_kept (wq :=
      wq)), !(State.beginDrain_kept (wq := wq))]

theorem regionScanOut_kept {wq : List Instr} (r : Fin 256) (j : Nat) (s : State) (h_s : (s).kept wq = true) :
    (regionScanOut r j s).kept wq = true := by
  grind [regionScanOut, !(State.setRegion_kept (wq := wq)), !(State.complete_kept (wq := wq)), !(State.setBusy_kept
      (wq := wq)), !(State.sendHalt_kept (wq := wq)), !(State.hostOp_kept (wq := wq))]

theorem State.writeRecords_kept {wq : List Instr} (s : State) (faddr : DWord) (late : List SiteId) (z0 : List ((Nat ×
    SiteId) × Nat)) (z1 : Byte × Nat) (h_s : (s).kept wq = true) :
    ((State.writeRecords s faddr late z0 z1).1).kept wq = true := by
  induction z0 generalizing s faddr late z1 <;> grind [State.writeRecords, !(State.core_kept (wq := wq)),
      Core.setReg_kept, !(State.putCore_kept (wq := wq)), !(State.fabWrite_kept (wq := wq)), Core.record_kept,
      !(kept_eq (wq := wq)), coreMemsOk_eq, wf_eq, !(foldl_kept (wq := wq)), foldl_keptC, foldl_keptE, coresOk_set,
      stksOk_set, hostOk_hostWrites, core_reset_kept, stack_reset_kept, EccMem.zero_kept]

theorem State.scanCheck_kept {wq : List Instr} (s : State) (id : Nat) (h_s : (s).kept wq = true) :
    (State.scanCheck s id).kept wq = true := by
  grind [State.scanCheck, !(State.core_kept (wq := wq)), !(State.setRegion_kept (wq := wq)), !(State.modCore_kept (wq
      := wq)), !(State.complete_kept (wq := wq)), !(State.leaveRunning_kept (wq := wq)), !(State.writeRecords_kept
      (wq := wq)), !(kept_eq (wq := wq)), coreMemsOk_eq, wf_eq, !(foldl_kept (wq := wq)), foldl_keptC, foldl_keptE,
      coresOk_set, stksOk_set, hostOk_hostWrites, core_reset_kept, stack_reset_kept, EccMem.zero_kept]

theorem State.scanAll_kept {wq : List Instr} (s : State) (h_s : (s).kept wq = true) :
    (State.scanAll s).kept wq = true := by
  grind [State.scanAll, !(State.scanCheck_kept (wq := wq)), !(kept_eq (wq := wq)), coreMemsOk_eq, wf_eq, !(foldl_kept
      (wq := wq)), foldl_keptC, foldl_keptE, coresOk_set, stksOk_set, hostOk_hostWrites, core_reset_kept,
      stack_reset_kept, EccMem.zero_kept]

theorem scanTimeout_kept {wq : List Instr} (k : SiteId) (s : State) (h_s : (s).kept wq = true) :
    (scanTimeout k s).kept wq = true := by
  grind [scanTimeout, !(State.core_kept (wq := wq)), !(State.setCore_kept (wq := wq)), !(State.setRegion_kept (wq :=
      wq)), Core.stopEngines_kept, Core.stopSeq_kept, !(State.scanCheck_kept (wq := wq)), !(kept_eq (wq := wq)),
      coreMemsOk_eq, wf_eq, !(foldl_kept (wq := wq)), foldl_keptC, foldl_keptE, coresOk_set, stksOk_set,
      hostOk_hostWrites, core_reset_kept, stack_reset_kept, EccMem.zero_kept]

theorem regionScanIn_kept {wq : List Instr} (r : Fin 256) (j : Nat) (s : State) (h_s : (s).kept wq = true) :
    (regionScanIn r j s).kept wq = true := by
  unfold regionScanIn
  refine State.hostOp_kept _ _ _ _ _ h_s ?_
  intro req d t ht
  dsimp only
  split
  · exact State.complete_kept _ _ _ _ _ ht
  · have ht' := State.fabRead_kept t entCupola (BitVec.ofNat 64 (d.f 0x10 8)) (recordLen * (t.regionCores (d.f 8
      2)).length) ht
    split
    · exact ht
    split
    · exact State.complete_kept _ _ _ _ _ ht'
    split
    · exact State.complete_kept _ _ _ _ _ ht'
    split
    · exact State.complete_kept _ _ _ _ _ (foldl_kept _ _ _ ht' fun s x hs => State.resetCore_kept _ _ hs)
    · exact State.complete_kept _ _ _ _ _ (foldl_kept _ _ _ ht' fun s x hs => State.modCore_kept _ _ _ hs fun c hc =>
        Core.restore_kept _ _ hc)

theorem switchAdvance_kept {wq : List Instr} (k : SiteId) (s : State) (h_s : (s).kept wq = true) :
    (switchAdvance k s).kept wq = true := by
  grind [switchAdvance, !(State.core_kept (wq := wq)), !(State.setCore_kept (wq := wq)), !(kept_eq (wq := wq)),
      coreMemsOk_eq, wf_eq, !(foldl_kept (wq := wq)), foldl_keptC, foldl_keptE, coresOk_set, stksOk_set,
      hostOk_hostWrites, core_reset_kept, stack_reset_kept, EccMem.zero_kept]

theorem Core.schSpan_kept (c : Core) (i : Nat) (n : Nat) (h_c : c.memsOk = true) : ∀ y, c.schSpan i n = some y →
    y.2.memsOk = true := by
  intro y hy
  unfold Core.schSpan at hy
  dsimp only at hy
  split at hy
  · simp at hy
  · simp only [Option.some.injEq] at hy
    subst hy
    exact Core.memsOk_congr c _ rfl rfl h_c

theorem Core.eject_kept (c : Core) (sPlane : Bool) (b : List Byte) (h_c : (c).memsOk = true) :
    (Core.eject c sPlane b).memsOk = true := by
  unfold Core.eject
  split
  · next a c' h => exact (Core.sramWrite_kept _ _ _ _ (Core.schSpan_kept _ _ _ h_c _ h))
  · exact h_c

theorem scheduledFlit_kept {wq : List Instr} (k : SiteId) (sPlane : Bool) (d : Option Dir) (w : BitVec 576) (s :
    State) (h_s : (s).kept wq = true) :
    (scheduledFlit k sPlane d w s).kept wq = true := by
  have hc := State.core_kept s k h_s
  unfold scheduledFlit
  dsimp only
  split
  · exact h_s
  · split
    · split
      · exact h_s
      · split
        · exact h_s
        · next a c' h =>
          have h1 := Core.schSpan_kept _ _ _ hc _ h
          refine State.putCore_kept _ _ _ h_s ?_
          split
          · exact Core.eject_kept _ _ _ (Core.noteEcc_kept _ _ _ _ _ h1)
          · exact Core.noteEcc_kept _ _ _ _ _ h1
    · split
      · exact State.regionFault_kept _ _ _ _ (State.modCore_kept _ _ _ h_s fun c hc => Core.bump_kept _ _ _ hc)
      · refine State.putCore_kept _ _ _ h_s ?_
        split
        · exact Core.eject_kept _ _ _ (Core.bump_kept _ _ _ hc)
        · exact Core.bump_kept _ _ _ hc

theorem State.chainWord_kept {wq : List Instr} (s : State) (k : SiteId) (b : List Byte) (h_s : (s).kept wq = true) :
    (State.chainWord s k b).kept wq = true := by
  grind [State.chainWord, !(State.core_kept (wq := wq)), !(State.putCore_kept (wq := wq)), Core.setRound_kept,
      Core.chainFold_kept, !(State.chainEnd_kept (wq := wq))]

theorem bypassWord_kept {wq : List Instr} (k : SiteId) (d : Dir) (w : BitVec 576) (s : State) (h_s : (s).kept wq =
    true) :
    (bypassWord k d w s).kept wq = true := by
  grind [bypassWord, !(State.core_kept (wq := wq)), Core.bump_kept, !(State.modCore_kept (wq := wq)),
      Core.setAcc_kept, !(State.regionFault_kept (wq := wq)), Core.landSlots_kept, !(State.pump_kept (wq := wq)),
      !(State.chainWord_kept (wq := wq))]

theorem genExpiry_kept {wq : List Instr} (g : Nat) (s : State) (h_s : (s).kept wq = true) :
    (genExpiry g s).kept wq = true := by
  grind [genExpiry, !(kept_eq (wq := wq))]

end Sys2Proof.Machine
end

