-- ==== Sys2Proof/Laws/KeepRings.lean ====
section
/-!
SUPPORT. What each operation of Machine/Rings.lean keeps: the canonical form of every memory, and the queue of waiting
commands.
-/

namespace Sys2Proof.Machine

set_option maxRecDepth 2000

theorem State.engErr_kept {wq : List Instr} (s : State) (i : Nat) (h_s : (s).kept wq = true) :
    (State.engErr s i).kept wq = true := by
  grind [State.engErr, !(State.setBar_kept (wq := wq))]

theorem doorbellCmd_kept {wq : List Instr} (r : Nat) (v : Word) (s : State) (h_s : (s).kept wq = true) :
    (doorbellCmd r v s).kept wq = true := by
  grind [doorbellCmd, !(State.setRing_kept (wq := wq)), !(State.engErr_kept (wq := wq))]

theorem doorbellCpl_kept {wq : List Instr} (q : Nat) (v : Word) (s : State) (h_s : (s).kept wq = true) :
    (doorbellCpl q v s).kept wq = true := by
  grind [doorbellCpl, !(State.setCpl_kept (wq := wq)), !(State.engErr_kept (wq := wq))]

theorem descriptorFetch_kept {wq : List Instr} (r : Fin 256) (h : HostRead) (s : State) (h_s : (s).kept wq = true) :
    (descriptorFetch r h s).kept wq = true := by
  grind [descriptorFetch, !(State.setRing_kept (wq := wq)), !(State.queueRecord_kept (wq := wq)), !(State.engErr_kept
      (wq := wq)), !(kept_eq (wq := wq))]

theorem descriptorStart_kept {wq : List Instr} (r : Fin 256) (s : State) (h_s : (s).kept wq = true) :
    (descriptorStart r s).kept wq = true := by
  grind [descriptorStart, !(State.setRing_kept (wq := wq)), !(State.complete_kept (wq := wq))]

theorem recordPost_kept {wq : List Instr} (q : Nat) (s : State) (h_s : (s).kept wq = true) :
    (recordPost q s).kept wq = true := by
  grind [recordPost, !(State.setCpl_kept (wq := wq)), !(State.raiseVec_kept (wq := wq)), !(State.putRecord_kept (wq :=
      wq))]

theorem hifVerWrite_kept {wq : List Instr} (v : Word) (s : State) (h_s : (s).kept wq = true) :
    (hifVerWrite v s).kept wq = true := by
  grind [hifVerWrite, !(State.setBar_kept (wq := wq))]

theorem cmdCfgWrite_kept {wq : List Instr} (r : Nat) (v : Word) (s : State) (h_s : (s).kept wq = true) :
    (cmdCfgWrite r v s).kept wq = true := by
  grind [cmdCfgWrite, !(State.setBar_kept (wq := wq)), !(State.setRing_kept (wq := wq)), !(State.barAccess_kept (wq :=
      wq))]

theorem cplCfgWrite_kept {wq : List Instr} (q : Nat) (v : Word) (s : State) (h_s : (s).kept wq = true) :
    (cplCfgWrite q v s).kept wq = true := by
  grind [cplCfgWrite, !(State.setBar_kept (wq := wq)), !(State.setCpl_kept (wq := wq)), !(State.barAccess_kept (wq :=
      wq))]

theorem gatedAccess_kept {wq : List Instr} (off : Nat) (wr : Bool) (s : State) (h_s : (s).kept wq = true) :
    (gatedAccess off wr s).kept wq = true := by
  grind [gatedAccess, !(State.gatedWrite_kept (wq := wq)), !(kept_eq (wq := wq))]

theorem debugAccess_kept {wq : List Instr} (off : Nat) (a : DebugAccess) (s : State) (h_s : (s).kept wq = true) :
    (debugAccess off a s).kept wq = true := by
  unfold debugAccess
  grind [EccMem.write_kept, !(State.fabRead_kept (wq := wq)), !(State.fabWrite_kept (wq := wq)), !(State.engErr_kept
      (wq := wq)), !(kept_eq (wq := wq))]

theorem State.answerRead_kept {wq : List Instr} (s : State) (p : Packet) (code : Byte) (b : List Byte) (h_s : (s).kept
    wq = true) :
    (State.answerRead s p code b).kept wq = true := by
  grind [State.answerRead, !(State.respond_kept (wq := wq))]

theorem State.functionReset_kept {wq : List Instr} (s : State) (h_s : (s).kept wq = true) :
    (State.functionReset s).kept wq = true := by
  grind [State.functionReset, !(State.setBar_kept (wq := wq)), Seqr.reset_kept, !(State.answerRead_kept (wq := wq)),
      !(kept_eq (wq := wq)), coreMemsOk_eq, wf_eq, !(foldl_kept (wq := wq)), foldl_keptC, foldl_keptE, coresOk_set,
      stksOk_set, hostOk_hostWrites, core_reset_kept, stack_reset_kept, EccMem.zero_kept]

theorem linkDown_kept {wq : List Instr} (s : State) (h_s : (s).kept wq = true) :
    (linkDown s).kept wq = true := by
  grind [linkDown, !(State.functionReset_kept (wq := wq)), !(kept_eq (wq := wq))]

theorem pcieRetrain_kept {wq : List Instr} (lanes : Nat) (rate8 : Nat) (s : State) (h_s : (s).kept wq = true) :
    (pcieRetrain lanes rate8 s).kept wq = true := by
  grind [pcieRetrain, !(State.setBar_kept (wq := wq)), !(State.raise_kept (wq := wq)), !(State.noteRisk_kept (wq :=
      wq)), !(kept_eq (wq := wq))]

end Sys2Proof.Machine
end

