-- ==== Sys2Proof/Laws/KeepHost.lean ====
section
/-!
SUPPORT. What each operation of Machine/Host.lean keeps: the canonical form of every memory, and the queue of waiting
commands.
-/

namespace Sys2Proof.Machine

set_option maxRecDepth 2000

theorem hostNop_kept {wq : List Instr} (r : Fin 256) (j : Nat) (s : State) (h_s : (s).kept wq = true) :
    (hostNop r j s).kept wq = true := by
  grind [hostNop, !(State.complete_kept (wq := wq)), !(State.hostOp_kept (wq := wq))]

theorem State.endXfer_kept {wq : List Instr} (s : State) (req : Nat × Nat) (code : Byte) (moved : Nat) (h_s : (s).kept
    wq = true) :
    (State.endXfer s req code moved).kept wq = true := by
  grind [State.endXfer, !(State.complete_kept (wq := wq))]

theorem dmaH2d_kept {wq : List Instr} (r : Fin 256) (j : Nat) (h : HostRead) (s : State) (h_s : (s).kept wq = true) :
    (dmaH2d r j h s).kept wq = true := by
  grind [dmaH2d, !(State.complete_kept (wq := wq)), !(State.hostOp_kept (wq := wq)), !(State.fabWrite_kept (wq :=
      wq)), !(State.endXfer_kept (wq := wq))]

theorem dmaD2h_kept {wq : List Instr} (r : Fin 256) (j : Nat) (s : State) (h_s : (s).kept wq = true) :
    (dmaD2h r j s).kept wq = true := by
  grind [dmaD2h, !(State.hostWrite_kept (wq := wq)), !(State.hostOp_kept (wq := wq)), !(State.fabRead_kept (wq :=
      wq)), !(State.endXfer_kept (wq := wq))]

theorem State.setWindow_kept {wq : List Instr} (s : State) (i : Nat) (w : Window) (h_s : (s).kept wq = true) :
    (State.setWindow s i w).kept wq = true := by
  grind [State.setWindow, Seqr.reset_kept, !(kept_eq (wq := wq))]

theorem openWindow_kept {wq : List Instr} (r : Fin 256) (j : Nat) (s : State) (h_s : (s).kept wq = true) :
    (openWindow r j s).kept wq = true := by
  grind [openWindow, !(State.complete_kept (wq := wq)), !(State.hostOp_kept (wq := wq)), !(State.setWindow_kept (wq :=
      wq))]

theorem closeWindow_kept {wq : List Instr} (r : Fin 256) (j : Nat) (s : State) (h_s : (s).kept wq = true) :
    (closeWindow r j s).kept wq = true := by
  grind [closeWindow, !(State.complete_kept (wq := wq)), !(State.setBusy_kept (wq := wq)), !(State.hostOp_kept (wq :=
      wq)), Seqr.reset_kept, !(State.setWindow_kept (wq := wq))]

theorem windowRequest_kept {wq : List Instr} (p : Packet) (s : State) (h_s : (s).kept wq = true) :
    (windowRequest p s).kept wq = true := by
  grind [windowRequest, !(State.hostWrite_kept (wq := wq)), !(State.land_kept (wq := wq)), !(State.dropAt_kept (wq :=
      wq)), !(State.nakFrom_kept (wq := wq)), !(State.ioCheck_kept (wq := wq)), !(State.ackNow_kept (wq := wq)),
      !(State.setWindow_kept (wq := wq)), !(kept_eq (wq := wq))]

theorem readCompletion_kept {wq : List Instr} (n : Nat) (h : HostRead) (s : State) (h_s : (s).kept wq = true) :
    (readCompletion n h s).kept wq = true := by
  grind [readCompletion, !(State.complete_kept (wq := wq)), Seqr.reset_kept, !(State.answerRead_kept (wq := wq)),
      !(State.setWindow_kept (wq := wq)), !(kept_eq (wq := wq))]

theorem mcastGroupSet_kept {wq : List Instr} (r : Fin 256) (j : Nat) (h : HostRead) (s : State) (h_s : (s).kept wq =
    true) :
    (mcastGroupSet r j h s).kept wq = true := by
  unfold mcastGroupSet
  dsimp only
  (repeat' split) <;> grind [!(State.complete_kept (wq := wq)), !(State.hostOp_kept (wq := wq)), !(State.gateOp_kept
      (wq := wq)), !(State.installGroup_kept (wq := wq)), !(kept_eq (wq := wq)), coreMemsOk_eq, wf_eq, !(foldl_kept
      (wq := wq)), foldl_keptC, foldl_keptE, coresOk_set, stksOk_set, hostOk_hostWrites, core_reset_kept,
      stack_reset_kept, EccMem.zero_kept]

theorem State.putEntry_kept {wq : List Instr} (s : State) (v : Bool) (table : Nat) (k : SiteId) (i : Nat) (e : Nat)
    (h_s : (s).kept wq = true) :
    (State.putEntry s v table k i e).kept wq = true := by
  unfold State.putEntry
  grind [!(State.setCore_kept (wq := wq)), !(State.setRouter_kept (wq := wq)), !(kept_eq (wq := wq))]

theorem tableWrite_kept {wq : List Instr} (r : Fin 256) (j : Nat) (h : HostRead) (s : State) (h_s : (s).kept wq =
    true) :
    (tableWrite r j h s).kept wq = true := by
  refine State.hostOp_kept _ _ _ _ _ h_s ?_
  intro req d t ht
  refine State.gateOp_kept _ _ _ _ ht ?_
  intro t ht
  have c : ∀ n m, (t.complete req n m).kept wq = true := fun n m => State.complete_kept _ _ _ _ _ ht
  extract_lets v table count x y index n
  split
  · exact c _ _
  split
  · exact c _ _
  split
  · exact c _ _
  · extract_lets es
    split
    · exact ht
    split
    · exact c _ _
    split
    · exact c _ _
    split
    · exact c _ _
    split
    · exact c _ _
    · exact State.complete_kept _ _ _ _ _ (State.setResult_kept _ _ (foldl_kept _ _ _ ht fun s x hs =>
        State.putEntry_kept _ _ _ _ _ _ hs))

theorem queuePeek_kept {wq : List Instr} (r : Fin 256) (j : Nat) (s : State) (h_s : (s).kept wq = true) :
    (queuePeek r j s).kept wq = true := by
  grind [queuePeek, !(State.hostWrite_kept (wq := wq)), !(State.complete_kept (wq := wq)), Core.wakeFor_kept,
      !(State.hostOp_kept (wq := wq)), !(State.wakeFor_kept (wq := wq))]

end Sys2Proof.Machine
end

