-- ==== Sys2Proof/Laws/KeepAgree.lean ====
section
/-!
SUPPORT. What each operation of Machine/Agree.lean keeps: the canonical form of every memory, and the queue of waiting
commands.
-/

namespace Sys2Proof.Machine

set_option maxRecDepth 2000

theorem State.retarget_kept {wq : List Instr} (s : State) (h_s : (s).kept wq = true) :
    (State.retarget s).kept wq = true := by
  grind [State.retarget, !(kept_eq (wq := wq))]

theorem State.freqNext_kept {wq : List Instr} (s : State) (h_s : (s).kept wq = true) :
    (State.freqNext s).kept wq = true := by
  grind [State.freqNext, !(kept_eq (wq := wq))]

theorem State.passSet_kept {wq : List Instr} (s : State) (job : BitVec 16) (mhz : BitVec 16) (sq : BitVec 16) (at_ :
    DWord) (h_s : (s).kept wq = true) :
    (State.passSet s job mhz sq at_).kept wq = true := by
  grind [State.passSet, !(State.lntSend_kept (wq := wq)), !(kept_eq (wq := wq)), coreMemsOk_eq, wf_eq, !(foldl_kept
      (wq := wq)), foldl_keptC, foldl_keptE, coresOk_set, stksOk_set, hostOk_hostWrites, core_reset_kept,
      stack_reset_kept, EccMem.zero_kept]

theorem State.keepSet_kept {wq : List Instr} (s : State) (mhz : Nat) (at_ : DWord) (h_s : (s).kept wq = true) :
    (State.keepSet s mhz at_).kept wq = true := by
  grind [State.keepSet, !(kept_eq (wq := wq))]

theorem State.reportLimit_kept {wq : List Instr} (s : State) (urgent : Bool) (h_s : (s).kept wq = true) :
    (State.reportLimit s urgent).kept wq = true := by
  grind [State.reportLimit, !(State.lntSend_kept (wq := wq)), !(State.freqNext_kept (wq := wq)), !(State.passSet_kept
      (wq := wq)), !(State.keepSet_kept (wq := wq))]

theorem State.setLimit_kept {wq : List Instr} (s : State) (i : Nat) (f : Nat) (h_s : (s).kept wq = true) :
    (State.setLimit s i f).kept wq = true := by
  grind [State.setLimit, !(State.retarget_kept (wq := wq)), !(State.reportLimit_kept (wq := wq)), !(kept_eq (wq :=
      wq))]

theorem freqAgreeTimer_kept {wq : List Instr} (s : State) (h_s : (s).kept wq = true) :
    (freqAgreeTimer s).kept wq = true := by
  grind [freqAgreeTimer, !(State.reportLimit_kept (wq := wq))]

theorem freqLimit_kept {wq : List Instr} (l : Nat) (job : BitVec 16) (mhz : BitVec 16) (sq : BitVec 16) (urgent :
    Bool) (s : State) (h_s : (s).kept wq = true) :
    (freqLimit l job mhz sq urgent s).kept wq = true := by
  grind [freqLimit, !(State.lntSend_kept (wq := wq)), !(State.reportLimit_kept (wq := wq)), !(kept_eq (wq := wq))]

theorem freqSet_kept {wq : List Instr} (l : Nat) (job : BitVec 16) (mhz : BitVec 16) (sq : BitVec 16) (at_ : DWord) (s
    : State) (h_s : (s).kept wq = true) :
    (freqSet l job mhz sq at_ s).kept wq = true := by
  grind [freqSet, !(State.passSet_kept (wq := wq)), !(State.keepSet_kept (wq := wq))]

theorem freqSetApply_kept {wq : List Instr} (s : State) (h_s : (s).kept wq = true) :
    (freqSetApply s).kept wq = true := by
  grind [freqSetApply, !(State.retarget_kept (wq := wq)), !(kept_eq (wq := wq))]

theorem freqSetTimeout_kept {wq : List Instr} (s : State) (h_s : (s).kept wq = true) :
    (freqSetTimeout s).kept wq = true := by
  grind [freqSetTimeout, !(State.retarget_kept (wq := wq)), !(kept_eq (wq := wq))]

theorem State.writeJob_kept {wq : List Instr} (s : State) (v : Word) (h_s : (s).kept wq = true) :
    (State.writeJob s v).kept wq = true := by
  grind [State.writeJob, !(State.setBar_kept (wq := wq)), !(State.retarget_kept (wq := wq)), !(kept_eq (wq := wq))]

theorem State.setTime_kept {wq : List Instr} (s : State) (v : Word) (h_s : (s).kept wq = true) :
    (State.setTime s v).kept wq = true := by
  grind [State.setTime, !(State.setBar_kept (wq := wq))]

theorem timeSyncTimer_kept {wq : List Instr} (s : State) (h_s : (s).kept wq = true) :
    (timeSyncTimer s).kept wq = true := by
  grind [timeSyncTimer, !(State.lntSend_kept (wq := wq)), !(kept_eq (wq := wq))]

theorem timeReq_kept {wq : List Instr} (l : Nat) (_t1 : DWord) (t3 : DWord) (s : State) (h_s : (s).kept wq = true) :
    (timeReq l _t1 t3 s).kept wq = true := by
  grind [timeReq, !(State.lntSend_kept (wq := wq))]

theorem timeRsp_kept {wq : List Instr} (l : Nat) (t1 : DWord) (t2 : DWord) (d : Word) (t4 : DWord) (s : State) (h_s :
    (s).kept wq = true) :
    (timeRsp l t1 t2 d t4 s).kept wq = true := by
  grind [timeRsp, !(State.setTime_kept (wq := wq)), !(kept_eq (wq := wq))]

theorem timeRspTimeout_kept {wq : List Instr} (s : State) (h_s : (s).kept wq = true) :
    (timeRspTimeout s).kept wq = true := by
  grind [timeRspTimeout, !(State.setTime_kept (wq := wq)), !(kept_eq (wq := wq))]

theorem sbarArrive_kept {wq : List Instr} (l : Nat) (b : BitVec 14) (sense : Bool) (s : State) (h_s : (s).kept wq =
    true) :
    (sbarArrive l b sense s).kept wq = true := by
  grind [sbarArrive, !(State.sbarMark_kept (wq := wq))]

theorem sbarRelease_kept {wq : List Instr} (l : Nat) (b : BitVec 14) (sense : Bool) (s : State) (h_s : (s).kept wq =
    true) :
    (sbarRelease l b sense s).kept wq = true := by
  grind [sbarRelease, !(State.sbarFree_kept (wq := wq))]

theorem State.sbarRetry_kept {wq : List Instr} (s : State) (h_s : (s).kept wq = true) :
    (State.sbarRetry s).kept wq = true := by
  grind [State.sbarRetry, !(State.sbarMark_kept (wq := wq)), !(kept_eq (wq := wq)), coreMemsOk_eq, wf_eq, !(foldl_kept
      (wq := wq)), foldl_keptC, foldl_keptE, coresOk_set, stksOk_set, hostOk_hostWrites, core_reset_kept,
      stack_reset_kept, EccMem.zero_kept]

end Sys2Proof.Machine
end

