-- ==== Sys2Proof/Laws/KeepLantern.lean ====
section
/-!
SUPPORT. What each operation of Machine/Lantern.lean keeps: the canonical form of every memory, and the queue of waiting
commands.
-/

namespace Sys2Proof.Machine

set_option Elab.async false

set_option maxRecDepth 2000

theorem State.addLnt_kept {wq : List Instr} (s : State) (l : Nat) (off : Nat) (n : Nat) (h_s : (s).kept wq = true) :
    (State.addLnt s l off n).kept wq = true := by
  grind [State.addLnt, !(State.bumpBar_kept (wq := wq))]

theorem State.linksReady_kept {wq : List Instr} (s : State) (h_s : (s).kept wq = true) :
    (State.linksReady s).kept wq = true := by
  grind [State.linksReady, !(State.setBar_kept (wq := wq))]

theorem State.noteTrain_kept {wq : List Instr} (s : State) (l : Nat) (width : Nat) (cause : Nat) (bad : BitVec 16)
    (h_s : (s).kept wq = true) :
    (State.noteTrain s l width cause bad).kept wq = true := by
  grind [State.noteTrain, !(kept_eq (wq := wq))]

theorem State.noteLeave_kept {wq : List Instr} (s : State) (l : Nat) (h_s : (s).kept wq = true) :
    (State.noteLeave s l).kept wq = true := by
  grind [State.noteLeave, !(kept_eq (wq := wq))]

theorem State.noteLntUe_kept {wq : List Instr} (s : State) (l : Nat) (h_s : (s).kept wq = true) :
    (State.noteLntUe s l).kept wq = true := by
  grind [State.noteLntUe, !(kept_eq (wq := wq))]

theorem State.leaveUp_kept {wq : List Instr} (s : State) (l : Nat) (st : Nat) (cause : Nat) (tag : Bool) (h_s :
    (s).kept wq = true) :
    (State.leaveUp s l st cause tag).kept wq = true := by
  grind [State.leaveUp, !(State.setLantern_kept (wq := wq)), !(State.raise_kept (wq := wq)), !(State.noteRisk_kept (wq
      := wq)), !(State.complete_kept (wq := wq)), !(State.testDone_kept (wq := wq)), !(State.addLnt_kept (wq :=
      wq)), !(State.noteLeave_kept (wq := wq))]

theorem State.stopLink_kept {wq : List Instr} (s : State) (l : Nat) (st : Nat) (cause : Nat) (h_s : (s).kept wq =
    true) :
    (State.stopLink s l st cause).kept wq = true := by
  grind [State.stopLink, !(State.setLantern_kept (wq := wq))]

theorem State.linkResetDone_kept {wq : List Instr} (s : State) (l : Nat) (h_s : (s).kept wq = true) :
    (State.linkResetDone s l).kept wq = true := by
  grind [State.linkResetDone, !(State.setLantern_kept (wq := wq)), !(State.completeOpt_kept (wq := wq))]

theorem State.trainDown_kept {wq : List Instr} (s : State) (l : Nat) (cause : Nat) (bad : BitVec 16) (event : Bool)
    (h_s : (s).kept wq = true) :
    (State.trainDown s l cause bad event).kept wq = true := by
  grind [State.trainDown, !(State.raise_kept (wq := wq)), !(State.linksReady_kept (wq := wq)), !(State.noteTrain_kept
      (wq := wq)), !(State.stopLink_kept (wq := wq)), !(State.linkResetDone_kept (wq := wq))]

theorem State.trainUp_kept {wq : List Instr} (s : State) (l : Nat) (g : Nat × Nat) (i : PeerInfo) (enc : Bool) (bad :
    BitVec 16) (h_s : (s).kept wq = true) :
    (State.trainUp s l g i enc bad).kept wq = true := by
  grind [State.trainUp, !(State.setLantern_kept (wq := wq)), !(State.raise_kept (wq := wq)), !(State.retarget_kept (wq
      := wq)), !(State.sbarRetry_kept (wq := wq)), !(State.linksReady_kept (wq := wq)), !(State.noteTrain_kept (wq
      := wq)), !(State.linkResetDone_kept (wq := wq))]

theorem lanternTrainDone_kept {wq : List Instr} (l : Nat) (o : TrainObs) (s : State) (h_s : (s).kept wq = true) :
    (lanternTrainDone l o s).kept wq = true := by
  grind [lanternTrainDone, !(State.setLantern_kept (wq := wq)), !(State.trainDown_kept (wq := wq)),
      !(State.trainUp_kept (wq := wq))]

theorem lanternAutoRetrain_kept {wq : List Instr} (l : Nat) (s : State) (h_s : (s).kept wq = true) :
    (lanternAutoRetrain l s).kept wq = true := by
  grind [lanternAutoRetrain, !(State.setLantern_kept (wq := wq))]

theorem lanternSignalLoss_kept {wq : List Instr} (l : Nat) (s : State) (h_s : (s).kept wq = true) :
    (lanternSignalLoss l s).kept wq = true := by
  grind [lanternSignalLoss, !(State.leaveUp_kept (wq := wq)), !(State.stopLink_kept (wq := wq))]

theorem State.countNak_kept {wq : List Instr} (s : State) (l : Nat) (h_s : (s).kept wq = true) :
    (State.countNak s l).kept wq = true := by
  grind [State.countNak, !(State.setLantern_kept (wq := wq)), !(State.leaveUp_kept (wq := wq)), !(State.stopLink_kept
      (wq := wq))]

theorem State.countTag_kept {wq : List Instr} (s : State) (l : Nat) (h_s : (s).kept wq = true) :
    (State.countTag s l).kept wq = true := by
  grind [State.countTag, !(State.setLantern_kept (wq := wq)), !(State.leaveUp_kept (wq := wq)), !(State.stopLink_kept
      (wq := wq))]

theorem State.dropFlit_kept {wq : List Instr} (s : State) (l : Nat) (h_s : (s).kept wq = true) :
    (State.dropFlit s l).kept wq = true := by
  grind [State.dropFlit, !(State.setLantern_kept (wq := wq)), !(State.lntSend_kept (wq := wq)), !(State.countNak_kept
      (wq := wq))]

theorem State.takeFlit_kept {wq : List Instr} (s : State) (l : Nat) (f : Flit) (h_s : (s).kept wq = true) :
    (State.takeFlit s l f).kept wq = true := by
  grind [State.takeFlit, !(State.setLantern_kept (wq := wq)), Core.add64_kept, !(State.add64_kept (wq := wq)),
      !(State.dropFlit_kept (wq := wq))]

theorem flitReceive_kept {wq : List Instr} (l : Nat) (f : Flit) (ok : FlitCheck) (s : State) (h_s : (s).kept wq =
    true) :
    (flitReceive l f ok s).kept wq = true := by
  unfold flitReceive
  grind [!(State.addLnt_kept (wq := wq)), !(State.noteLntUe_kept (wq := wq)), !(State.countTag_kept (wq := wq)),
      !(State.dropFlit_kept (wq := wq)), !(State.takeFlit_kept (wq := wq)), !(kept_eq (wq := wq))]

theorem flitReplay_kept {wq : List Instr} (l : Nat) (ackSeq : BitVec 12) (s : State) (h_s : (s).kept wq = true) :
    (flitReplay l ackSeq s).kept wq = true := by
  grind [flitReplay, !(State.setLantern_kept (wq := wq)), Core.add64_kept, !(State.add64_kept (wq := wq)),
      !(State.addLnt_kept (wq := wq)), !(State.countNak_kept (wq := wq))]

theorem State.sendFlit_kept {wq : List Instr} (s : State) (l : Nat) (h_s : (s).kept wq = true) :
    (State.sendFlit s l).kept wq = true := by
  grind [State.sendFlit, !(State.setLantern_kept (wq := wq)), Core.add64_kept, !(State.add64_kept (wq := wq))]

theorem State.noteAdmitted_kept {wq : List Instr} (s : State) (n : Nat) (p : Packet) (h_s : (s).kept wq = true) :
    (State.noteAdmitted s n p).kept wq = true := by
  grind [State.noteAdmitted, !(State.unadmit_kept (wq := wq)), !(kept_eq (wq := wq))]

theorem State.refuseIn_kept {wq : List Instr} (s : State) (k : SiteId) (p : Packet) (code : Byte) (h_s : (s).kept wq =
    true) :
    (State.refuseIn s k p code).kept wq = true := by
  grind [State.refuseIn, !(State.routerRefuse_kept (wq := wq))]

theorem State.ingress_kept {wq : List Instr} (s : State) (k : SiteId) (hops : BitVec 4) (p : Packet) (h_s : (s).kept
    wq = true) :
    (State.ingress s k hops p).kept wq = true := by
  grind [State.ingress, !(State.fly_kept (wq := wq)), !(State.refuse_kept (wq := wq)), !(State.refuseIn_kept (wq :=
      wq))]

theorem jendexIngress_kept {wq : List Instr} (l : Nat) (hops : BitVec 4) (p : Packet) (s : State) (h_s : (s).kept wq =
    true) :
    (jendexIngress l hops p s).kept wq = true := by
  unfold jendexIngress
  dsimp only
  (repeat' split) <;> grind [!(State.addLnt_kept (wq := wq)), !(State.noteAdmitted_kept (wq := wq)),
      !(State.refuseIn_kept (wq := wq)), !(State.ingress_kept (wq := wq)), !(kept_eq (wq := wq)), coreMemsOk_eq,
      wf_eq, !(foldl_kept (wq := wq)), foldl_keptC, foldl_keptE, coresOk_set, stksOk_set, hostOk_hostWrites,
      core_reset_kept, stack_reset_kept, EccMem.zero_kept]

theorem peerInfo_kept {wq : List Instr} (l : Nat) (i : PeerInfo) (s : State) (h_s : (s).kept wq = true) :
    (peerInfo l i s).kept wq = true := by
  grind [peerInfo, !(State.setLantern_kept (wq := wq)), !(State.leaveUp_kept (wq := wq)), !(State.trainDown_kept (wq
      := wq))]

theorem State.restage_kept {wq : List Instr} (s : State) (l : Nat) (w : Nat) (h_s : (s).kept wq = true) :
    (State.restage s l w).kept wq = true := by
  grind [State.restage, !(State.askFlip_kept (wq := wq)), !(kept_eq (wq := wq))]

theorem lanternRestage_kept {wq : List Instr} (l : Nat) (s : State) (h_s : (s).kept wq = true) :
    (lanternRestage l s).kept wq = true := by
  grind [lanternRestage, !(State.restage_kept (wq := wq))]

theorem linkQuiesce_kept {wq : List Instr} (l : Nat) (s : State) (h_s : (s).kept wq = true) :
    (linkQuiesce l s).kept wq = true := by
  grind [linkQuiesce, !(State.restage_kept (wq := wq))]

theorem State.quiesceLantern_kept {wq : List Instr} (s : State) (l : Nat) (engine : Bool) (h_s : (s).kept wq = true) :
    (State.quiesceLantern s l engine).kept wq = true := by
  grind [State.quiesceLantern, !(State.lntSend_kept (wq := wq)), !(State.leaveUp_kept (wq := wq))]

theorem lanternQuiesceEnd_kept {wq : List Instr} (l : Nat) (s : State) (h_s : (s).kept wq = true) :
    (lanternQuiesceEnd l s).kept wq = true := by
  grind [lanternQuiesceEnd, !(State.stopLink_kept (wq := wq))]

theorem State.resetOp_kept {wq : List Instr} (s : State) (r : Fin 256) (j : Nat) (kind : Nat) (go : Nat × Nat → Desc →
    State → State) (h_s : (s).kept wq = true) (h_go : ∀ x0 x1 x2, (x2).kept wq = true → (go x0 x1 x2).kept wq = true)
    :
    (State.resetOp s r j kind go).kept wq = true := by
  grind [State.resetOp, !(State.complete_kept (wq := wq)), !(State.hostOp_kept (wq := wq))]

theorem resetLink_kept {wq : List Instr} (r : Fin 256) (j : Nat) (s : State) (h_s : (s).kept wq = true) :
    (resetLink r j s).kept wq = true := by
  grind [resetLink, !(State.setLantern_kept (wq := wq)), !(State.complete_kept (wq := wq)), !(State.setBusy_kept (wq
      := wq)), !(State.stopLink_kept (wq := wq)), !(State.quiesceLantern_kept (wq := wq)), !(State.resetOp_kept (wq
      := wq))]

theorem linkRecal_kept {wq : List Instr} (r : Fin 256) (j : Nat) (s : State) (h_s : (s).kept wq = true) :
    (linkRecal r j s).kept wq = true := by
  grind [linkRecal, !(State.setLantern_kept (wq := wq)), !(State.complete_kept (wq := wq)), !(State.setBusy_kept (wq
      := wq)), !(State.testOp_kept (wq := wq))]

theorem linkRecalDone_kept {wq : List Instr} (l : Nat) (ok : Bool) (s : State) (h_s : (s).kept wq = true) :
    (linkRecalDone l ok s).kept wq = true := by
  grind [linkRecalDone, !(State.setLantern_kept (wq := wq)), !(State.complete_kept (wq := wq)), !(State.testDone_kept
      (wq := wq))]

theorem keyRenew_kept {wq : List Instr} (l : Nat) (s : State) (h_s : (s).kept wq = true) :
    (keyRenew l s).kept wq = true := by
  grind [keyRenew, !(State.setLantern_kept (wq := wq))]

theorem lntFwdGo_kept {wq : List Instr} (v : Word) (s : State) (h_s : (s).kept wq = true) :
    (lntFwdGo v s).kept wq = true := by
  grind [lntFwdGo, EccMem.put_kept, !(State.setBar_kept (wq := wq)), !(State.setResult_kept (wq := wq)),
      !(State.barAccess_kept (wq := wq)), !(kept_eq (wq := wq))]

theorem lntSysIdWrite_kept {wq : List Instr} (v : Word) (s : State) (h_s : (s).kept wq = true) :
    (lntSysIdWrite v s).kept wq = true := by
  grind [lntSysIdWrite, !(State.setBar_kept (wq := wq)), !(State.barAccess_kept (wq := wq))]

theorem lntRwinWrite_kept {wq : List Instr} (n : Nat) (w : Nat) (v : Word) (s : State) (h_s : (s).kept wq = true) :
    (lntRwinWrite n w v s).kept wq = true := by
  grind [lntRwinWrite, !(State.setBar_kept (wq := wq)), !(State.barAccess_kept (wq := wq))]

end Sys2Proof.Machine
end

