-- ==== Sys2Proof/Laws/KeepClock.lean ====
section
/-!
SUPPORT. What each operation of Machine/Clock.lean keeps: the canonical form of every memory, and the queue of waiting
commands.
-/

namespace Sys2Proof.Machine

set_option Elab.async false

set_option maxRecDepth 2000

theorem State.clkBit_kept {wq : List Instr} (s : State) (i : Nat) (b : Bool) (h_s : (s).kept wq = true) :
    (State.clkBit s i b).kept wq = true := by
  grind [State.clkBit, !(State.setBar_kept (wq := wq))]

theorem State.loseStarted_kept {wq : List Instr} (s : State) (h_s : (s).kept wq = true) :
    (State.loseStarted s).kept wq = true := by
  grind [State.loseStarted, Seqr.reset_kept, !(kept_eq (wq := wq))]

theorem State.dropXchk_kept {wq : List Instr} (s : State) (h_s : (s).kept wq = true) :
    (State.dropXchk s).kept wq = true := by
  grind [State.dropXchk, !(State.setArea_kept (wq := wq)), !(kept_eq (wq := wq)), coreMemsOk_eq, wf_eq, !(foldl_kept
      (wq := wq)), foldl_keptC, foldl_keptE, coresOk_set, stksOk_set, hostOk_hostWrites, core_reset_kept,
      stack_reset_kept, EccMem.zero_kept]

theorem Core.park_kept (c : Core) (h_c : (c).memsOk = true) :
    (Core.park c).memsOk = true := by
  grind [Core.park, Core.setReg_kept, Core.setBank_kept, Core.stopEngines_kept, Core.marchAbort_kept, coreMemsOk_eq,
      wf_eq, foldl_keptC, foldl_keptE, coresOk_set, stksOk_set, hostOk_hostWrites, core_reset_kept,
      stack_reset_kept, EccMem.zero_kept]

theorem State.parkCores_kept {wq : List Instr} (s : State) (h_s : (s).kept wq = true) :
    (State.parkCores s).kept wq = true := by
  unfold State.parkCores
  refine foldl_kept _ _ _ h_s fun t i h => ?_
  dsimp only
  split
  · exact State.setCore_kept _ _ _ h (Core.park_kept _ (State.core_kept _ _ h))
  · exact h

theorem State.dropLanterns_kept {wq : List Instr} (s : State) (h_s : (s).kept wq = true) :
    (State.dropLanterns s).kept wq = true := by
  grind [State.dropLanterns, !(State.setLantern_kept (wq := wq)), !(State.leaveUp_kept (wq := wq)),
      !(State.stopLink_kept (wq := wq)), !(kept_eq (wq := wq)), coreMemsOk_eq, wf_eq, !(foldl_kept (wq := wq)),
      foldl_keptC, foldl_keptE, coresOk_set, stksOk_set, hostOk_hostWrites, core_reset_kept, stack_reset_kept,
      EccMem.zero_kept]

theorem State.park_kept {wq : List Instr} (s : State) (h_s : (s).kept wq = true) :
    (State.park s).kept wq = true := by
  have h := State.parkCores_kept s h_s
  unfold State.park
  generalize s.parkCores = t at *
  grind [!(State.setDome_kept (wq := wq)), !(State.clkBit_kept (wq := wq)), !(State.loseStarted_kept (wq := wq)),
      !(State.dropXchk_kept (wq := wq)), !(State.dropLanterns_kept (wq := wq)), !(kept_eq (wq := wq)),
      !(foldl_kept (wq := wq))]

theorem State.refLost_kept {wq : List Instr} (s : State) (stop : Bool) (h_s : (s).kept wq = true) :
    (State.refLost s stop).kept wq = true := by
  grind [State.refLost, !(State.raise_kept (wq := wq)), !(State.logRec_kept (wq := wq)), !(linkDown_kept (wq := wq)),
      !(State.clkBit_kept (wq := wq)), !(State.dropXchk_kept (wq := wq)), !(kept_eq (wq := wq))]

theorem refWindowEnd_kept {wq : List Instr} (ppm : Int) (s : State) (h_s : (s).kept wq = true) :
    (refWindowEnd ppm s).kept wq = true := by
  grind [refWindowEnd, !(State.setBar_kept (wq := wq)), !(State.clkBit_kept (wq := wq)), !(State.refLost_kept (wq :=
      wq))]

theorem refStopped_kept {wq : List Instr} (s : State) (h_s : (s).kept wq = true) :
    (refStopped s).kept wq = true := by
  grind [refStopped, !(State.clkBit_kept (wq := wq)), !(State.refLost_kept (wq := wq))]

theorem freqRampStep_kept {wq : List Instr} (s : State) (h_s : (s).kept wq = true) :
    (freqRampStep s).kept wq = true := by
  grind [freqRampStep, !(kept_eq (wq := wq))]

theorem State.emergency_kept {wq : List Instr} (s : State) (i : Nat) (amount : Nat) (h_s : (s).kept wq = true) :
    (State.emergency s i amount).kept wq = true := by
  grind [State.emergency, !(State.setLimit_kept (wq := wq))]

theorem State.lowerLimit_kept {wq : List Instr} (s : State) (i : Nat) (h_s : (s).kept wq = true) :
    (State.lowerLimit s i).kept wq = true := by
  grind [State.lowerLimit, !(State.setLimit_kept (wq := wq))]

theorem State.raiseLimit_kept {wq : List Instr} (s : State) (i : Nat) (h_s : (s).kept wq = true) :
    (State.raiseLimit s i).kept wq = true := by
  grind [State.raiseLimit, !(State.setLimit_kept (wq := wq))]

theorem State.runOf_kept {wq : List Instr} (s : State) (key : Nat) (cond : Bool) (h_s : (s).kept wq = true) :
    ((State.runOf s key cond).2).kept wq = true := by
  grind [State.runOf, !(kept_eq (wq := wq))]

theorem State.everyTicks_kept {wq : List Instr} (s : State) (key : Nat) (n : Nat) (cond : Bool) (act : State → State)
    (h_s : (s).kept wq = true) (h_act : ∀ x0, (x0).kept wq = true → (act x0).kept wq = true) :
    (State.everyTicks s key n cond act).kept wq = true := by
  grind [State.everyTicks, !(State.runOf_kept (wq := wq))]

theorem State.stretchNow_kept {wq : List Instr} (s : State) (h_s : (s).kept wq = true) :
    (State.stretchNow s).kept wq = true := by
  grind [State.stretchNow, !(State.noteRisk_kept (wq := wq)), !(kept_eq (wq := wq))]

theorem droopTrip_kept {wq : List Instr} (a : Nat) (s : State) (h_s : (s).kept wq = true) :
    (droopTrip a s).kept wq = true := by
  grind [droopTrip, !(State.setAreaRec_kept (wq := wq)), !(State.emergency_kept (wq := wq)), !(State.stretchNow_kept
      (wq := wq))]

theorem droopLimitTick_kept {wq : List Instr} (s : State) (h_s : (s).kept wq = true) :
    (droopLimitTick s).kept wq = true := by
  grind [droopLimitTick, !(State.raiseLimit_kept (wq := wq)), !(kept_eq (wq := wq))]

theorem domeIdleEntry_kept {wq : List Instr} (d : Nat) (s : State) (h_s : (s).kept wq = true) :
    (domeIdleEntry d s).kept wq = true := by
  grind [domeIdleEntry, !(State.setDome_kept (wq := wq))]

theorem domeWakeDone_kept {wq : List Instr} (d : Nat) (s : State) (h_s : (s).kept wq = true) :
    (domeWakeDone d s).kept wq = true := by
  grind [domeWakeDone, !(State.setDome_kept (wq := wq))]

theorem clkHoldWrite_kept {wq : List Instr} (v : Word) (s : State) (h_s : (s).kept wq = true) :
    (clkHoldWrite v s).kept wq = true := by
  grind [clkHoldWrite, !(State.setBar_kept (wq := wq)), !(State.barAccess_kept (wq := wq)), !(State.wakeDome_kept (wq
      := wq)), !(State.abortXchk_kept (wq := wq)), !(kept_eq (wq := wq)), coreMemsOk_eq, wf_eq, !(foldl_kept (wq :=
      wq)), foldl_keptC, foldl_keptE, coresOk_set, stksOk_set, hostOk_hostWrites, core_reset_kept, stack_reset_kept,
      EccMem.zero_kept]

end Sys2Proof.Machine
end

