-- ==== Sys2Proof/Laws/KeepPower.lean ====
section
/-!
SUPPORT. What each operation of Machine/Power.lean keeps: the canonical form of every memory, and the queue of waiting
commands.
-/

namespace Sys2Proof.Machine

set_option Elab.async false

set_option maxRecDepth 2000

theorem State.fatalStop_kept {wq : List Instr} (s : State) (cls : Nat) (cause : Nat) (h_s : (s).kept wq = true) :
    (State.fatalStop s cls cause).kept wq = true := by
  grind [State.fatalStop, !(State.raise_kept (wq := wq)), !(State.logRec_kept (wq := wq)), !(State.dropXchk_kept (wq
      := wq)), !(kept_eq (wq := wq))]

theorem State.loseArea_kept {wq : List Instr} (s : State) (a : Nat) (h_s : (s).kept wq = true) :
    (State.loseArea s a).kept wq = true := by
  have g : ∀ (t : State) (p : Nat × Core → Bool) (r : Tbl Router) (f f' : Fab), t.kept wq = true →
      State.kept wq { ({ t with cores := t.cores.filter p, routers := r, fab := f } : State) with fab := f' } = true
          := by
    intro t p r f f' ht
    have hc : coresOk (t.cores.filter p) = true := by
      have h : coresOk t.cores = true := by grind [kept_eq]
      simp only [coresOk, List.all_eq_true, List.mem_filter] at *
      exact fun x hx => h x hx.1
    grind [kept_eq]
  exact g _ _ _ _ _ (foldl_kept _ _ _ h_s fun s x hs => State.fenceFault_kept _ _ _ (State.marchStop_kept _ _ hs))

theorem State.fenceAnew_kept {wq : List Instr} (s : State) (h_s : (s).kept wq = true) :
    (State.fenceAnew s).kept wq = true := by
  grind [State.fenceAnew, !(State.mapCores_kept (wq := wq)), !(State.beginFence_kept (wq := wq)), !(kept_eq (wq :=
      wq)), coreMemsOk_eq, wf_eq, !(foldl_kept (wq := wq)), foldl_keptC, foldl_keptE, coresOk_set, stksOk_set,
      hostOk_hostWrites, core_reset_kept, stack_reset_kept, EccMem.zero_kept]

theorem State.latchArea_kept {wq : List Instr} (s : State) (a : Nat) (h_s : (s).kept wq = true) :
    (State.latchArea s a).kept wq = true := by
  grind [State.latchArea, !(State.setSite_kept (wq := wq)), !(State.setAreaRec_kept (wq := wq)), !(kept_eq (wq :=
      wq)), coreMemsOk_eq, wf_eq, !(foldl_kept (wq := wq)), foldl_keptC, foldl_keptE, coresOk_set, stksOk_set,
      hostOk_hostWrites, core_reset_kept, stack_reset_kept, EccMem.zero_kept]

theorem areaTrip_kept {wq : List Instr} (a : Nat) (s : State) (h_s : (s).kept wq = true) :
    (areaTrip a s).kept wq = true := by
  unfold areaTrip
  dsimp only
  (repeat' split) <;> grind [!(State.setArea_kept (wq := wq)), !(State.raise_kept (wq := wq)), !(State.bumpBar_kept
      (wq := wq)), !(State.setAreaRec_kept (wq := wq)), !(State.logRec_kept (wq := wq)), !(State.epochBit_kept (wq
      := wq)), !(State.endXchk_kept (wq := wq)), !(State.fatalStop_kept (wq := wq)), !(State.loseArea_kept (wq :=
      wq)), !(State.fenceAnew_kept (wq := wq)), !(State.latchArea_kept (wq := wq)), !(kept_eq (wq := wq)),
      coreMemsOk_eq, wf_eq, !(foldl_kept (wq := wq)), foldl_keptC, foldl_keptE, coresOk_set, stksOk_set,
      hostOk_hostWrites, core_reset_kept, stack_reset_kept, EccMem.zero_kept]

theorem areaRetry_kept {wq : List Instr} (a : Nat) (s : State) (h_s : (s).kept wq = true) :
    (areaRetry a s).kept wq = true := by
  grind [areaRetry, !(State.setArea_kept (wq := wq)), !(State.setAreaRec_kept (wq := wq)), !(State.logRec_kept (wq :=
      wq))]

theorem areaRetryDone_kept {wq : List Instr} (a : Nat) (s : State) (h_s : (s).kept wq = true) :
    (areaRetryDone a s).kept wq = true := by
  grind [areaRetryDone, !(State.setArea_kept (wq := wq)), !(State.applyFence_kept (wq := wq)),
      !(State.assignSpares_kept (wq := wq)), !(kept_eq (wq := wq)), coreMemsOk_eq, wf_eq, !(foldl_kept (wq := wq)),
      foldl_keptC, foldl_keptE, coresOk_set, stksOk_set, hostOk_hostWrites, core_reset_kept, stack_reset_kept,
      EccMem.zero_kept]

theorem State.powerOff_kept {wq : List Instr} (s : State) (h_s : (s).kept wq = true) :
    (State.powerOff s).kept wq = true := by
  unfold State.powerOff
  refine State.setBar_kept _ _ _ ?_
  have h : coresOk ([] : Tbl Core) = true := rfl
  have h2 : stksOk ([] : Tbl Stack) = true := rfl
  have h3 : hostOk s.host.mem = true := by grind [kept_eq]
  have h4 : qOk wq s.pending = true := by grind [kept_eq]
  simp only [kept_eq, h3, h4, Bool.true_and]
  rfl

theorem inputVoltage_kept {wq : List Instr} (mv : Nat) (us : Nat) (s : State) (h_s : (s).kept wq = true) :
    (inputVoltage mv us s).kept wq = true := by
  grind [inputVoltage, !(State.logRec_kept (wq := wq)), !(State.fatalStop_kept (wq := wq)), !(State.powerOff_kept (wq
      := wq)), !(kept_eq (wq := wq))]

theorem State.loseStacks_kept {wq : List Instr} (s : State) (h_s : (s).kept wq = true) :
    (State.loseStacks s).kept wq = true := by
  have h : stksOk (s.loseStacks).stks.tbl = true := by
    refine foldl_inv (fun t => stksOk t = true) _ _ _ rfl ?_
    intro t x ht
    exact stksOk_set _ _ _ ht stack_reset_kept
  have h1 : (s.loseStacks).host.mem = s.host.mem := rfl
  have h2 : (s.loseStacks).cores = s.cores := rfl
  have h3 : (s.loseStacks).pending = s.pending := rfl
  grind [kept_eq]

theorem State.darken_kept {wq : List Instr} (s : State) (h_s : (s).kept wq = true) :
    (State.darken s).kept wq = true := by
  unfold State.darken
  refine State.loseStacks_kept _ ?_
  have h : coresOk ([] : Tbl Core) = true := rfl
  grind [kept_eq]

theorem spireShutdown_kept {wq : List Instr} (s : State) (h_s : (s).kept wq = true) :
    (spireShutdown s).kept wq = true := by
  grind [spireShutdown, !(linkDown_kept (wq := wq)), Core.park_kept, !(State.park_kept (wq := wq)),
      !(State.darken_kept (wq := wq)), !(kept_eq (wq := wq))]

theorem pwrCapWrite_kept {wq : List Instr} (v : Word) (s : State) (h_s : (s).kept wq = true) :
    (pwrCapWrite v s).kept wq = true := by
  grind [pwrCapWrite, !(State.setBar_kept (wq := wq)), !(State.barAccess_kept (wq := wq))]

theorem chassisCapSet_kept {wq : List Instr} (w : Nat) (s : State) (h_s : (s).kept wq = true) :
    (chassisCapSet w s).kept wq = true := by
  grind [chassisCapSet, !(kept_eq (wq := wq))]

theorem State.setControl_kept {wq : List Instr} (s : State) (h_s : (s).kept wq = true) :
    (State.setControl s).kept wq = true := by
  grind [State.setControl, !(kept_eq (wq := wq))]

theorem powerCapTick_kept {wq : List Instr} (w : Nat) (s : State) (h_s : (s).kept wq = true) :
    (powerCapTick w s).kept wq = true := by
  grind [powerCapTick, !(State.emergency_kept (wq := wq)), !(State.lowerLimit_kept (wq := wq)),
      !(State.raiseLimit_kept (wq := wq)), !(State.everyTicks_kept (wq := wq)), !(State.setControl_kept (wq := wq)),
      !(kept_eq (wq := wq))]

theorem currentLimitTick_kept {wq : List Instr} (ma : Nat) (s : State) (h_s : (s).kept wq = true) :
    (currentLimitTick ma s).kept wq = true := by
  grind [currentLimitTick, !(State.emergency_kept (wq := wq)), !(State.raiseLimit_kept (wq := wq)),
      !(State.everyTicks_kept (wq := wq)), !(State.stretchNow_kept (wq := wq)), !(kept_eq (wq := wq))]

theorem activityEstimate_kept {wq : List Instr} (e : Nat) (w : Nat) (s : State) (h_s : (s).kept wq = true) :
    (activityEstimate e w s).kept wq = true := by
  grind [activityEstimate, !(State.logRec_kept (wq := wq)), !(State.setControl_kept (wq := wq)), !(kept_eq (wq :=
      wq))]

theorem sensorRead_kept {wq : List Instr} (t : List Int) (s : State) (h_s : (s).kept wq = true) :
    (sensorRead t s).kept wq = true := by
  grind [sensorRead, !(State.emergency_kept (wq := wq)), !(State.lowerLimit_kept (wq := wq)), !(State.raiseLimit_kept
      (wq := wq)), !(State.everyTicks_kept (wq := wq)), !(State.fatalStop_kept (wq := wq)), !(kept_eq (wq := wq))]

theorem energyUpdate_kept {wq : List Instr} (uj : Nat) (s : State) (h_s : (s).kept wq = true) :
    (energyUpdate uj s).kept wq = true := by
  grind [energyUpdate, Core.add64_kept, !(State.add64_kept (wq := wq))]

theorem energySnapshot_kept {wq : List Instr} (r : Fin 256) (j : Nat) (s : State) (h_s : (s).kept wq = true) :
    (energySnapshot r j s).kept wq = true := by
  grind [energySnapshot, !(State.complete_kept (wq := wq)), !(State.hostOp_kept (wq := wq)), !(State.gateOp_kept (wq
      := wq))]

end Sys2Proof.Machine
end

