-- ==== Sys2Proof/Laws/KeepReliab.lean ====
section
/-!
SUPPORT. What each operation of Machine/Reliab.lean keeps: the canonical form of every memory, and the queue of waiting
commands.
-/

namespace Sys2Proof.Machine

set_option Elab.async false

set_option maxRecDepth 2000

theorem State.borrow_kept {wq : List Instr} (s : State) (req : Option (Nat × Nat)) (a : Nat) (m : Nat) (vstep : Nat)
    (kernel : Nat) (passes : Nat) (h_s : (s).kept wq = true) :
    (State.borrow s req a m vstep kernel passes).kept wq = true := by
  grind [State.borrow, !(State.setArea_kept (wq := wq)), !(State.draw_kept (wq := wq)), !(kept_eq (wq := wq))]

theorem crossCheck_kept {wq : List Instr} (r : Fin 256) (j : Nat) (s : State) (h_s : (s).kept wq = true) :
    (crossCheck r j s).kept wq = true := by
  grind [crossCheck, !(State.complete_kept (wq := wq)), !(State.setBusy_kept (wq := wq)), !(State.testDone_kept (wq :=
      wq)), Core.wakeFor_kept, !(State.wakeFor_kept (wq := wq)), !(State.endXchk_kept (wq := wq)),
      !(State.testOp_kept (wq := wq)), !(State.borrow_kept (wq := wq))]

theorem scheduledPass_kept {wq : List Instr} (s : State) (h_s : (s).kept wq = true) :
    (scheduledPass s).kept wq = true := by
  grind [scheduledPass, Core.wakeFor_kept, !(State.wakeFor_kept (wq := wq)), !(State.borrow_kept (wq := wq))]

theorem State.chargeIn_kept {wq : List Instr} (s : State) (x : Xchk) (k : SiteId) (h_s : (s).kept wq = true) :
    ((State.chargeIn s x k).1).kept wq = true := by
  grind [State.chargeIn, !(State.charge_kept (wq := wq))]

theorem State.resolvePair_kept {wq : List Instr} (s : State) (x : Xchk) (agreed : List SiteId) (rs : List (SiteId ×
    DWord)) (p : PairSig) (h_s : (s).kept wq = true) :
    ((State.resolvePair s x agreed rs p).1).kept wq = true := by
  grind [State.resolvePair, !(State.draw_kept (wq := wq)), !(State.bumpBar_kept (wq := wq)), !(State.chargeIn_kept (wq
      := wq))]

theorem State.leaveSigs_kept {wq : List Instr} (s : State) (x : Xchk) (sites : List SiteId) (sigs : List (SiteId ×
    DWord)) (h_s : (s).kept wq = true) :
    (State.leaveSigs s x sites sigs).kept wq = true := by
  grind [State.leaveSigs, !(State.draw_kept (wq := wq)), Core.setReg_kept, !(State.modCore_kept (wq := wq)), !(kept_eq
      (wq := wq)), coreMemsOk_eq, wf_eq, !(foldl_kept (wq := wq)), foldl_keptC, foldl_keptE, coresOk_set,
      stksOk_set, hostOk_hostWrites, core_reset_kept, stack_reset_kept, EccMem.zero_kept]

theorem State.putXchk_kept {wq : List Instr} (s : State) (x : Xchk) (h_s : (s).kept wq = true) :
    (State.putXchk s x).kept wq = true := by
  grind [State.putXchk, !(kept_eq (wq := wq))]

theorem State.lastPass_kept {wq : List Instr} (s : State) (x : Xchk) (h_s : (s).kept wq = true) :
    (State.lastPass s x).kept wq = true := by
  grind [State.lastPass, !(State.releaseArea_kept (wq := wq)), !(State.closeXchk_kept (wq := wq)),
      !(State.putXchk_kept (wq := wq)), !(kept_eq (wq := wq))]

theorem State.resolvePairs_kept {wq : List Instr} (s : State) (x : Xchk) (agreed : List SiteId) (rs : List (SiteId ×
    DWord)) (ps : List PairSig) (h_s : (s).kept wq = true) :
    ((State.resolvePairs s x agreed rs ps).1).kept wq = true := by
  refine foldl_inv (fun r : State × Xchk × List (SiteId × DWord) => r.1.kept wq = true) _ _ _ h_s ?_
  intro r p hr; exact State.resolvePair_kept _ _ _ _ _ hr

theorem State.passEnd_kept {wq : List Instr} (s : State) (x : Xchk) (x' : Xchk) (anySus : Bool) (h_s : (s).kept wq =
    true) :
    (State.passEnd s x x' anySus).kept wq = true := by
  grind [State.passEnd, !(State.draw_kept (wq := wq)), !(State.setAreaRec_kept (wq := wq)), !(State.putXchk_kept (wq
      := wq)), !(State.lastPass_kept (wq := wq))]

theorem xcheckPassDone_kept {wq : List Instr} (sigs : List (SiteId × DWord)) (s : State) (h_s : (s).kept wq = true) :
    (xcheckPassDone sigs s).kept wq = true := by
  unfold xcheckPassDone
  split
  · exact h_s
  · split
    · exact h_s
    · next x hx =>
      extract_lets sites inUse good due anySus cmp s1 res open_ s2
      have h1 : s1.kept wq = true := State.leaveSigs_kept _ _ _ _ h_s
      have h2 : res.1.kept wq = true := State.resolvePairs_kept _ _ _ _ _ h1
      have h3 : s2.kept wq = true := foldl_kept _ _ _ h2 fun s k hs => State.retested_kept _ _ hs
      exact State.passEnd_kept _ _ _ _ h3

theorem State.arbSite_kept {wq : List Instr} (s : State) (x0 : Xchk) (x : Xchk) (ref : DWord) (y : SiteId × DWord)
    (h_s : (s).kept wq = true) :
    ((State.arbSite s x0 x ref y).1).kept wq = true := by
  grind [State.arbSite, !(State.retested_kept (wq := wq)), !(State.chargeIn_kept (wq := wq))]

theorem State.arbOne_kept {wq : List Instr} (s : State) (x0 : Xchk) (x : Xchk) (ref : DWord) (ys : List (SiteId ×
    DWord)) (h_s : (s).kept wq = true) :
    ((State.arbOne s x0 x ref ys).1).kept wq = true := by
  refine foldl_inv (fun r : State × Xchk => r.1.kept wq = true) _ _ _ (State.bumpBar_kept _ _ _ _ _ h_s) ?_
  intro r p hr; exact State.arbSite_kept _ _ _ _ _ hr

theorem softwareArbitrationDone_kept {wq : List Instr} (s : State) (h_s : (s).kept wq = true) :
    (softwareArbitrationDone s).kept wq = true := by
  unfold softwareArbitrationDone
  split
  · exact h_s
  · next x hx =>
    refine State.closeXchk_kept _ _ _ ?_
    refine foldl_inv (fun r : State × Xchk => r.1.kept wq = true) _ _ _ (State.kept_congr s _ rfl rfl rfl h_s) ?_
    intro r e hr
    exact State.arbOne_kept _ _ _ _ _ hr

theorem marchTest_kept {wq : List Instr} (kind : Nat) (r : Fin 256) (j : Nat) (s : State) (h_s : (s).kept wq = true) :
    (marchTest kind r j s).kept wq = true := by
  grind [marchTest, !(State.core_kept (wq := wq)), !(State.modCore_kept (wq := wq)), !(State.complete_kept (wq :=
      wq)), !(State.setBusy_kept (wq := wq)), !(State.testDone_kept (wq := wq)), Core.marchBegin_kept,
      Core.wakeFor_kept, !(State.wakeFor_kept (wq := wq)), !(State.abortXchk_kept (wq := wq)), !(State.testOp_kept
      (wq := wq))]

theorem uePreserving_kept {wq : List Instr} (k : SiteId) (s : State) (h_s : (s).kept wq = true) :
    (uePreserving k s).kept wq = true := by
  grind [uePreserving, !(State.core_kept (wq := wq)), !(State.setCore_kept (wq := wq)), Core.marchBegin_kept]

theorem riskTick_kept {wq : List Instr} (s : State) (h_s : (s).kept wq = true) :
    (riskTick s).kept wq = true := by
  grind [riskTick, !(State.setBar_kept (wq := wq)), !(State.raise_kept (wq := wq)), !(kept_eq (wq := wq))]

theorem relHistSel_kept {wq : List Instr} (v : Word) (s : State) (h_s : (s).kept wq = true) :
    (relHistSel v s).kept wq = true := by
  grind [relHistSel, !(State.setBar_kept (wq := wq)), !(State.barAccess_kept (wq := wq)), !(kept_eq (wq := wq)),
      coreMemsOk_eq, wf_eq, !(foldl_kept (wq := wq)), foldl_keptC, foldl_keptE, coresOk_set, stksOk_set,
      hostOk_hostWrites, core_reset_kept, stack_reset_kept, EccMem.zero_kept]

theorem floorplanRead_kept {wq : List Instr} (r : Fin 256) (j : Nat) (s : State) (h_s : (s).kept wq = true) :
    (floorplanRead r j s).kept wq = true := by
  grind [floorplanRead, !(State.hostWrite_kept (wq := wq)), !(State.complete_kept (wq := wq)), !(State.hostOp_kept (wq
      := wq)), !(State.gateOp_kept (wq := wq))]

theorem State.placementFaults_kept {wq : List Instr} (s : State) (e : Nat × Nat) (h_s : (s).kept wq = true) :
    (State.placementFaults s e).kept wq = true := by
  grind [State.placementFaults, !(State.faultRegion_kept (wq := wq)), !(kept_eq (wq := wq)), coreMemsOk_eq, wf_eq,
      !(foldl_kept (wq := wq)), foldl_keptC, foldl_keptE, coresOk_set, stksOk_set, hostOk_hostWrites,
      core_reset_kept, stack_reset_kept, EccMem.zero_kept]

theorem State.planNow_kept {wq : List Instr} (s : State) (req : Nat × Nat) (es : List (Nat × Nat)) (h_s : (s).kept wq
    = true) :
    (State.planNow s req es).kept wq = true := by
  refine State.askFlip_kept _ _ (State.kept_congr _ _ rfl rfl rfl (foldl_kept _ _ _ (foldl_kept _ _ _
      (State.setBusy_kept _ _ h_s) fun s x hs => State.placementFaults_kept _ _ hs) ?_))
  intro s x hs
  split
  · split
    · exact hs
    · exact State.fenceSite_kept _ _ _ hs
  · exact hs

theorem floorplanCommit_kept {wq : List Instr} (r : Fin 256) (j : Nat) (h : HostRead) (s : State) (h_s : (s).kept wq =
    true) :
    (floorplanCommit r j h s).kept wq = true := by
  refine State.hostOp_kept _ _ _ _ _ h_s ?_
  intro req d t ht
  refine State.gateOp_kept _ _ _ _ ht ?_
  intro t ht
  have c : ∀ n m, (t.complete req n m).kept wq = true := fun n m => State.complete_kept _ _ _ _ _ ht
  extract_lets len
  split
  · exact c _ _
  · extract_lets n es
    split
    · exact ht
    split
    · exact c _ _
    split
    · exact c _ _
    split
    · exact c _ _
    split
    · exact c _ _
    split
    · exact c _ _
    split
    · exact c _ _
    split
    · exact c _ _
    · exact State.planNow_kept _ _ _ ht

end Sys2Proof.Machine
end

