-- ==== Sys2Proof/Laws/KeepStartup.lean ====
section
/-!
SUPPORT. What each operation of Machine/Startup.lean keeps: the canonical form of every memory, and the queue of waiting
commands.
-/

namespace Sys2Proof.Machine

set_option Elab.async false

set_option maxRecDepth 2000

theorem State.detachLoads_kept {wq : List Instr} (s : State) (p : Nat → Bool) (h_s : (s).kept wq = true) :
    (State.detachLoads s p).kept wq = true := by
  grind [State.detachLoads, !(State.complete_kept (wq := wq)), !(kept_eq (wq := wq)), coreMemsOk_eq, wf_eq,
      !(foldl_kept (wq := wq)), foldl_keptC, foldl_keptE, coresOk_set, stksOk_set, hostOk_hostWrites,
      core_reset_kept, stack_reset_kept, EccMem.zero_kept]

theorem State.endNamed_kept {wq : List Instr} (s : State) (p : Nat → Bool) (h_s : (s).kept wq = true) :
    (State.endNamed s p).kept wq = true := by
  grind [State.endNamed, !(State.complete_kept (wq := wq)), !(kept_eq (wq := wq)), coreMemsOk_eq, wf_eq, !(foldl_kept
      (wq := wq)), foldl_keptC, foldl_keptE, coresOk_set, stksOk_set, hostOk_hostWrites, core_reset_kept,
      stack_reset_kept, EccMem.zero_kept]

theorem State.underReset_kept {wq : List Instr} (s : State) (req : Nat × Nat) (cores : List SiteId) (h_s : (s).kept wq
    = true) :
    (State.underReset s req cores).kept wq = true := by
  grind [State.underReset, !(State.core_kept (wq := wq)), !(State.setCore_kept (wq := wq)), !(kept_eq (wq := wq)),
      coreMemsOk_eq, wf_eq, !(foldl_kept (wq := wq)), foldl_keptC, foldl_keptE, coresOk_set, stksOk_set,
      hostOk_hostWrites, core_reset_kept, stack_reset_kept, EccMem.zero_kept]

theorem State.resetEnds_kept {wq : List Instr} (s : State) (h_s : (s).kept wq = true) :
    (State.resetEnds s).kept wq = true := by
  grind [State.resetEnds, !(State.complete_kept (wq := wq)), !(State.mapCores_kept (wq := wq)), !(kept_eq (wq := wq)),
      coreMemsOk_eq, wf_eq, !(foldl_kept (wq := wq)), foldl_keptC, foldl_keptE, coresOk_set, stksOk_set,
      hostOk_hostWrites, core_reset_kept, stack_reset_kept, EccMem.zero_kept]

theorem resetCompute_kept {wq : List Instr} (r : Fin 256) (j : Nat) (s : State) (h_s : (s).kept wq = true) :
    (resetCompute r j s).kept wq = true := by
  grind [resetCompute, !(State.setBusy_kept (wq := wq)), !(State.abortXchk_kept (wq := wq)), !(State.resetCore_kept
      (wq := wq)), !(State.resetRegion_kept (wq := wq)), !(State.resetOp_kept (wq := wq)), !(State.detachLoads_kept
      (wq := wq)), !(State.endNamed_kept (wq := wq)), !(State.underReset_kept (wq := wq)), !(kept_eq (wq := wq)),
      coreMemsOk_eq, wf_eq, !(foldl_kept (wq := wq)), foldl_keptC, foldl_keptE, coresOk_set, stksOk_set,
      hostOk_hostWrites, core_reset_kept, stack_reset_kept, EccMem.zero_kept]

theorem resetRegionOp_kept {wq : List Instr} (r : Fin 256) (j : Nat) (s : State) (h_s : (s).kept wq = true) :
    (resetRegionOp r j s).kept wq = true := by
  grind [resetRegionOp, !(State.complete_kept (wq := wq)), !(State.setBusy_kept (wq := wq)), !(State.resetRegion_kept
      (wq := wq)), !(State.resetOp_kept (wq := wq)), !(State.detachLoads_kept (wq := wq)), !(State.endNamed_kept (wq
      := wq)), !(State.underReset_kept (wq := wq))]

theorem State.setPhase_kept {wq : List Instr} (s : State) (p : Nat) (h_s : (s).kept wq = true) :
    (State.setPhase s p).kept wq = true := by
  grind [State.setPhase, !(State.setBar_kept (wq := wq))]

theorem State.setStep_kept {wq : List Instr} (s : State) (n : Nat) (h_s : (s).kept wq = true) :
    (State.setStep s n).kept wq = true := by
  grind [State.setStep, !(State.setBar_kept (wq := wq))]

theorem State.portTrain_kept {wq : List Instr} (s : State) (h_s : (s).kept wq = true) :
    (State.portTrain s).kept wq = true := by
  grind [State.portTrain, !(State.setBar_kept (wq := wq)), !(kept_eq (wq := wq))]

theorem State.coreUp_kept {wq : List Instr} (s : State) (h_s : (s).kept wq = true) :
    (State.coreUp s).kept wq = true := by
  grind [State.coreUp, !(State.portTrain_kept (wq := wq)), !(kept_eq (wq := wq))]

theorem State.haltBoot_kept {wq : List Instr} (s : State) (phase : Nat) (cause : Nat) (detail : Nat) (h_s : (s).kept
    wq = true) :
    (State.haltBoot s phase cause detail).kept wq = true := by
  grind [State.haltBoot, !(State.setBar_kept (wq := wq)), !(State.coreUp_kept (wq := wq))]

theorem State.setFwSlot_kept {wq : List Instr} (s : State) (t : Nat) (i : Nat) (x : FwSlot) (h_s : (s).kept wq = true)
    :
    (State.setFwSlot s t i x).kept wq = true := by
  grind [State.setFwSlot, Seqr.reset_kept, !(kept_eq (wq := wq))]

theorem State.bootTarget_kept {wq : List Instr} (s : State) (t : Nat) (h_s : (s).kept wq = true) :
    ∀ y, State.bootTarget s t = some y → (y).kept wq = true := by
  grind [State.bootTarget, !(State.setBar_kept (wq := wq)), !(State.setFwSlot_kept (wq := wq)), !(kept_eq (wq := wq))]

theorem State.noSlot_kept {wq : List Instr} (s : State) (t : Nat) (h_s : (s).kept wq = true) :
    (State.noSlot s t).kept wq = true := by
  grind [State.noSlot, !(State.haltBoot_kept (wq := wq)), !(State.setFwSlot_kept (wq := wq)), !(kept_eq (wq := wq))]

theorem State.bootChain_kept {wq : List Instr} (s : State) (h_s : (s).kept wq = true) :
    (∀ y, State.bootChain s = .inl y → y.kept wq = true) ∧ (∀ y, State.bootChain s = .inr y → y.kept wq = true) := by
  grind [State.bootChain, !(State.setBar_kept (wq := wq)), !(State.setPhase_kept (wq := wq)), !(State.bootTarget_kept
      (wq := wq)), !(State.noSlot_kept (wq := wq)), !(kept_eq (wq := wq))]

theorem State.loadMirror_kept {wq : List Instr} (s : State) (h_s : (s).kept wq = true) :
    (State.loadMirror s).kept wq = true := by
  grind [State.loadMirror, !(State.setBar_kept (wq := wq)), !(State.setLantern_kept (wq := wq)), Seqr.reset_kept,
      !(kept_eq (wq := wq)), coreMemsOk_eq, wf_eq, !(foldl_kept (wq := wq)), foldl_keptC, foldl_keptE, coresOk_set,
      stksOk_set, hostOk_hostWrites, core_reset_kept, stack_reset_kept, EccMem.zero_kept]

theorem State.startArea_kept {wq : List Instr} (s : State) (bad : List (Fin 288)) (a : Nat) (h_s : (s).kept wq = true)
    :
    (State.startArea s bad a).kept wq = true := by
  grind [State.startArea, !(State.setArea_kept (wq := wq)), !(State.raise_kept (wq := wq)), !(State.bumpBar_kept (wq
      := wq)), !(State.setAreaRec_kept (wq := wq)), !(State.logRec_kept (wq := wq)), !(State.applyFence_kept (wq :=
      wq)), Seqr.reset_kept, !(State.latchArea_kept (wq := wq)), !(kept_eq (wq := wq)), coreMemsOk_eq, wf_eq,
      !(foldl_kept (wq := wq)), foldl_keptC, foldl_keptE, coresOk_set, stksOk_set, hostOk_hostWrites,
      core_reset_kept, stack_reset_kept, EccMem.zero_kept]

theorem State.step3_kept {wq : List Instr} (s : State) (h_s : (s).kept wq = true) :
    (State.step3 s).kept wq = true := by
  grind [State.step3, !(State.clkBit_kept (wq := wq)), !(State.setStep_kept (wq := wq)), !(State.coreUp_kept (wq :=
      wq)), !(kept_eq (wq := wq))]

theorem State.step4_kept {wq : List Instr} (s : State) (h_s : (s).kept wq = true) :
    (State.step4 s).kept wq = true := by
  grind [State.step4, !(State.clkBit_kept (wq := wq)), !(State.setStep_kept (wq := wq)), !(kept_eq (wq := wq))]

theorem State.step5_kept {wq : List Instr} (s : State) (h_s : (s).kept wq = true) :
    (State.step5 s).kept wq = true := by
  grind [State.step5, !(State.setLantern_kept (wq := wq)), !(State.setStep_kept (wq := wq)), !(kept_eq (wq := wq)),
      coreMemsOk_eq, wf_eq, !(foldl_kept (wq := wq)), foldl_keptC, foldl_keptE, coresOk_set, stksOk_set,
      hostOk_hostWrites, core_reset_kept, stack_reset_kept, EccMem.zero_kept]

theorem State.step6_kept {wq : List Instr} (s : State) (bad : List (Fin 32)) (h_s : (s).kept wq = true) :
    (State.step6 s bad).kept wq = true := by
  grind [State.step6, !(State.setStack_kept (wq := wq)), !(State.logRec_kept (wq := wq)), Seqr.reset_kept,
      !(stackFail_kept (wq := wq)), !(State.setStep_kept (wq := wq)), !(kept_eq (wq := wq)), coreMemsOk_eq, wf_eq,
      !(foldl_kept (wq := wq)), foldl_keptC, foldl_keptE, coresOk_set, stksOk_set, hostOk_hostWrites,
      core_reset_kept, stack_reset_kept, EccMem.zero_kept]

theorem State.step7_kept {wq : List Instr} (s : State) (rows : List (SiteId × Fin 4 × Nat)) (charged : List SiteId)
    (h_s : (s).kept wq = true) :
    (State.step7 s rows charged).kept wq = true := by
  grind [State.step7, !(State.bumpBar_kept (wq := wq)), !(State.setAreaRec_kept (wq := wq)), !(State.charge_kept (wq
      := wq)), !(State.retested_kept (wq := wq)), !(State.addRow_kept (wq := wq)), !(State.setStep_kept (wq := wq)),
      !(kept_eq (wq := wq)), coreMemsOk_eq, wf_eq, !(foldl_kept (wq := wq)), foldl_keptC, foldl_keptE, coresOk_set,
      stksOk_set, hostOk_hostWrites, core_reset_kept, stack_reset_kept, EccMem.zero_kept]

theorem State.remapBlock_kept {wq : List Instr} (s : State) (b : Nat) (h_s : (s).kept wq = true) :
    ((State.remapBlock s b).2).kept wq = true := by
  grind [State.remapBlock, !(State.core_kept (wq := wq)), !(State.setCore_kept (wq := wq)), !(kept_eq (wq := wq))]

theorem State.siteStart_kept {wq : List Instr} (s : State) (x : Nat × SiteRec) (h_s : (s).kept wq = true) :
    (State.siteStart s x).kept wq = true := by
  have ha : ∀ (p : Prop) [Decidable p] k, (if p then s.assignSpares k else s).kept wq = true := by
    intro p _ k; split
    · exact State.assignSpares_kept _ _ h_s
    · exact h_s
  unfold State.siteStart
  extract_lets k
  split
  · exact State.applyFence_kept _ _ _ (ha _ _)
  · exact ha _ _

theorem State.remapAll_kept {wq : List Instr} (s : State) (h_s : (s).kept wq = true) :
    ((State.remapAll s).2).kept wq = true := by
  refine foldl_inv (fun a : Nat × State => a.2.kept wq = true) _ _ _ h_s fun a x ha => ?_
  exact State.remapBlock_kept _ _ ha

theorem State.planStart_kept {wq : List Instr} (s : State) (h_s : (s).kept wq = true) :
    (State.planStart s).kept wq = true := by
  grind [State.planStart, !(State.setCore_kept (wq := wq)), Seqr.reset_kept, !(kept_eq (wq := wq))]

theorem State.step8_kept {wq : List Instr} (s : State) (h_s : (s).kept wq = true) :
    (State.step8 s).kept wq = true := by
  have h0 : s.planStart.kept wq = true := State.kept_congr _ _ rfl rfl rfl h_s
  have h1 := foldl_kept (fun (s : State) x => s.siteStart x) s.rel.site _ h0 fun s x hs => State.siteStart_kept _ _ hs
  have h2 := State.remapAll_kept _ h1
  unfold State.step8
  generalize (List.foldl (fun (s : State) x => s.siteStart x) s.planStart s.rel.site).remapAll = res at h2 ⊢
  dsimp only
  split
  · exact State.setStep_kept _ _ h2
  · exact State.setStep_kept _ _ (State.commitPlan_kept _ _ _ _ h2)

theorem State.step9_kept {wq : List Instr} (s : State) (h_s : (s).kept wq = true) :
    (State.step9 s).kept wq = true := by
  grind [State.step9, !(State.setStep_kept (wq := wq)), !(kept_eq (wq := wq))]

theorem State.lockDebug_kept {wq : List Instr} (s : State) (h_s : (s).kept wq = true) :
    (State.lockDebug s).kept wq = true := by
  grind [State.lockDebug, !(State.setBar_kept (wq := wq))]

theorem State.step10_kept {wq : List Instr} (s : State) (h_s : (s).kept wq = true) :
    (State.step10 s).kept wq = true := by
  grind [State.step10, !(State.setBar_kept (wq := wq)), !(State.raise_kept (wq := wq)), !(State.setPhase_kept (wq :=
      wq)), !(State.setStep_kept (wq := wq)), !(State.lockDebug_kept (wq := wq)), !(kept_eq (wq := wq))]

theorem State.fromStep3_kept {wq : List Instr} (s : State) (o : StartupObs) (h_s : (s).kept wq = true) :
    (State.fromStep3 s o).kept wq = true := by
  grind [State.fromStep3, !(State.haltBoot_kept (wq := wq)), !(State.step3_kept (wq := wq)), !(State.step4_kept (wq :=
      wq)), !(State.step5_kept (wq := wq)), !(State.step6_kept (wq := wq)), !(State.step7_kept (wq := wq)),
      !(State.step8_kept (wq := wq)), !(State.step9_kept (wq := wq)), !(State.step10_kept (wq := wq))]

theorem State.fromStep2_kept {wq : List Instr} (s : State) (o : StartupObs) (h_s : (s).kept wq = true) :
    (State.fromStep2 s o).kept wq = true := by
  grind [State.fromStep2, !(State.setBar_kept (wq := wq)), !(State.setStep_kept (wq := wq)), !(State.haltBoot_kept (wq
      := wq)), !(State.loadMirror_kept (wq := wq)), !(State.startArea_kept (wq := wq)), !(State.fromStep3_kept (wq
      := wq)), !(kept_eq (wq := wq)), coreMemsOk_eq, wf_eq, !(foldl_kept (wq := wq)), foldl_keptC, foldl_keptE,
      coresOk_set, stksOk_set, hostOk_hostWrites, core_reset_kept, stack_reset_kept, EccMem.zero_kept]

theorem State.beforeStep2_kept {wq : List Instr} (s : State) (o : StartupObs) (h_s : (s).kept wq = true) :
    (State.beforeStep2 s o).kept wq = true := by
  grind [State.beforeStep2, !(State.fromStep2_kept (wq := wq)), !(kept_eq (wq := wq))]

theorem powerGood_kept {wq : List Instr} (o : StartupObs) (s : State) (h_s : (s).kept wq = true) :
    (powerGood o s).kept wq = true := by
  grind [powerGood, !(State.setBar_kept (wq := wq)), !(State.setStep_kept (wq := wq)), !(State.haltBoot_kept (wq :=
      wq)), !(State.bootChain_kept (wq := wq)), !(State.beforeStep2_kept (wq := wq)), !(kept_eq (wq := wq))]

theorem startupSupplyWaitEnd_kept {wq : List Instr} (o : StartupObs) (s : State) (h_s : (s).kept wq = true) :
    (startupSupplyWaitEnd o s).kept wq = true := by
  grind [startupSupplyWaitEnd, !(State.bootChain_kept (wq := wq)), !(State.fromStep2_kept (wq := wq)), !(kept_eq (wq
      := wq))]

theorem startupRefWaitEnd_kept {wq : List Instr} (o : StartupObs) (s : State) (h_s : (s).kept wq = true) :
    (startupRefWaitEnd o s).kept wq = true := by
  grind [startupRefWaitEnd, !(State.fromStep3_kept (wq := wq))]

theorem State.warmReset_kept {wq : List Instr} (s : State) (h_s : (s).kept wq = true) :
    (State.warmReset s).kept wq = true := by
  grind [State.warmReset, !(State.setBar_kept (wq := wq)), Seqr.reset_kept, !(linkDown_kept (wq := wq)),
      !(State.clkBit_kept (wq := wq)), !(State.darken_kept (wq := wq)), !(State.coreUp_kept (wq := wq)), !(kept_eq
      (wq := wq))]

theorem State.beginWarm_kept {wq : List Instr} (s : State) (h_s : (s).kept wq = true) :
    (State.beginWarm s).kept wq = true := by
  grind [State.beginWarm, !(State.setLantern_kept (wq := wq)), !(State.quiesceLantern_kept (wq := wq)),
      !(State.warmReset_kept (wq := wq)), !(kept_eq (wq := wq)), coreMemsOk_eq, wf_eq, !(foldl_kept (wq := wq)),
      foldl_keptC, foldl_keptE, coresOk_set, stksOk_set, hostOk_hostWrites, core_reset_kept, stack_reset_kept,
      EccMem.zero_kept]

theorem State.endStarted_kept {wq : List Instr} (s : State) (req : Nat × Nat) (h_s : (s).kept wq = true) :
    (State.endStarted s req).kept wq = true := by
  grind [State.endStarted, !(State.complete_kept (wq := wq)), !(State.testDone_kept (wq := wq)), !(kept_eq (wq :=
      wq)), coreMemsOk_eq, wf_eq, !(foldl_kept (wq := wq)), foldl_keptC, foldl_keptE, coresOk_set, stksOk_set,
      hostOk_hostWrites, core_reset_kept, stack_reset_kept, EccMem.zero_kept]

theorem resetWarm_kept {wq : List Instr} (r : Fin 256) (j : Nat) (s : State) (h_s : (s).kept wq = true) :
    (resetWarm r j s).kept wq = true := by
  grind [resetWarm, !(State.complete_kept (wq := wq)), !(State.resetOp_kept (wq := wq)), !(State.beginWarm_kept (wq :=
      wq)), !(State.endStarted_kept (wq := wq))]

theorem perstAssert_kept {wq : List Instr} (s : State) (h_s : (s).kept wq = true) :
    (perstAssert s).kept wq = true := by
  grind [perstAssert, !(State.mapCores_kept (wq := wq)), !(linkDown_kept (wq := wq)), !(powerGood_kept (wq := wq)),
      !(State.beginWarm_kept (wq := wq)), !(kept_eq (wq := wq)), coreMemsOk_eq, wf_eq, !(foldl_kept (wq := wq)),
      foldl_keptC, foldl_keptE, coresOk_set, stksOk_set, hostOk_hostWrites, core_reset_kept, stack_reset_kept,
      EccMem.zero_kept]

theorem perstDeassert_kept {wq : List Instr} (s : State) (h_s : (s).kept wq = true) :
    (perstDeassert s).kept wq = true := by
  grind [perstDeassert, !(State.portTrain_kept (wq := wq)), !(kept_eq (wq := wq))]

theorem State.dropRepairs_kept {wq : List Instr} (s : State) (h_s : (s).kept wq = true) :
    (State.dropRepairs s).kept wq = true := by
  have hs : stksOk s.stks.tbl = true := by grind [kept_eq]
  have h : stksOk s.dropRepairs.stks.tbl = true := by
    refine foldl_inv_mem (fun t => stksOk t = true) _ _ _ rfl ?_
    intro u x hx hu
    refine stksOk_set _ _ _ hu ?_
    simp only [stksOk, List.all_eq_true] at hs
    exact hs x hx
  have h1 : s.dropRepairs.host.mem = s.host.mem := rfl
  have h2 : s.dropRepairs.cores = s.cores := rfl
  have h3 : s.dropRepairs.pending = s.pending := rfl
  grind [kept_eq]

theorem domeParkDone_kept {wq : List Instr} (s : State) (h_s : (s).kept wq = true) :
    (domeParkDone s).kept wq = true := by
  have hp := State.park_kept _ h_s
  have hw : ∀ (p : Prop) [Decidable p], (if p then s else s.park).kept wq = true := by
    intro p _; split
    · exact h_s
    · exact hp
  unfold domeParkDone
  split
  · exact h_s
  split
  · split
    · exact State.warmReset_kept _ (hw _)
    · exact h_s
  · exact State.dropRepairs_kept _ hp

theorem inputSwitchClose_kept {wq : List Instr} (s : State) (h_s : (s).kept wq = true) :
    (inputSwitchClose s).kept wq = true := by
  grind [inputSwitchClose, !(kept_eq (wq := wq))]

theorem seatOpen_kept {wq : List Instr} (s : State) (h_s : (s).kept wq = true) :
    (seatOpen s).kept wq = true := by
  grind [seatOpen, !(State.refLost_kept (wq := wq)), !(kept_eq (wq := wq))]

theorem inputSwitchOpen_kept {wq : List Instr} (s : State) (h_s : (s).kept wq = true) :
    (inputSwitchOpen s).kept wq = true := by
  grind [inputSwitchOpen, !(State.powerOff_kept (wq := wq)), !(kept_eq (wq := wq))]

end Sys2Proof.Machine
end

