-- ==== Sys2Proof/Laws/KeepSecure.lean ====
section
/-!
SUPPORT. What each operation of Machine/Secure.lean keeps: the canonical form of every memory, and the queue of waiting
commands.
-/

namespace Sys2Proof.Machine

set_option Elab.async false

set_option maxRecDepth 2000

theorem fwStage_kept {wq : List Instr} (r : Fin 256) (j : Nat) (h : HostRead) (s : State) (h_s : (s).kept wq = true) :
    (fwStage r j h s).kept wq = true := by
  grind [fwStage, !(State.complete_kept (wq := wq)), !(State.setBusy_kept (wq := wq)), !(State.hostOp_kept (wq :=
      wq)), !(State.setFwSlot_kept (wq := wq)), !(kept_eq (wq := wq))]

theorem fwStageDone_kept {wq : List Instr} (s : State) (h_s : (s).kept wq = true) :
    (fwStageDone s).kept wq = true := by
  grind [fwStageDone, !(State.complete_kept (wq := wq)), !(State.setFwSlot_kept (wq := wq)), !(kept_eq (wq := wq))]

theorem State.switchFw_kept {wq : List Instr} (s : State) (t : Nat) (h_s : (s).kept wq = true) :
    (State.switchFw s t).kept wq = true := by
  grind [State.switchFw, !(State.setFwSlot_kept (wq := wq)), !(kept_eq (wq := wq))]

theorem State.fwReady_kept {wq : List Instr} (s : State) (t : Nat) (h_s : (s).kept wq = true) :
    (State.fwReady s t).kept wq = true := by
  grind [State.fwReady, !(State.raise_kept (wq := wq))]

theorem State.leaveRecovery_kept {wq : List Instr} (s : State) (h_s : (s).kept wq = true) :
    (State.leaveRecovery s).kept wq = true := by
  grind [State.leaveRecovery, !(State.setBar_kept (wq := wq)), !(State.setPhase_kept (wq := wq)), !(State.setStep_kept
      (wq := wq)), !(kept_eq (wq := wq))]

theorem State.recoverFw_kept {wq : List Instr} (s : State) (req : Nat × Nat) (t : Nat) (h_s : (s).kept wq = true) :
    (State.recoverFw s req t).kept wq = true := by
  grind [State.recoverFw, !(State.complete_kept (wq := wq)), !(State.setFwSlot_kept (wq := wq)),
      !(State.bootTarget_kept (wq := wq)), !(State.noSlot_kept (wq := wq)), !(State.switchFw_kept (wq := wq)),
      !(State.fwReady_kept (wq := wq)), !(State.leaveRecovery_kept (wq := wq))]

theorem State.abortScheduled_kept {wq : List Instr} (s : State) (h_s : (s).kept wq = true) :
    (State.abortScheduled s).kept wq = true := by
  grind [State.abortScheduled, !(State.endXchk_kept (wq := wq)), !(kept_eq (wq := wq)), coreMemsOk_eq, wf_eq,
      !(foldl_kept (wq := wq)), foldl_keptC, foldl_keptE, coresOk_set, stksOk_set, hostOk_hostWrites,
      core_reset_kept, stack_reset_kept, EccMem.zero_kept]

theorem State.endSessions_kept {wq : List Instr} (s : State) (h_s : (s).kept wq = true) :
    (State.endSessions s).kept wq = true := by
  grind [State.endSessions, !(kept_eq (wq := wq))]

theorem fwActivate_kept {wq : List Instr} (t : Nat) (r : Fin 256) (j : Nat) (s : State) (h_s : (s).kept wq = true) :
    (fwActivate t r j s).kept wq = true := by
  grind [fwActivate, !(State.complete_kept (wq := wq)), !(State.setBusy_kept (wq := wq)), !(State.hostOp_kept (wq :=
      wq)), !(State.recoverFw_kept (wq := wq)), !(State.abortScheduled_kept (wq := wq)), !(State.endSessions_kept
      (wq := wq)), !(kept_eq (wq := wq))]

theorem fwHandoverReady_kept {wq : List Instr} (s : State) (h_s : (s).kept wq = true) :
    (fwHandoverReady s).kept wq = true := by
  grind [fwHandoverReady, !(State.complete_kept (wq := wq)), !(State.switchFw_kept (wq := wq)), !(State.fwReady_kept
      (wq := wq)), !(State.abortScheduled_kept (wq := wq)), !(kept_eq (wq := wq))]

theorem fwHandoverTimeout_kept {wq : List Instr} (s : State) (h_s : (s).kept wq = true) :
    (fwHandoverTimeout s).kept wq = true := by
  grind [fwHandoverTimeout, !(State.complete_kept (wq := wq)), !(State.setFwSlot_kept (wq := wq)),
      !(State.abortScheduled_kept (wq := wq)), !(kept_eq (wq := wq))]

theorem State.mailReply_kept {wq : List Instr} (s : State) (req : Nat × Nat) (d : Desc) (status : Nat) (body : List
    Byte) (h_s : (s).kept wq = true) :
    (State.mailReply s req d status body).kept wq = true := by
  grind [State.mailReply, !(State.hostWrite_kept (wq := wq)), !(State.complete_kept (wq := wq))]

theorem State.mailOp_kept {wq : List Instr} (s : State) (r : Fin 256) (j : Nat) (h : HostRead) (cmd : Nat) (go : (Nat
    → List Byte → State → State) → List Byte → State → State) (h_s : s.kept wq = true)
    (h_go : ∀ (reply : Nat → List Byte → State → State) (b : List Byte) (t : State), (∀ n b t, t.kept wq = true →
        (reply n b t).kept wq = true) → t.kept wq = true → (go reply b t).kept wq = true) :
    (State.mailOp s r j h cmd go).kept wq = true := by
  unfold State.mailOp
  refine State.hostOp_kept _ _ _ _ _ h_s ?_
  intro req d t ht
  have hr : ∀ n b t, t.kept wq = true → (State.mailReply t req d n b).kept wq = true := fun n b t ht =>
      State.mailReply_kept _ _ _ _ _ ht
  dsimp only
  split
  · exact ht
  split
  · exact State.complete_kept _ _ _ _ _ ht
  split
  · exact ht
  split
  · exact hr _ _ _ ht
  split
  · exact hr _ _ _ ht
  split
  · exact ht
  split
  · exact hr _ _ _ ht
  · exact h_go _ _ _ hr ht

theorem State.random_kept {wq : List Instr} (s : State) (n : Nat) (h_s : (s).kept wq = true) :
    ((State.random s n).2).kept wq = true := by
  grind [State.random, !(State.draw_kept (wq := wq))]

theorem getNonce_kept {wq : List Instr} (r : Fin 256) (j : Nat) (h : HostRead) (s : State) (h_s : (s).kept wq = true)
    :
    (getNonce r j h s).kept wq = true := by
  refine State.mailOp_kept _ _ _ _ _ _ h_s ?_
  intro reply b t hr ht
  dsimp only
  split
  · exact hr _ _ _ ht
  · exact hr _ _ _ (State.kept_congr _ _ rfl rfl rfl (State.random_kept t 32 ht))

theorem setOwner_kept {wq : List Instr} (r : Fin 256) (j : Nat) (h : HostRead) (s : State) (h_s : (s).kept wq = true)
    :
    (setOwner r j h s).kept wq = true := by
  refine State.mailOp_kept _ _ _ _ _ _ h_s ?_
  intro reply b t hr ht
  dsimp only
  split
  · exact hr _ _ _ ht
  split
  · exact hr _ _ _ ht
  · exact hr _ _ _ (State.kept_congr _ _ rfl rfl rfl ht)

theorem State.useNonce_kept {wq : List Instr} (s : State) (x : List Byte) (h_s : (s).kept wq = true) :
    ((State.useNonce s x).2).kept wq = true := by
  grind [State.useNonce, !(kept_eq (wq := wq))]

theorem State.ownerOp_kept {wq : List Instr} (s : State) (r : Fin 256) (j : Nat) (h : HostRead) (sub : Nat) (go : List
    Byte → State → State) (h_s : (s).kept wq = true) (h_go : ∀ x0 x1, (x1).kept wq = true → (go x0 x1).kept wq = true)
    :
    (State.ownerOp s r j h sub go).kept wq = true := by
  refine State.mailOp_kept _ _ _ _ _ _ h_s ?_
  intro reply b t hr ht
  have hu := State.useNonce_kept t (slice b 8 32) ht
  dsimp only
  split
  · exact hr _ _ _ ht
  split
  · exact ht
  split
  · exact hr _ _ _ ht
  split
  · exact hr _ _ _ ht
  split
  · next h => rw [h] at hu; exact hr _ _ _ hu
  · next h =>
    rw [h] at hu
    split
    · exact hr _ _ _ (h_go _ _ hu)
    · exact hr _ _ _ hu

theorem addImageKey_kept {wq : List Instr} (r : Fin 256) (j : Nat) (h : HostRead) (s : State) (h_s : (s).kept wq =
    true) :
    (addImageKey r j h s).kept wq = true := by
  grind [addImageKey, !(State.ownerOp_kept (wq := wq)), !(kept_eq (wq := wq))]

theorem removeImageKey_kept {wq : List Instr} (r : Fin 256) (j : Nat) (h : HostRead) (s : State) (h_s : (s).kept wq =
    true) :
    (removeImageKey r j h s).kept wq = true := by
  grind [removeImageKey, !(State.ownerOp_kept (wq := wq)), !(kept_eq (wq := wq))]

theorem setBootPolicy_kept {wq : List Instr} (r : Fin 256) (j : Nat) (h : HostRead) (s : State) (h_s : (s).kept wq =
    true) :
    (setBootPolicy r j h s).kept wq = true := by
  grind [setBootPolicy, !(State.ownerOp_kept (wq := wq)), !(kept_eq (wq := wq))]

theorem State.eraseOwner_kept {wq : List Instr} (s : State) (h_s : (s).kept wq = true) :
    (State.eraseOwner s).kept wq = true := by
  grind [State.eraseOwner, !(kept_eq (wq := wq))]

theorem releaseOwner_kept {wq : List Instr} (r : Fin 256) (j : Nat) (h : HostRead) (s : State) (h_s : (s).kept wq =
    true) :
    (releaseOwner r j h s).kept wq = true := by
  grind [releaseOwner, !(State.ownerOp_kept (wq := wq)), !(State.eraseOwner_kept (wq := wq))]

theorem State.dropKeys_kept {wq : List Instr} (s : State) (l : Nat) (h_s : (s).kept wq = true) :
    (State.dropKeys s l).kept wq = true := by
  grind [State.dropKeys, !(State.setLantern_kept (wq := wq)), !(State.leaveUp_kept (wq := wq)), !(State.stopLink_kept
      (wq := wq))]

theorem State.ideInsecure_kept {wq : List Instr} (s : State) (h_s : (s).kept wq = true) :
    (State.ideInsecure s).kept wq = true := by
  grind [State.ideInsecure, !(kept_eq (wq := wq))]

theorem State.eraseLinkKeys_kept {wq : List Instr} (s : State) (h_s : (s).kept wq = true) :
    (State.eraseLinkKeys s).kept wq = true := by
  grind [State.eraseLinkKeys, !(State.dropKeys_kept (wq := wq)), !(State.ideInsecure_kept (wq := wq)), !(kept_eq (wq
      := wq)), coreMemsOk_eq, wf_eq, !(foldl_kept (wq := wq)), foldl_keptC, foldl_keptE, coresOk_set, stksOk_set,
      hostOk_hostWrites, core_reset_kept, stack_reset_kept, EccMem.zero_kept]

theorem makerUnlock_kept {wq : List Instr} (r : Fin 256) (j : Nat) (h : HostRead) (s : State) (h_s : (s).kept wq =
    true) :
    (makerUnlock r j h s).kept wq = true := by
  refine State.mailOp_kept _ _ _ _ _ _ h_s ?_
  intro reply b t hr ht
  have hu := State.useNonce_kept t (slice b 0x10 32) ht
  dsimp only
  split
  · exact hr _ _ _ ht
  split
  · next h => rw [h] at hu; exact hr _ _ _ hu
  · next h =>
    rw [h] at hu
    split
    · exact hr _ _ _ hu
    · exact hr _ _ _ (State.eraseLinkKeys_kept _ (State.kept_congr _ _ rfl rfl rfl hu))

theorem secAlarmTrigger_kept {wq : List Instr} (src : AlarmSource) (s : State) (h_s : (s).kept wq = true) :
    (secAlarmTrigger src s).kept wq = true := by
  grind [secAlarmTrigger, !(State.setBar_kept (wq := wq)), !(State.raise_kept (wq := wq)), !(State.bumpBar_kept (wq :=
      wq)), !(powerGood_kept (wq := wq)), !(State.endSessions_kept (wq := wq)), !(State.eraseOwner_kept (wq := wq)),
      !(State.eraseLinkKeys_kept (wq := wq)), !(kept_eq (wq := wq))]

theorem secAlarmRearm_kept {wq : List Instr} (src : AlarmSource) (s : State) (h_s : (s).kept wq = true) :
    (secAlarmRearm src s).kept wq = true := by
  grind [secAlarmRearm, !(kept_eq (wq := wq))]

theorem secAlarmPolicyWrite_kept {wq : List Instr} (v : Word) (s : State) (h_s : (s).kept wq = true) :
    (secAlarmPolicyWrite v s).kept wq = true := by
  grind [secAlarmPolicyWrite, !(State.setBar_kept (wq := wq))]

theorem entropyHealthFail_kept {wq : List Instr} (s : State) (h_s : (s).kept wq = true) :
    (entropyHealthFail s).kept wq = true := by
  grind [entropyHealthFail, !(State.setBar_kept (wq := wq)), !(powerGood_kept (wq := wq))]

theorem State.spdmSay_kept {wq : List Instr} (s : State) (b : List Byte) (h_s : (s).kept wq = true) :
    (State.spdmSay s b).kept wq = true := by
  grind [State.spdmSay, !(State.answer_kept (wq := wq)), !(kept_eq (wq := wq))]

theorem State.spdmError_kept {wq : List Instr} (s : State) (code : Nat) (h_s : (s).kept wq = true) :
    (State.spdmError s code).kept wq = true := by
  grind [State.spdmError, !(State.spdmSay_kept (wq := wq))]

theorem State.spdmOp_kept {wq : List Instr} (s : State) (go : State → State) (h_s : (s).kept wq = true) (h_go : ∀ x0,
    (x0).kept wq = true → (go x0).kept wq = true) :
    (State.spdmOp s go).kept wq = true := by
  grind [State.spdmOp, !(powerGood_kept (wq := wq)), !(State.spdmError_kept (wq := wq))]

theorem State.spdmSigned_kept {wq : List Instr} (s : State) (go : State → State) (h_s : (s).kept wq = true) (h_go : ∀
    x0, (x0).kept wq = true → (go x0).kept wq = true) :
    (State.spdmSigned s go).kept wq = true := by
  grind [State.spdmSigned, !(State.spdmError_kept (wq := wq)), !(State.spdmOp_kept (wq := wq))]

theorem State.spdmFree_kept {wq : List Instr} (s : State) (code : Nat) (h_s : (s).kept wq = true) :
    (State.spdmFree s code).kept wq = true := by
  grind [State.spdmFree, !(State.draw_kept (wq := wq)), !(State.spdmSay_kept (wq := wq))]

theorem spdmGetVersion_kept {wq : List Instr} (s : State) (h_s : (s).kept wq = true) :
    (spdmGetVersion s).kept wq = true := by
  grind [spdmGetVersion, !(State.spdmSay_kept (wq := wq)), !(State.spdmOp_kept (wq := wq))]

theorem spdmGetDigests_kept {wq : List Instr} (s : State) (h_s : (s).kept wq = true) :
    (spdmGetDigests s).kept wq = true := by
  grind [spdmGetDigests, !(State.spdmSay_kept (wq := wq)), !(State.spdmSigned_kept (wq := wq))]

theorem spdmGetCertificate_kept {wq : List Instr} (s : State) (h_s : (s).kept wq = true) :
    (spdmGetCertificate s).kept wq = true := by
  grind [spdmGetCertificate, !(State.spdmSay_kept (wq := wq)), !(State.spdmSigned_kept (wq := wq))]

theorem getMeasurements_kept {wq : List Instr} (s : State) (h_s : (s).kept wq = true) :
    (getMeasurements s).kept wq = true := by
  grind [getMeasurements, !(State.draw_kept (wq := wq)), !(State.spdmSay_kept (wq := wq)), !(State.spdmSigned_kept (wq
      := wq))]

theorem State.setSession_kept {wq : List Instr} (s : State) (i : Nat) (x : Session) (h_s : (s).kept wq = true) :
    (State.setSession s i x).kept wq = true := by
  grind [State.setSession, Seqr.reset_kept, !(kept_eq (wq := wq))]

theorem spdmKeyExchange_kept {wq : List Instr} (s : State) (h_s : (s).kept wq = true) :
    (spdmKeyExchange s).kept wq = true := by
  grind [spdmKeyExchange, !(State.spdmError_kept (wq := wq)), !(State.spdmSigned_kept (wq := wq)),
      !(State.spdmFree_kept (wq := wq)), !(State.setSession_kept (wq := wq))]

theorem State.inSession_kept {wq : List Instr} (s : State) (i : Nat) (ok : Session → Bool) (go : Session → State →
    State) (h_s : (s).kept wq = true) (h_go : ∀ x0 x1, (x1).kept wq = true → (go x0 x1).kept wq = true) :
    (State.inSession s i ok go).kept wq = true := by
  grind [State.inSession, !(State.spdmError_kept (wq := wq)), !(State.spdmOp_kept (wq := wq))]

theorem spdmFinish_kept {wq : List Instr} (i : Nat) (s : State) (h_s : (s).kept wq = true) :
    (spdmFinish i s).kept wq = true := by
  grind [spdmFinish, !(State.spdmFree_kept (wq := wq)), !(State.setSession_kept (wq := wq)), !(State.inSession_kept
      (wq := wq))]

theorem spdmKeyUpdate_kept {wq : List Instr} (i : Nat) (s : State) (h_s : (s).kept wq = true) :
    (spdmKeyUpdate i s).kept wq = true := by
  grind [spdmKeyUpdate, !(State.spdmFree_kept (wq := wq)), !(State.setSession_kept (wq := wq)), !(State.inSession_kept
      (wq := wq))]

theorem spdmEndSession_kept {wq : List Instr} (i : Nat) (s : State) (h_s : (s).kept wq = true) :
    (spdmEndSession i s).kept wq = true := by
  grind [spdmEndSession, Seqr.reset_kept, !(State.spdmFree_kept (wq := wq)), !(State.setSession_kept (wq := wq)),
      !(State.inSession_kept (wq := wq))]

theorem ideKmKeyProg_kept {wq : List Instr} (i : Nat) (key : BitVec 256) (s : State) (h_s : (s).kept wq = true) :
    (ideKmKeyProg i key s).kept wq = true := by
  grind [ideKmKeyProg, !(State.inSession_kept (wq := wq)), !(kept_eq (wq := wq))]

theorem kSetGo_kept {wq : List Instr} (i : Nat) (s : State) (h_s : (s).kept wq = true) :
    (kSetGo i s).kept wq = true := by
  grind [kSetGo, !(State.inSession_kept (wq := wq)), !(kept_eq (wq := wq))]

theorem pldmSensorRead_kept {wq : List Instr} (x : PldmSensor) (s : State) (h_s : (s).kept wq = true) :
    (pldmSensorRead x s).kept wq = true := by
  grind [pldmSensorRead, !(powerGood_kept (wq := wq)), !(State.spdmSay_kept (wq := wq)), !(kept_eq (wq := wq))]

theorem pldmFruRead_kept {wq : List Instr} (s : State) (h_s : (s).kept wq = true) :
    (pldmFruRead s).kept wq = true := by
  grind [pldmFruRead, !(powerGood_kept (wq := wq)), !(State.spdmSay_kept (wq := wq))]

end Sys2Proof.Machine
end

