-- ==== Sys2Proof/Laws/KeepRegs.lean ====
section
/-!
SUPPORT. What each operation of Machine/Regs.lean keeps: the canonical form of every memory, and the queue of waiting
commands.
-/

namespace Sys2Proof.Machine

set_option Elab.async false

set_option maxRecDepth 2000

theorem State.barOvfClear_kept {wq : List Instr} (s : State) (off : Nat) (v : Word) (h_s : (s).kept wq = true) :
    (State.barOvfClear s off v).kept wq = true := by
  grind [State.barOvfClear, !(State.setBar_kept (wq := wq)), !(kept_eq (wq := wq)), coreMemsOk_eq, wf_eq, !(foldl_kept
      (wq := wq)), foldl_keptC, foldl_keptE, coresOk_set, stksOk_set, hostOk_hostWrites, core_reset_kept,
      stack_reset_kept, EccMem.zero_kept]

theorem State.engErrWrite_kept {wq : List Instr} (s : State) (v : Word) (h_s : (s).kept wq = true) :
    (State.engErrWrite s v).kept wq = true := by
  grind [State.engErrWrite, !(State.setBar_kept (wq := wq))]

theorem State.dbgCtlWrite_kept {wq : List Instr} (s : State) (v : Word) (h_s : (s).kept wq = true) :
    (State.dbgCtlWrite s v).kept wq = true := by
  grind [State.dbgCtlWrite, !(State.setBar_kept (wq := wq))]

theorem State.evtWrite_kept {wq : List Instr} (s : State) (v : Word) (h_s : (s).kept wq = true) :
    (State.evtWrite s v).kept wq = true := by
  grind [State.evtWrite, !(State.setBar_kept (wq := wq)), !(kept_eq (wq := wq))]

theorem State.cmdRegWrite_kept {wq : List Instr} (s : State) (off : Nat) (v : Word) (h_s : (s).kept wq = true) :
    (State.cmdRegWrite s off v).kept wq = true := by
  have hb : ∀ (p : Prop) [Decidable p] o w, (if p then s else s.setBar o w).kept wq = true := by
    intro p _ o w; split
    · exact h_s
    · exact State.setBar_kept _ _ _ h_s
  unfold State.cmdRegWrite
  split
  · exact cmdCfgWrite_kept _ _ _ h_s
  · exact hb _ _ _
  · exact hb _ _ _
  · exact h_s

theorem State.cplRegWrite_kept {wq : List Instr} (s : State) (off : Nat) (v : Word) (h_s : (s).kept wq = true) :
    (State.cplRegWrite s off v).kept wq = true := by
  have hb : ∀ (p : Prop) [Decidable p] o w, (if p then s else s.setBar o w).kept wq = true := by
    intro p _ o w; split
    · exact h_s
    · exact State.setBar_kept _ _ _ h_s
  unfold State.cplRegWrite
  split
  · exact cplCfgWrite_kept _ _ _ h_s
  · exact hb _ _ _
  · exact hb _ _ _
  · exact h_s

theorem State.msixWrite_kept {wq : List Instr} (s : State) (i : Nat) (v : Word) (h_s : (s).kept wq = true) :
    (State.msixWrite s i v).kept wq = true := by
  grind [State.msixWrite, !(State.raiseVec_kept (wq := wq)), !(kept_eq (wq := wq))]

theorem State.stageCtlWrite_kept {wq : List Instr} (s : State) (v : Word) (h_s : (s).kept wq = true) :
    (State.stageCtlWrite s v).kept wq = true := by
  grind [State.stageCtlWrite, !(fabCopy_kept (wq := wq)), !(fabCheck_kept (wq := wq))]

theorem State.treeUpWrite_kept {wq : List Instr} (s : State) (v : Word) (h_s : (s).kept wq = true) :
    (State.treeUpWrite s v).kept wq = true := by
  grind [State.treeUpWrite, !(State.setBar_kept (wq := wq)), !(State.retarget_kept (wq := wq))]

theorem State.timeWrite_kept {wq : List Instr} (s : State) (v : Word) (h_s : (s).kept wq = true) :
    (State.timeWrite s v).kept wq = true := by
  grind [State.timeWrite, !(State.setTime_kept (wq := wq))]

theorem State.barWriteOpen_kept {wq : List Instr} (s : State) (off : Nat) (v : Word) (h_s : (s).kept wq = true) :
    (State.barWriteOpen s off v).kept wq = true := by
  unfold State.barWriteOpen
  split
  · exact h_s
  split
  · exact State.barOvfClear_kept _ _ _ h_s
  split
  · exact State.setBar_kept _ _ _ h_s
  split
  · exact State.cmdRegWrite_kept _ _ _ h_s
  split
  · exact State.cplRegWrite_kept _ _ _ h_s
  split
  · exact State.msixWrite_kept _ _ _ h_s
  split
  · exact lntRwinWrite_kept _ _ _ _ h_s
  split
  · exact hifVerWrite_kept _ _ h_s
  · exact State.engErrWrite_kept _ _ h_s
  · exact State.dbgCtlWrite_kept _ _ h_s
  · split
    · exact h_s
    · exact State.setBar_kept _ _ _ h_s
  · split
    · exact h_s
    · exact State.setBar_kept _ _ _ h_s
  · exact State.evtWrite_kept _ _ h_s
  · exact clkHoldWrite_kept _ _ h_s
  · exact pwrCapWrite_kept _ _ h_s
  · exact State.stageCtlWrite_kept _ _ h_s
  · exact lntSysIdWrite_kept _ _ h_s
  · exact State.treeUpWrite_kept _ _ h_s
  · exact State.timeWrite_kept _ _ h_s
  · exact State.writeJob_kept _ _ h_s
  · exact lntFwdGo_kept _ _ h_s
  · exact relHistSel_kept _ _ h_s
  · exact secAlarmPolicyWrite_kept _ _ h_s
  · split
    · exact State.lockDebug_kept _ h_s
    · exact h_s
  · exact h_s

theorem State.barWrite_kept {wq : List Instr} (s : State) (off : Nat) (v : Word) (h_s : (s).kept wq = true) :
    (State.barWrite s off v).kept wq = true := by
  grind [State.barWrite, !(State.barAccess_kept (wq := wq)), !(State.barWriteOpen_kept (wq := wq))]

theorem State.answerWord_kept {wq : List Instr} (s : State) (v : Word) (h_s : (s).kept wq = true) :
    (State.answerWord s v).kept wq = true := by
  grind [State.answerWord, !(kept_eq (wq := wq))]

theorem registerWrite_kept {wq : List Instr} (t : RegTarget) (off : Nat) (v : Word) (s : State) (h_s : (s).kept wq =
    true) :
    (registerWrite t off v s).kept wq = true := by
  unfold registerWrite
  grind [!(State.core_kept (wq := wq)), !(State.coreWrite_kept (wq := wq)), !(State.barWrite_kept (wq := wq)),
      !(kept_eq (wq := wq))]

theorem counterOvfClear_kept {wq : List Instr} (t : RegTarget) (off : Nat) (v : Word) (s : State) (h_s : (s).kept wq =
    true) :
    (counterOvfClear t off v s).kept wq = true := by
  unfold counterOvfClear
  grind [!(State.core_kept (wq := wq)), !(State.modCore_kept (wq := wq)), Core.ovfClear_kept, !(State.barWrite_kept
      (wq := wq)), !(kept_eq (wq := wq))]

theorem w64LowRead_kept {wq : List Instr} (t : RegTarget) (off : Nat) (s : State) (h_s : (s).kept wq = true) :
    (w64LowRead t off s).kept wq = true := by
  unfold w64LowRead
  grind [!(State.core_kept (wq := wq)), !(State.coreRead_kept (wq := wq)), !(gatedAccess_kept (wq := wq)),
      !(State.answerWord_kept (wq := wq)), !(kept_eq (wq := wq))]

end Sys2Proof.Machine
end

