-- ==== Sys2Proof/Laws/KeepTick.lean ====
section
/-!
SUPPORT. What each operation of Machine/Tick.lean keeps: the canonical form of every memory, and the queue of waiting
commands.
-/

namespace Sys2Proof.Machine

set_option Elab.async false

set_option maxRecDepth 2000

theorem State.clocks_kept {wq : List Instr} (s : State) (h_s : (s).kept wq = true) :
    (State.clocks s).kept wq = true := by
  grind [State.clocks, !(kept_eq (wq := wq))]

theorem Core.cycle_kept (c : Core) (h_c : (c).memsOk = true) :
    (Core.cycle c).memsOk = true := by
  grind [Core.cycle, Core.add64_kept, State.add64_kept, Core.elapse_kept, coreMemsOk_eq, wf_eq]

theorem State.countStall_kept {wq : List Instr} (s : State) (k : SiteId) (h_s : (s).kept wq = true) :
    (State.countStall s k).kept wq = true := by
  grind [State.countStall, !(State.core_kept (wq := wq)), !(State.setCore_kept (wq := wq)), !(kept_eq (wq := wq)),
      coreMemsOk_eq, wf_eq, !(foldl_kept (wq := wq)), foldl_keptC, foldl_keptE, coresOk_set, stksOk_set,
      hostOk_hostWrites, core_reset_kept, stack_reset_kept, EccMem.zero_kept]

theorem State.siteCycle_kept {wq : List Instr} (s : State) (k : SiteId) (h_s : (s).kept wq = true) :
    (State.siteCycle s k).kept wq = true := by
  grind [State.siteCycle, !(State.core_kept (wq := wq)), !(State.setCore_kept (wq := wq)), !(State.slip_kept (wq :=
      wq)), Core.cycle_kept, !(State.countStall_kept (wq := wq))]

theorem tick_kept {wq : List Instr} (s : State) (h_s : (s).kept wq = true) :
    (tick s).kept wq = true := by
  grind [tick, !(State.scanAll_kept (wq := wq)), !(State.sendFlit_kept (wq := wq)), !(State.resetEnds_kept (wq :=
      wq)), !(powerGood_kept (wq := wq)), !(State.clocks_kept (wq := wq)), !(State.siteCycle_kept (wq := wq)),
      !(kept_eq (wq := wq)), coreMemsOk_eq, wf_eq, !(foldl_kept (wq := wq)), foldl_keptC, foldl_keptE, coresOk_set,
      stksOk_set, hostOk_hostWrites, core_reset_kept, stack_reset_kept, EccMem.zero_kept]

end Sys2Proof.Machine
end

