-- ==== Sys2Proof/Laws/State.lean ====
section
/-!
SUPPORT. What is read after a part of the state is set: the part set reads back, and every other part is as it was.
-/

namespace Sys2Proof.Machine

/-! ### setCore -/

@[simp] theorem State.setCore_pending (s : State) (k : SiteId) (c : Core) : (s.setCore k c).pending = s.pending := rfl
@[simp] theorem State.setCore_fresh (s : State) (k : SiteId) (c : Core) : (s.setCore k c).fresh = s.fresh := rfl
@[simp] theorem State.setCore_routers (s : State) (k : SiteId) (c : Core) : (s.setCore k c).routers = s.routers := rfl
@[simp] theorem State.setCore_fab (s : State) (k : SiteId) (c : Core) : (s.setCore k c).fab = s.fab := rfl
@[simp] theorem State.setCore_rgns (s : State) (k : SiteId) (c : Core) : (s.setCore k c).rgns = s.rgns := rfl
@[simp] theorem State.setCore_host (s : State) (k : SiteId) (c : Core) : (s.setCore k c).host = s.host := rfl
@[simp] theorem State.setCore_regs (s : State) (k : SiteId) (c : Core) : (s.setCore k c).regs = s.regs := rfl
@[simp] theorem State.setCore_w64 (s : State) (k : SiteId) (c : Core) : (s.setCore k c).w64 = s.w64 := rfl
@[simp] theorem State.setCore_latch (s : State) (k : SiteId) (c : Core) : (s.setCore k c).latch = s.latch := rfl
@[simp] theorem State.setCore_stks (s : State) (k : SiteId) (c : Core) : (s.setCore k c).stks = s.stks := rfl
@[simp] theorem State.setCore_lnts (s : State) (k : SiteId) (c : Core) : (s.setCore k c).lnts = s.lnts := rfl
@[simp] theorem State.setCore_clk (s : State) (k : SiteId) (c : Core) : (s.setCore k c).clk = s.clk := rfl
@[simp] theorem State.setCore_pwr (s : State) (k : SiteId) (c : Core) : (s.setCore k c).pwr = s.pwr := rfl
@[simp] theorem State.setCore_rel (s : State) (k : SiteId) (c : Core) : (s.setCore k c).rel = s.rel := rfl
@[simp] theorem State.setCore_fw (s : State) (k : SiteId) (c : Core) : (s.setCore k c).fw = s.fw := rfl
@[simp] theorem State.setCore_sec (s : State) (k : SiteId) (c : Core) : (s.setCore k c).sec = s.sec := rfl
@[simp] theorem State.setCore_boot (s : State) (k : SiteId) (c : Core) : (s.setCore k c).boot = s.boot := rfl

/-! ### setRouter -/

@[simp] theorem State.setRouter_pending (s : State) (k : SiteId) (r : Router) : (s.setRouter k r).pending = s.pending := rfl
@[simp] theorem State.setRouter_fresh (s : State) (k : SiteId) (r : Router) : (s.setRouter k r).fresh = s.fresh := rfl
@[simp] theorem State.setRouter_cores (s : State) (k : SiteId) (r : Router) : (s.setRouter k r).cores = s.cores := rfl
@[simp] theorem State.setRouter_fab (s : State) (k : SiteId) (r : Router) : (s.setRouter k r).fab = s.fab := rfl
@[simp] theorem State.setRouter_rgns (s : State) (k : SiteId) (r : Router) : (s.setRouter k r).rgns = s.rgns := rfl
@[simp] theorem State.setRouter_host (s : State) (k : SiteId) (r : Router) : (s.setRouter k r).host = s.host := rfl
@[simp] theorem State.setRouter_regs (s : State) (k : SiteId) (r : Router) : (s.setRouter k r).regs = s.regs := rfl
@[simp] theorem State.setRouter_w64 (s : State) (k : SiteId) (r : Router) : (s.setRouter k r).w64 = s.w64 := rfl
@[simp] theorem State.setRouter_latch (s : State) (k : SiteId) (r : Router) : (s.setRouter k r).latch = s.latch := rfl
@[simp] theorem State.setRouter_stks (s : State) (k : SiteId) (r : Router) : (s.setRouter k r).stks = s.stks := rfl
@[simp] theorem State.setRouter_lnts (s : State) (k : SiteId) (r : Router) : (s.setRouter k r).lnts = s.lnts := rfl
@[simp] theorem State.setRouter_clk (s : State) (k : SiteId) (r : Router) : (s.setRouter k r).clk = s.clk := rfl
@[simp] theorem State.setRouter_pwr (s : State) (k : SiteId) (r : Router) : (s.setRouter k r).pwr = s.pwr := rfl
@[simp] theorem State.setRouter_rel (s : State) (k : SiteId) (r : Router) : (s.setRouter k r).rel = s.rel := rfl
@[simp] theorem State.setRouter_fw (s : State) (k : SiteId) (r : Router) : (s.setRouter k r).fw = s.fw := rfl
@[simp] theorem State.setRouter_sec (s : State) (k : SiteId) (r : Router) : (s.setRouter k r).sec = s.sec := rfl
@[simp] theorem State.setRouter_boot (s : State) (k : SiteId) (r : Router) : (s.setRouter k r).boot = s.boot := rfl

/-! ### setRegion -/

@[simp] theorem State.setRegion_pending (s : State) (i : Nat) (r : Region) : (s.setRegion i r).pending = s.pending := rfl
@[simp] theorem State.setRegion_fresh (s : State) (i : Nat) (r : Region) : (s.setRegion i r).fresh = s.fresh := rfl
@[simp] theorem State.setRegion_cores (s : State) (i : Nat) (r : Region) : (s.setRegion i r).cores = s.cores := rfl
@[simp] theorem State.setRegion_routers (s : State) (i : Nat) (r : Region) : (s.setRegion i r).routers = s.routers := rfl
@[simp] theorem State.setRegion_fab (s : State) (i : Nat) (r : Region) : (s.setRegion i r).fab = s.fab := rfl
@[simp] theorem State.setRegion_host (s : State) (i : Nat) (r : Region) : (s.setRegion i r).host = s.host := rfl
@[simp] theorem State.setRegion_regs (s : State) (i : Nat) (r : Region) : (s.setRegion i r).regs = s.regs := rfl
@[simp] theorem State.setRegion_w64 (s : State) (i : Nat) (r : Region) : (s.setRegion i r).w64 = s.w64 := rfl
@[simp] theorem State.setRegion_latch (s : State) (i : Nat) (r : Region) : (s.setRegion i r).latch = s.latch := rfl
@[simp] theorem State.setRegion_stks (s : State) (i : Nat) (r : Region) : (s.setRegion i r).stks = s.stks := rfl
@[simp] theorem State.setRegion_lnts (s : State) (i : Nat) (r : Region) : (s.setRegion i r).lnts = s.lnts := rfl
@[simp] theorem State.setRegion_clk (s : State) (i : Nat) (r : Region) : (s.setRegion i r).clk = s.clk := rfl
@[simp] theorem State.setRegion_pwr (s : State) (i : Nat) (r : Region) : (s.setRegion i r).pwr = s.pwr := rfl
@[simp] theorem State.setRegion_rel (s : State) (i : Nat) (r : Region) : (s.setRegion i r).rel = s.rel := rfl
@[simp] theorem State.setRegion_fw (s : State) (i : Nat) (r : Region) : (s.setRegion i r).fw = s.fw := rfl
@[simp] theorem State.setRegion_sec (s : State) (i : Nat) (r : Region) : (s.setRegion i r).sec = s.sec := rfl
@[simp] theorem State.setRegion_boot (s : State) (i : Nat) (r : Region) : (s.setRegion i r).boot = s.boot := rfl

/-! ### setArea -/

@[simp] theorem State.setArea_pending (s : State) (a : Nat) (x : Area) : (s.setArea a x).pending = s.pending := rfl
@[simp] theorem State.setArea_fresh (s : State) (a : Nat) (x : Area) : (s.setArea a x).fresh = s.fresh := rfl
@[simp] theorem State.setArea_cores (s : State) (a : Nat) (x : Area) : (s.setArea a x).cores = s.cores := rfl
@[simp] theorem State.setArea_routers (s : State) (a : Nat) (x : Area) : (s.setArea a x).routers = s.routers := rfl
@[simp] theorem State.setArea_fab (s : State) (a : Nat) (x : Area) : (s.setArea a x).fab = s.fab := rfl
@[simp] theorem State.setArea_rgns (s : State) (a : Nat) (x : Area) : (s.setArea a x).rgns = s.rgns := rfl
@[simp] theorem State.setArea_host (s : State) (a : Nat) (x : Area) : (s.setArea a x).host = s.host := rfl
@[simp] theorem State.setArea_regs (s : State) (a : Nat) (x : Area) : (s.setArea a x).regs = s.regs := rfl
@[simp] theorem State.setArea_w64 (s : State) (a : Nat) (x : Area) : (s.setArea a x).w64 = s.w64 := rfl
@[simp] theorem State.setArea_latch (s : State) (a : Nat) (x : Area) : (s.setArea a x).latch = s.latch := rfl
@[simp] theorem State.setArea_stks (s : State) (a : Nat) (x : Area) : (s.setArea a x).stks = s.stks := rfl
@[simp] theorem State.setArea_lnts (s : State) (a : Nat) (x : Area) : (s.setArea a x).lnts = s.lnts := rfl
@[simp] theorem State.setArea_clk (s : State) (a : Nat) (x : Area) : (s.setArea a x).clk = s.clk := rfl
@[simp] theorem State.setArea_rel (s : State) (a : Nat) (x : Area) : (s.setArea a x).rel = s.rel := rfl
@[simp] theorem State.setArea_fw (s : State) (a : Nat) (x : Area) : (s.setArea a x).fw = s.fw := rfl
@[simp] theorem State.setArea_sec (s : State) (a : Nat) (x : Area) : (s.setArea a x).sec = s.sec := rfl
@[simp] theorem State.setArea_boot (s : State) (a : Nat) (x : Area) : (s.setArea a x).boot = s.boot := rfl

/-! ### setDome -/

@[simp] theorem State.setDome_pending (s : State) (d x : Nat) : (s.setDome d x).pending = s.pending := rfl
@[simp] theorem State.setDome_fresh (s : State) (d x : Nat) : (s.setDome d x).fresh = s.fresh := rfl
@[simp] theorem State.setDome_cores (s : State) (d x : Nat) : (s.setDome d x).cores = s.cores := rfl
@[simp] theorem State.setDome_routers (s : State) (d x : Nat) : (s.setDome d x).routers = s.routers := rfl
@[simp] theorem State.setDome_fab (s : State) (d x : Nat) : (s.setDome d x).fab = s.fab := rfl
@[simp] theorem State.setDome_rgns (s : State) (d x : Nat) : (s.setDome d x).rgns = s.rgns := rfl
@[simp] theorem State.setDome_host (s : State) (d x : Nat) : (s.setDome d x).host = s.host := rfl
@[simp] theorem State.setDome_regs (s : State) (d x : Nat) : (s.setDome d x).regs = s.regs := rfl
@[simp] theorem State.setDome_w64 (s : State) (d x : Nat) : (s.setDome d x).w64 = s.w64 := rfl
@[simp] theorem State.setDome_latch (s : State) (d x : Nat) : (s.setDome d x).latch = s.latch := rfl
@[simp] theorem State.setDome_stks (s : State) (d x : Nat) : (s.setDome d x).stks = s.stks := rfl
@[simp] theorem State.setDome_lnts (s : State) (d x : Nat) : (s.setDome d x).lnts = s.lnts := rfl
@[simp] theorem State.setDome_pwr (s : State) (d x : Nat) : (s.setDome d x).pwr = s.pwr := rfl
@[simp] theorem State.setDome_rel (s : State) (d x : Nat) : (s.setDome d x).rel = s.rel := rfl
@[simp] theorem State.setDome_fw (s : State) (d x : Nat) : (s.setDome d x).fw = s.fw := rfl
@[simp] theorem State.setDome_sec (s : State) (d x : Nat) : (s.setDome d x).sec = s.sec := rfl
@[simp] theorem State.setDome_boot (s : State) (d x : Nat) : (s.setDome d x).boot = s.boot := rfl

/-! ### setStack -/

@[simp] theorem State.setStack_pending (s : State) (i : Nat) (x : Stack) : (s.setStack i x).pending = s.pending := rfl
@[simp] theorem State.setStack_fresh (s : State) (i : Nat) (x : Stack) : (s.setStack i x).fresh = s.fresh := rfl
@[simp] theorem State.setStack_cores (s : State) (i : Nat) (x : Stack) : (s.setStack i x).cores = s.cores := rfl
@[simp] theorem State.setStack_routers (s : State) (i : Nat) (x : Stack) : (s.setStack i x).routers = s.routers := rfl
@[simp] theorem State.setStack_fab (s : State) (i : Nat) (x : Stack) : (s.setStack i x).fab = s.fab := rfl
@[simp] theorem State.setStack_rgns (s : State) (i : Nat) (x : Stack) : (s.setStack i x).rgns = s.rgns := rfl
@[simp] theorem State.setStack_host (s : State) (i : Nat) (x : Stack) : (s.setStack i x).host = s.host := rfl
@[simp] theorem State.setStack_regs (s : State) (i : Nat) (x : Stack) : (s.setStack i x).regs = s.regs := rfl
@[simp] theorem State.setStack_w64 (s : State) (i : Nat) (x : Stack) : (s.setStack i x).w64 = s.w64 := rfl
@[simp] theorem State.setStack_latch (s : State) (i : Nat) (x : Stack) : (s.setStack i x).latch = s.latch := rfl
@[simp] theorem State.setStack_lnts (s : State) (i : Nat) (x : Stack) : (s.setStack i x).lnts = s.lnts := rfl
@[simp] theorem State.setStack_clk (s : State) (i : Nat) (x : Stack) : (s.setStack i x).clk = s.clk := rfl
@[simp] theorem State.setStack_pwr (s : State) (i : Nat) (x : Stack) : (s.setStack i x).pwr = s.pwr := rfl
@[simp] theorem State.setStack_rel (s : State) (i : Nat) (x : Stack) : (s.setStack i x).rel = s.rel := rfl
@[simp] theorem State.setStack_fw (s : State) (i : Nat) (x : Stack) : (s.setStack i x).fw = s.fw := rfl
@[simp] theorem State.setStack_sec (s : State) (i : Nat) (x : Stack) : (s.setStack i x).sec = s.sec := rfl
@[simp] theorem State.setStack_boot (s : State) (i : Nat) (x : Stack) : (s.setStack i x).boot = s.boot := rfl

/-! ### setLantern -/

@[simp] theorem State.setLantern_pending (s : State) (l : Nat) (x : Lantern) : (s.setLantern l x).pending = s.pending := rfl
@[simp] theorem State.setLantern_fresh (s : State) (l : Nat) (x : Lantern) : (s.setLantern l x).fresh = s.fresh := rfl
@[simp] theorem State.setLantern_cores (s : State) (l : Nat) (x : Lantern) : (s.setLantern l x).cores = s.cores := rfl
@[simp] theorem State.setLantern_routers (s : State) (l : Nat) (x : Lantern) : (s.setLantern l x).routers = s.routers := rfl
@[simp] theorem State.setLantern_fab (s : State) (l : Nat) (x : Lantern) : (s.setLantern l x).fab = s.fab := rfl
@[simp] theorem State.setLantern_rgns (s : State) (l : Nat) (x : Lantern) : (s.setLantern l x).rgns = s.rgns := rfl
@[simp] theorem State.setLantern_host (s : State) (l : Nat) (x : Lantern) : (s.setLantern l x).host = s.host := rfl
@[simp] theorem State.setLantern_regs (s : State) (l : Nat) (x : Lantern) : (s.setLantern l x).regs = s.regs := rfl
@[simp] theorem State.setLantern_w64 (s : State) (l : Nat) (x : Lantern) : (s.setLantern l x).w64 = s.w64 := rfl
@[simp] theorem State.setLantern_latch (s : State) (l : Nat) (x : Lantern) : (s.setLantern l x).latch = s.latch := rfl
@[simp] theorem State.setLantern_stks (s : State) (l : Nat) (x : Lantern) : (s.setLantern l x).stks = s.stks := rfl
@[simp] theorem State.setLantern_clk (s : State) (l : Nat) (x : Lantern) : (s.setLantern l x).clk = s.clk := rfl
@[simp] theorem State.setLantern_pwr (s : State) (l : Nat) (x : Lantern) : (s.setLantern l x).pwr = s.pwr := rfl
@[simp] theorem State.setLantern_rel (s : State) (l : Nat) (x : Lantern) : (s.setLantern l x).rel = s.rel := rfl
@[simp] theorem State.setLantern_fw (s : State) (l : Nat) (x : Lantern) : (s.setLantern l x).fw = s.fw := rfl
@[simp] theorem State.setLantern_sec (s : State) (l : Nat) (x : Lantern) : (s.setLantern l x).sec = s.sec := rfl
@[simp] theorem State.setLantern_boot (s : State) (l : Nat) (x : Lantern) : (s.setLantern l x).boot = s.boot := rfl

/-! ### setRing -/

@[simp] theorem State.setRing_pending (s : State) (r : Nat) (x : CmdRing) : (s.setRing r x).pending = s.pending := rfl
@[simp] theorem State.setRing_fresh (s : State) (r : Nat) (x : CmdRing) : (s.setRing r x).fresh = s.fresh := rfl
@[simp] theorem State.setRing_cores (s : State) (r : Nat) (x : CmdRing) : (s.setRing r x).cores = s.cores := rfl
@[simp] theorem State.setRing_routers (s : State) (r : Nat) (x : CmdRing) : (s.setRing r x).routers = s.routers := rfl
@[simp] theorem State.setRing_fab (s : State) (r : Nat) (x : CmdRing) : (s.setRing r x).fab = s.fab := rfl
@[simp] theorem State.setRing_rgns (s : State) (r : Nat) (x : CmdRing) : (s.setRing r x).rgns = s.rgns := rfl
@[simp] theorem State.setRing_regs (s : State) (r : Nat) (x : CmdRing) : (s.setRing r x).regs = s.regs := rfl
@[simp] theorem State.setRing_w64 (s : State) (r : Nat) (x : CmdRing) : (s.setRing r x).w64 = s.w64 := rfl
@[simp] theorem State.setRing_latch (s : State) (r : Nat) (x : CmdRing) : (s.setRing r x).latch = s.latch := rfl
@[simp] theorem State.setRing_stks (s : State) (r : Nat) (x : CmdRing) : (s.setRing r x).stks = s.stks := rfl
@[simp] theorem State.setRing_lnts (s : State) (r : Nat) (x : CmdRing) : (s.setRing r x).lnts = s.lnts := rfl
@[simp] theorem State.setRing_clk (s : State) (r : Nat) (x : CmdRing) : (s.setRing r x).clk = s.clk := rfl
@[simp] theorem State.setRing_pwr (s : State) (r : Nat) (x : CmdRing) : (s.setRing r x).pwr = s.pwr := rfl
@[simp] theorem State.setRing_rel (s : State) (r : Nat) (x : CmdRing) : (s.setRing r x).rel = s.rel := rfl
@[simp] theorem State.setRing_fw (s : State) (r : Nat) (x : CmdRing) : (s.setRing r x).fw = s.fw := rfl
@[simp] theorem State.setRing_sec (s : State) (r : Nat) (x : CmdRing) : (s.setRing r x).sec = s.sec := rfl
@[simp] theorem State.setRing_boot (s : State) (r : Nat) (x : CmdRing) : (s.setRing r x).boot = s.boot := rfl

/-! ### setCpl -/

@[simp] theorem State.setCpl_pending (s : State) (q : Nat) (x : CplRing) : (s.setCpl q x).pending = s.pending := rfl
@[simp] theorem State.setCpl_fresh (s : State) (q : Nat) (x : CplRing) : (s.setCpl q x).fresh = s.fresh := rfl
@[simp] theorem State.setCpl_cores (s : State) (q : Nat) (x : CplRing) : (s.setCpl q x).cores = s.cores := rfl
@[simp] theorem State.setCpl_routers (s : State) (q : Nat) (x : CplRing) : (s.setCpl q x).routers = s.routers := rfl
@[simp] theorem State.setCpl_fab (s : State) (q : Nat) (x : CplRing) : (s.setCpl q x).fab = s.fab := rfl
@[simp] theorem State.setCpl_rgns (s : State) (q : Nat) (x : CplRing) : (s.setCpl q x).rgns = s.rgns := rfl
@[simp] theorem State.setCpl_regs (s : State) (q : Nat) (x : CplRing) : (s.setCpl q x).regs = s.regs := rfl
@[simp] theorem State.setCpl_w64 (s : State) (q : Nat) (x : CplRing) : (s.setCpl q x).w64 = s.w64 := rfl
@[simp] theorem State.setCpl_latch (s : State) (q : Nat) (x : CplRing) : (s.setCpl q x).latch = s.latch := rfl
@[simp] theorem State.setCpl_stks (s : State) (q : Nat) (x : CplRing) : (s.setCpl q x).stks = s.stks := rfl
@[simp] theorem State.setCpl_lnts (s : State) (q : Nat) (x : CplRing) : (s.setCpl q x).lnts = s.lnts := rfl
@[simp] theorem State.setCpl_clk (s : State) (q : Nat) (x : CplRing) : (s.setCpl q x).clk = s.clk := rfl
@[simp] theorem State.setCpl_pwr (s : State) (q : Nat) (x : CplRing) : (s.setCpl q x).pwr = s.pwr := rfl
@[simp] theorem State.setCpl_rel (s : State) (q : Nat) (x : CplRing) : (s.setCpl q x).rel = s.rel := rfl
@[simp] theorem State.setCpl_fw (s : State) (q : Nat) (x : CplRing) : (s.setCpl q x).fw = s.fw := rfl
@[simp] theorem State.setCpl_sec (s : State) (q : Nat) (x : CplRing) : (s.setCpl q x).sec = s.sec := rfl
@[simp] theorem State.setCpl_boot (s : State) (q : Nat) (x : CplRing) : (s.setCpl q x).boot = s.boot := rfl

/-! ### setBar -/

@[simp] theorem State.setBar_pending (s : State) (off : Nat) (v : Word) : (s.setBar off v).pending = s.pending := rfl
@[simp] theorem State.setBar_fresh (s : State) (off : Nat) (v : Word) : (s.setBar off v).fresh = s.fresh := rfl
@[simp] theorem State.setBar_cores (s : State) (off : Nat) (v : Word) : (s.setBar off v).cores = s.cores := rfl
@[simp] theorem State.setBar_routers (s : State) (off : Nat) (v : Word) : (s.setBar off v).routers = s.routers := rfl
@[simp] theorem State.setBar_fab (s : State) (off : Nat) (v : Word) : (s.setBar off v).fab = s.fab := rfl
@[simp] theorem State.setBar_rgns (s : State) (off : Nat) (v : Word) : (s.setBar off v).rgns = s.rgns := rfl
@[simp] theorem State.setBar_host (s : State) (off : Nat) (v : Word) : (s.setBar off v).host = s.host := rfl
@[simp] theorem State.setBar_w64 (s : State) (off : Nat) (v : Word) : (s.setBar off v).w64 = s.w64 := rfl
@[simp] theorem State.setBar_latch (s : State) (off : Nat) (v : Word) : (s.setBar off v).latch = s.latch := rfl
@[simp] theorem State.setBar_stks (s : State) (off : Nat) (v : Word) : (s.setBar off v).stks = s.stks := rfl
@[simp] theorem State.setBar_lnts (s : State) (off : Nat) (v : Word) : (s.setBar off v).lnts = s.lnts := rfl
@[simp] theorem State.setBar_clk (s : State) (off : Nat) (v : Word) : (s.setBar off v).clk = s.clk := rfl
@[simp] theorem State.setBar_pwr (s : State) (off : Nat) (v : Word) : (s.setBar off v).pwr = s.pwr := rfl
@[simp] theorem State.setBar_rel (s : State) (off : Nat) (v : Word) : (s.setBar off v).rel = s.rel := rfl
@[simp] theorem State.setBar_fw (s : State) (off : Nat) (v : Word) : (s.setBar off v).fw = s.fw := rfl
@[simp] theorem State.setBar_sec (s : State) (off : Nat) (v : Word) : (s.setBar off v).sec = s.sec := rfl
@[simp] theorem State.setBar_boot (s : State) (off : Nat) (v : Word) : (s.setBar off v).boot = s.boot := rfl

/-! ### hostWrite -/

@[simp] theorem State.hostWrite_pending (s : State) (a : Nat) (b : List Byte) : (s.hostWrite a b).pending = s.pending := rfl
@[simp] theorem State.hostWrite_fresh (s : State) (a : Nat) (b : List Byte) : (s.hostWrite a b).fresh = s.fresh := rfl
@[simp] theorem State.hostWrite_cores (s : State) (a : Nat) (b : List Byte) : (s.hostWrite a b).cores = s.cores := rfl
@[simp] theorem State.hostWrite_routers (s : State) (a : Nat) (b : List Byte) : (s.hostWrite a b).routers = s.routers := rfl
@[simp] theorem State.hostWrite_fab (s : State) (a : Nat) (b : List Byte) : (s.hostWrite a b).fab = s.fab := rfl
@[simp] theorem State.hostWrite_rgns (s : State) (a : Nat) (b : List Byte) : (s.hostWrite a b).rgns = s.rgns := rfl
@[simp] theorem State.hostWrite_regs (s : State) (a : Nat) (b : List Byte) : (s.hostWrite a b).regs = s.regs := rfl
@[simp] theorem State.hostWrite_w64 (s : State) (a : Nat) (b : List Byte) : (s.hostWrite a b).w64 = s.w64 := rfl
@[simp] theorem State.hostWrite_latch (s : State) (a : Nat) (b : List Byte) : (s.hostWrite a b).latch = s.latch := rfl
@[simp] theorem State.hostWrite_stks (s : State) (a : Nat) (b : List Byte) : (s.hostWrite a b).stks = s.stks := rfl
@[simp] theorem State.hostWrite_lnts (s : State) (a : Nat) (b : List Byte) : (s.hostWrite a b).lnts = s.lnts := rfl
@[simp] theorem State.hostWrite_clk (s : State) (a : Nat) (b : List Byte) : (s.hostWrite a b).clk = s.clk := rfl
@[simp] theorem State.hostWrite_pwr (s : State) (a : Nat) (b : List Byte) : (s.hostWrite a b).pwr = s.pwr := rfl
@[simp] theorem State.hostWrite_rel (s : State) (a : Nat) (b : List Byte) : (s.hostWrite a b).rel = s.rel := rfl
@[simp] theorem State.hostWrite_fw (s : State) (a : Nat) (b : List Byte) : (s.hostWrite a b).fw = s.fw := rfl
@[simp] theorem State.hostWrite_sec (s : State) (a : Nat) (b : List Byte) : (s.hostWrite a b).sec = s.sec := rfl
@[simp] theorem State.hostWrite_boot (s : State) (a : Nat) (b : List Byte) : (s.hostWrite a b).boot = s.boot := rfl

/-! ### noteRisk -/

@[simp] theorem State.noteRisk_pending (s : State) (ce stretch link : Nat) : (s.noteRisk ce stretch link).pending = s.pending := rfl
@[simp] theorem State.noteRisk_fresh (s : State) (ce stretch link : Nat) : (s.noteRisk ce stretch link).fresh = s.fresh := rfl
@[simp] theorem State.noteRisk_cores (s : State) (ce stretch link : Nat) : (s.noteRisk ce stretch link).cores = s.cores := rfl
@[simp] theorem State.noteRisk_routers (s : State) (ce stretch link : Nat) : (s.noteRisk ce stretch link).routers = s.routers := rfl
@[simp] theorem State.noteRisk_fab (s : State) (ce stretch link : Nat) : (s.noteRisk ce stretch link).fab = s.fab := rfl
@[simp] theorem State.noteRisk_rgns (s : State) (ce stretch link : Nat) : (s.noteRisk ce stretch link).rgns = s.rgns := rfl
@[simp] theorem State.noteRisk_host (s : State) (ce stretch link : Nat) : (s.noteRisk ce stretch link).host = s.host := rfl
@[simp] theorem State.noteRisk_regs (s : State) (ce stretch link : Nat) : (s.noteRisk ce stretch link).regs = s.regs := rfl
@[simp] theorem State.noteRisk_w64 (s : State) (ce stretch link : Nat) : (s.noteRisk ce stretch link).w64 = s.w64 := rfl
@[simp] theorem State.noteRisk_latch (s : State) (ce stretch link : Nat) : (s.noteRisk ce stretch link).latch = s.latch := rfl
@[simp] theorem State.noteRisk_stks (s : State) (ce stretch link : Nat) : (s.noteRisk ce stretch link).stks = s.stks := rfl
@[simp] theorem State.noteRisk_lnts (s : State) (ce stretch link : Nat) : (s.noteRisk ce stretch link).lnts = s.lnts := rfl
@[simp] theorem State.noteRisk_clk (s : State) (ce stretch link : Nat) : (s.noteRisk ce stretch link).clk = s.clk := rfl
@[simp] theorem State.noteRisk_pwr (s : State) (ce stretch link : Nat) : (s.noteRisk ce stretch link).pwr = s.pwr := rfl
@[simp] theorem State.noteRisk_fw (s : State) (ce stretch link : Nat) : (s.noteRisk ce stretch link).fw = s.fw := rfl
@[simp] theorem State.noteRisk_sec (s : State) (ce stretch link : Nat) : (s.noteRisk ce stretch link).sec = s.sec := rfl
@[simp] theorem State.noteRisk_boot (s : State) (ce stretch link : Nat) : (s.noteRisk ce stretch link).boot = s.boot := rfl

/-! ### add64 -/

@[simp] theorem State.add64_pending (s : State) (off n : Nat) : (s.add64 off n).pending = s.pending := rfl
@[simp] theorem State.add64_fresh (s : State) (off n : Nat) : (s.add64 off n).fresh = s.fresh := rfl
@[simp] theorem State.add64_cores (s : State) (off n : Nat) : (s.add64 off n).cores = s.cores := rfl
@[simp] theorem State.add64_routers (s : State) (off n : Nat) : (s.add64 off n).routers = s.routers := rfl
@[simp] theorem State.add64_fab (s : State) (off n : Nat) : (s.add64 off n).fab = s.fab := rfl
@[simp] theorem State.add64_rgns (s : State) (off n : Nat) : (s.add64 off n).rgns = s.rgns := rfl
@[simp] theorem State.add64_host (s : State) (off n : Nat) : (s.add64 off n).host = s.host := rfl
@[simp] theorem State.add64_regs (s : State) (off n : Nat) : (s.add64 off n).regs = s.regs := rfl
@[simp] theorem State.add64_latch (s : State) (off n : Nat) : (s.add64 off n).latch = s.latch := rfl
@[simp] theorem State.add64_stks (s : State) (off n : Nat) : (s.add64 off n).stks = s.stks := rfl
@[simp] theorem State.add64_lnts (s : State) (off n : Nat) : (s.add64 off n).lnts = s.lnts := rfl
@[simp] theorem State.add64_clk (s : State) (off n : Nat) : (s.add64 off n).clk = s.clk := rfl
@[simp] theorem State.add64_pwr (s : State) (off n : Nat) : (s.add64 off n).pwr = s.pwr := rfl
@[simp] theorem State.add64_rel (s : State) (off n : Nat) : (s.add64 off n).rel = s.rel := rfl
@[simp] theorem State.add64_fw (s : State) (off n : Nat) : (s.add64 off n).fw = s.fw := rfl
@[simp] theorem State.add64_sec (s : State) (off n : Nat) : (s.add64 off n).sec = s.sec := rfl
@[simp] theorem State.add64_boot (s : State) (off n : Nat) : (s.add64 off n).boot = s.boot := rfl

/-! ### fly -/

@[simp] theorem State.fly_pending (s : State) (x : Flight) : (s.fly x).pending = s.pending := rfl
@[simp] theorem State.fly_fresh (s : State) (x : Flight) : (s.fly x).fresh = s.fresh := rfl
@[simp] theorem State.fly_cores (s : State) (x : Flight) : (s.fly x).cores = s.cores := rfl
@[simp] theorem State.fly_routers (s : State) (x : Flight) : (s.fly x).routers = s.routers := rfl
@[simp] theorem State.fly_rgns (s : State) (x : Flight) : (s.fly x).rgns = s.rgns := rfl
@[simp] theorem State.fly_host (s : State) (x : Flight) : (s.fly x).host = s.host := rfl
@[simp] theorem State.fly_regs (s : State) (x : Flight) : (s.fly x).regs = s.regs := rfl
@[simp] theorem State.fly_w64 (s : State) (x : Flight) : (s.fly x).w64 = s.w64 := rfl
@[simp] theorem State.fly_latch (s : State) (x : Flight) : (s.fly x).latch = s.latch := rfl
@[simp] theorem State.fly_stks (s : State) (x : Flight) : (s.fly x).stks = s.stks := rfl
@[simp] theorem State.fly_lnts (s : State) (x : Flight) : (s.fly x).lnts = s.lnts := rfl
@[simp] theorem State.fly_clk (s : State) (x : Flight) : (s.fly x).clk = s.clk := rfl
@[simp] theorem State.fly_pwr (s : State) (x : Flight) : (s.fly x).pwr = s.pwr := rfl
@[simp] theorem State.fly_rel (s : State) (x : Flight) : (s.fly x).rel = s.rel := rfl
@[simp] theorem State.fly_fw (s : State) (x : Flight) : (s.fly x).fw = s.fw := rfl
@[simp] theorem State.fly_sec (s : State) (x : Flight) : (s.fly x).sec = s.sec := rfl
@[simp] theorem State.fly_boot (s : State) (x : Flight) : (s.fly x).boot = s.boot := rfl

/-! ### land -/

@[simp] theorem State.land_pending (s : State) (k : SiteId) (b : Packet ⊕ CPacket) : (s.land k b).pending = s.pending := rfl
@[simp] theorem State.land_fresh (s : State) (k : SiteId) (b : Packet ⊕ CPacket) : (s.land k b).fresh = s.fresh := rfl
@[simp] theorem State.land_cores (s : State) (k : SiteId) (b : Packet ⊕ CPacket) : (s.land k b).cores = s.cores := rfl
@[simp] theorem State.land_routers (s : State) (k : SiteId) (b : Packet ⊕ CPacket) : (s.land k b).routers = s.routers := rfl
@[simp] theorem State.land_rgns (s : State) (k : SiteId) (b : Packet ⊕ CPacket) : (s.land k b).rgns = s.rgns := rfl
@[simp] theorem State.land_host (s : State) (k : SiteId) (b : Packet ⊕ CPacket) : (s.land k b).host = s.host := rfl
@[simp] theorem State.land_regs (s : State) (k : SiteId) (b : Packet ⊕ CPacket) : (s.land k b).regs = s.regs := rfl
@[simp] theorem State.land_w64 (s : State) (k : SiteId) (b : Packet ⊕ CPacket) : (s.land k b).w64 = s.w64 := rfl
@[simp] theorem State.land_latch (s : State) (k : SiteId) (b : Packet ⊕ CPacket) : (s.land k b).latch = s.latch := rfl
@[simp] theorem State.land_stks (s : State) (k : SiteId) (b : Packet ⊕ CPacket) : (s.land k b).stks = s.stks := rfl
@[simp] theorem State.land_lnts (s : State) (k : SiteId) (b : Packet ⊕ CPacket) : (s.land k b).lnts = s.lnts := rfl
@[simp] theorem State.land_clk (s : State) (k : SiteId) (b : Packet ⊕ CPacket) : (s.land k b).clk = s.clk := rfl
@[simp] theorem State.land_pwr (s : State) (k : SiteId) (b : Packet ⊕ CPacket) : (s.land k b).pwr = s.pwr := rfl
@[simp] theorem State.land_rel (s : State) (k : SiteId) (b : Packet ⊕ CPacket) : (s.land k b).rel = s.rel := rfl
@[simp] theorem State.land_fw (s : State) (k : SiteId) (b : Packet ⊕ CPacket) : (s.land k b).fw = s.fw := rfl
@[simp] theorem State.land_sec (s : State) (k : SiteId) (b : Packet ⊕ CPacket) : (s.land k b).sec = s.sec := rfl
@[simp] theorem State.land_boot (s : State) (k : SiteId) (b : Packet ⊕ CPacket) : (s.land k b).boot = s.boot := rfl

/-! ### Core.setReg -/

@[simp] theorem Core.setReg_seqr (c : Core) (off : Nat) (v : Word) : (c.setReg off v).seqr = c.seqr := rfl
@[simp] theorem Core.setReg_w64 (c : Core) (off : Nat) (v : Word) : (c.setReg off v).w64 = c.w64 := rfl
@[simp] theorem Core.setReg_latch (c : Core) (off : Nat) (v : Word) : (c.setReg off v).latch = c.latch := rfl
@[simp] theorem Core.setReg_eng (c : Core) (off : Nat) (v : Word) : (c.setReg off v).eng = c.eng := rfl
@[simp] theorem Core.setReg_opSeq (c : Core) (off : Nat) (v : Word) : (c.setReg off v).opSeq = c.opSeq := rfl
@[simp] theorem Core.setReg_acc (c : Core) (off : Nat) (v : Word) : (c.setReg off v).acc = c.acc := rfl
@[simp] theorem Core.setReg_active (c : Core) (off : Nat) (v : Word) : (c.setReg off v).active = c.active := rfl
@[simp] theorem Core.setReg_shadow (c : Core) (off : Nat) (v : Word) : (c.setReg off v).shadow = c.shadow := rfl
@[simp] theorem Core.setReg_loading (c : Core) (off : Nat) (v : Word) : (c.setReg off v).loading = c.loading := rfl
@[simp] theorem Core.setReg_accEng (c : Core) (off : Nat) (v : Word) : (c.setReg off v).accEng = c.accEng := rfl
@[simp] theorem Core.setReg_checker (c : Core) (off : Nat) (v : Word) : (c.setReg off v).checker = c.checker := rfl
@[simp] theorem Core.setReg_sram (c : Core) (off : Nat) (v : Word) : (c.setReg off v).sram = c.sram := rfl
@[simp] theorem Core.setReg_banks (c : Core) (off : Nat) (v : Word) : (c.setReg off v).banks = c.banks := rfl
@[simp] theorem Core.setReg_spare (c : Core) (off : Nat) (v : Word) : (c.setReg off v).spare = c.spare := rfl
@[simp] theorem Core.setReg_march (c : Core) (off : Nat) (v : Word) : (c.setReg off v).march = c.march := rfl
@[simp] theorem Core.setReg_tokq (c : Core) (off : Nat) (v : Word) : (c.setReg off v).tokq = c.tokq := rfl
@[simp] theorem Core.setReg_switch (c : Core) (off : Nat) (v : Word) : (c.setReg off v).switch = c.switch := rfl
@[simp] theorem Core.setReg_swPos (c : Core) (off : Nat) (v : Word) : (c.setReg off v).swPos = c.swPos := rfl
@[simp] theorem Core.setReg_schPos (c : Core) (off : Nat) (v : Word) : (c.setReg off v).schPos = c.schPos := rfl
@[simp] theorem Core.setReg_launch (c : Core) (off : Nat) (v : Word) : (c.setReg off v).launch = c.launch := rfl
@[simp] theorem Core.setReg_drainArm (c : Core) (off : Nat) (v : Word) : (c.setReg off v).drainArm = c.drainArm := rfl
@[simp] theorem Core.setReg_chan (c : Core) (off : Nat) (v : Word) : (c.setReg off v).chan = c.chan := rfl
@[simp] theorem Core.setReg_cmb (c : Core) (off : Nat) (v : Word) : (c.setReg off v).cmb = c.cmb := rfl
@[simp] theorem Core.setReg_cmbRound (c : Core) (off : Nat) (v : Word) : (c.setReg off v).cmbRound = c.cmbRound := rfl
@[simp] theorem Core.setReg_sense (c : Core) (off : Nat) (v : Word) : (c.setReg off v).sense = c.sense := rfl
@[simp] theorem Core.setReg_net (c : Core) (off : Nat) (v : Word) : (c.setReg off v).net = c.net := rfl
@[simp] theorem Core.setReg_inReset (c : Core) (off : Nat) (v : Word) : (c.setReg off v).inReset = c.inReset := rfl
@[simp] theorem Core.setReg_quiesce (c : Core) (off : Nat) (v : Word) : (c.setReg off v).quiesce = c.quiesce := rfl

/-! ### Core.add64 -/

@[simp] theorem Core.add64_seqr (c : Core) (off n : Nat) : (c.add64 off n).seqr = c.seqr := rfl
@[simp] theorem Core.add64_regs (c : Core) (off n : Nat) : (c.add64 off n).regs = c.regs := rfl
@[simp] theorem Core.add64_latch (c : Core) (off n : Nat) : (c.add64 off n).latch = c.latch := rfl
@[simp] theorem Core.add64_eng (c : Core) (off n : Nat) : (c.add64 off n).eng = c.eng := rfl
@[simp] theorem Core.add64_opSeq (c : Core) (off n : Nat) : (c.add64 off n).opSeq = c.opSeq := rfl
@[simp] theorem Core.add64_acc (c : Core) (off n : Nat) : (c.add64 off n).acc = c.acc := rfl
@[simp] theorem Core.add64_active (c : Core) (off n : Nat) : (c.add64 off n).active = c.active := rfl
@[simp] theorem Core.add64_shadow (c : Core) (off n : Nat) : (c.add64 off n).shadow = c.shadow := rfl
@[simp] theorem Core.add64_loading (c : Core) (off n : Nat) : (c.add64 off n).loading = c.loading := rfl
@[simp] theorem Core.add64_accEng (c : Core) (off n : Nat) : (c.add64 off n).accEng = c.accEng := rfl
@[simp] theorem Core.add64_checker (c : Core) (off n : Nat) : (c.add64 off n).checker = c.checker := rfl
@[simp] theorem Core.add64_sram (c : Core) (off n : Nat) : (c.add64 off n).sram = c.sram := rfl
@[simp] theorem Core.add64_banks (c : Core) (off n : Nat) : (c.add64 off n).banks = c.banks := rfl
@[simp] theorem Core.add64_spare (c : Core) (off n : Nat) : (c.add64 off n).spare = c.spare := rfl
@[simp] theorem Core.add64_march (c : Core) (off n : Nat) : (c.add64 off n).march = c.march := rfl
@[simp] theorem Core.add64_tokq (c : Core) (off n : Nat) : (c.add64 off n).tokq = c.tokq := rfl
@[simp] theorem Core.add64_switch (c : Core) (off n : Nat) : (c.add64 off n).switch = c.switch := rfl
@[simp] theorem Core.add64_swPos (c : Core) (off n : Nat) : (c.add64 off n).swPos = c.swPos := rfl
@[simp] theorem Core.add64_schPos (c : Core) (off n : Nat) : (c.add64 off n).schPos = c.schPos := rfl
@[simp] theorem Core.add64_launch (c : Core) (off n : Nat) : (c.add64 off n).launch = c.launch := rfl
@[simp] theorem Core.add64_drainArm (c : Core) (off n : Nat) : (c.add64 off n).drainArm = c.drainArm := rfl
@[simp] theorem Core.add64_chan (c : Core) (off n : Nat) : (c.add64 off n).chan = c.chan := rfl
@[simp] theorem Core.add64_cmb (c : Core) (off n : Nat) : (c.add64 off n).cmb = c.cmb := rfl
@[simp] theorem Core.add64_cmbRound (c : Core) (off n : Nat) : (c.add64 off n).cmbRound = c.cmbRound := rfl
@[simp] theorem Core.add64_sense (c : Core) (off n : Nat) : (c.add64 off n).sense = c.sense := rfl
@[simp] theorem Core.add64_net (c : Core) (off n : Nat) : (c.add64 off n).net = c.net := rfl
@[simp] theorem Core.add64_inReset (c : Core) (off n : Nat) : (c.add64 off n).inReset = c.inReset := rfl
@[simp] theorem Core.add64_quiesce (c : Core) (off n : Nat) : (c.add64 off n).quiesce = c.quiesce := rfl

/-! ### Core.setCtx -/

@[simp] theorem Core.setCtx_regs (c : Core) (i : Nat) (x : Ctx) : (c.setCtx i x).regs = c.regs := rfl
@[simp] theorem Core.setCtx_w64 (c : Core) (i : Nat) (x : Ctx) : (c.setCtx i x).w64 = c.w64 := rfl
@[simp] theorem Core.setCtx_latch (c : Core) (i : Nat) (x : Ctx) : (c.setCtx i x).latch = c.latch := rfl
@[simp] theorem Core.setCtx_eng (c : Core) (i : Nat) (x : Ctx) : (c.setCtx i x).eng = c.eng := rfl
@[simp] theorem Core.setCtx_opSeq (c : Core) (i : Nat) (x : Ctx) : (c.setCtx i x).opSeq = c.opSeq := rfl
@[simp] theorem Core.setCtx_acc (c : Core) (i : Nat) (x : Ctx) : (c.setCtx i x).acc = c.acc := rfl
@[simp] theorem Core.setCtx_active (c : Core) (i : Nat) (x : Ctx) : (c.setCtx i x).active = c.active := rfl
@[simp] theorem Core.setCtx_shadow (c : Core) (i : Nat) (x : Ctx) : (c.setCtx i x).shadow = c.shadow := rfl
@[simp] theorem Core.setCtx_loading (c : Core) (i : Nat) (x : Ctx) : (c.setCtx i x).loading = c.loading := rfl
@[simp] theorem Core.setCtx_accEng (c : Core) (i : Nat) (x : Ctx) : (c.setCtx i x).accEng = c.accEng := rfl
@[simp] theorem Core.setCtx_checker (c : Core) (i : Nat) (x : Ctx) : (c.setCtx i x).checker = c.checker := rfl
@[simp] theorem Core.setCtx_sram (c : Core) (i : Nat) (x : Ctx) : (c.setCtx i x).sram = c.sram := rfl
@[simp] theorem Core.setCtx_banks (c : Core) (i : Nat) (x : Ctx) : (c.setCtx i x).banks = c.banks := rfl
@[simp] theorem Core.setCtx_spare (c : Core) (i : Nat) (x : Ctx) : (c.setCtx i x).spare = c.spare := rfl
@[simp] theorem Core.setCtx_march (c : Core) (i : Nat) (x : Ctx) : (c.setCtx i x).march = c.march := rfl
@[simp] theorem Core.setCtx_tokq (c : Core) (i : Nat) (x : Ctx) : (c.setCtx i x).tokq = c.tokq := rfl
@[simp] theorem Core.setCtx_switch (c : Core) (i : Nat) (x : Ctx) : (c.setCtx i x).switch = c.switch := rfl
@[simp] theorem Core.setCtx_swPos (c : Core) (i : Nat) (x : Ctx) : (c.setCtx i x).swPos = c.swPos := rfl
@[simp] theorem Core.setCtx_schPos (c : Core) (i : Nat) (x : Ctx) : (c.setCtx i x).schPos = c.schPos := rfl
@[simp] theorem Core.setCtx_launch (c : Core) (i : Nat) (x : Ctx) : (c.setCtx i x).launch = c.launch := rfl
@[simp] theorem Core.setCtx_drainArm (c : Core) (i : Nat) (x : Ctx) : (c.setCtx i x).drainArm = c.drainArm := rfl
@[simp] theorem Core.setCtx_chan (c : Core) (i : Nat) (x : Ctx) : (c.setCtx i x).chan = c.chan := rfl
@[simp] theorem Core.setCtx_cmb (c : Core) (i : Nat) (x : Ctx) : (c.setCtx i x).cmb = c.cmb := rfl
@[simp] theorem Core.setCtx_cmbRound (c : Core) (i : Nat) (x : Ctx) : (c.setCtx i x).cmbRound = c.cmbRound := rfl
@[simp] theorem Core.setCtx_sense (c : Core) (i : Nat) (x : Ctx) : (c.setCtx i x).sense = c.sense := rfl
@[simp] theorem Core.setCtx_net (c : Core) (i : Nat) (x : Ctx) : (c.setCtx i x).net = c.net := rfl
@[simp] theorem Core.setCtx_inReset (c : Core) (i : Nat) (x : Ctx) : (c.setCtx i x).inReset = c.inReset := rfl
@[simp] theorem Core.setCtx_quiesce (c : Core) (i : Nat) (x : Ctx) : (c.setCtx i x).quiesce = c.quiesce := rfl

/-! ### Core.setEngine -/

@[simp] theorem Core.setEngine_seqr (c : Core) (e : Nat) (x : Engine) : (c.setEngine e x).seqr = c.seqr := rfl
@[simp] theorem Core.setEngine_regs (c : Core) (e : Nat) (x : Engine) : (c.setEngine e x).regs = c.regs := rfl
@[simp] theorem Core.setEngine_w64 (c : Core) (e : Nat) (x : Engine) : (c.setEngine e x).w64 = c.w64 := rfl
@[simp] theorem Core.setEngine_latch (c : Core) (e : Nat) (x : Engine) : (c.setEngine e x).latch = c.latch := rfl
@[simp] theorem Core.setEngine_opSeq (c : Core) (e : Nat) (x : Engine) : (c.setEngine e x).opSeq = c.opSeq := rfl
@[simp] theorem Core.setEngine_acc (c : Core) (e : Nat) (x : Engine) : (c.setEngine e x).acc = c.acc := rfl
@[simp] theorem Core.setEngine_active (c : Core) (e : Nat) (x : Engine) : (c.setEngine e x).active = c.active := rfl
@[simp] theorem Core.setEngine_shadow (c : Core) (e : Nat) (x : Engine) : (c.setEngine e x).shadow = c.shadow := rfl
@[simp] theorem Core.setEngine_loading (c : Core) (e : Nat) (x : Engine) : (c.setEngine e x).loading = c.loading := rfl
@[simp] theorem Core.setEngine_accEng (c : Core) (e : Nat) (x : Engine) : (c.setEngine e x).accEng = c.accEng := rfl
@[simp] theorem Core.setEngine_checker (c : Core) (e : Nat) (x : Engine) : (c.setEngine e x).checker = c.checker := rfl
@[simp] theorem Core.setEngine_sram (c : Core) (e : Nat) (x : Engine) : (c.setEngine e x).sram = c.sram := rfl
@[simp] theorem Core.setEngine_banks (c : Core) (e : Nat) (x : Engine) : (c.setEngine e x).banks = c.banks := rfl
@[simp] theorem Core.setEngine_spare (c : Core) (e : Nat) (x : Engine) : (c.setEngine e x).spare = c.spare := rfl
@[simp] theorem Core.setEngine_march (c : Core) (e : Nat) (x : Engine) : (c.setEngine e x).march = c.march := rfl
@[simp] theorem Core.setEngine_tokq (c : Core) (e : Nat) (x : Engine) : (c.setEngine e x).tokq = c.tokq := rfl
@[simp] theorem Core.setEngine_switch (c : Core) (e : Nat) (x : Engine) : (c.setEngine e x).switch = c.switch := rfl
@[simp] theorem Core.setEngine_swPos (c : Core) (e : Nat) (x : Engine) : (c.setEngine e x).swPos = c.swPos := rfl
@[simp] theorem Core.setEngine_schPos (c : Core) (e : Nat) (x : Engine) : (c.setEngine e x).schPos = c.schPos := rfl
@[simp] theorem Core.setEngine_launch (c : Core) (e : Nat) (x : Engine) : (c.setEngine e x).launch = c.launch := rfl
@[simp] theorem Core.setEngine_drainArm (c : Core) (e : Nat) (x : Engine) : (c.setEngine e x).drainArm = c.drainArm := rfl
@[simp] theorem Core.setEngine_chan (c : Core) (e : Nat) (x : Engine) : (c.setEngine e x).chan = c.chan := rfl
@[simp] theorem Core.setEngine_cmb (c : Core) (e : Nat) (x : Engine) : (c.setEngine e x).cmb = c.cmb := rfl
@[simp] theorem Core.setEngine_cmbRound (c : Core) (e : Nat) (x : Engine) : (c.setEngine e x).cmbRound = c.cmbRound := rfl
@[simp] theorem Core.setEngine_sense (c : Core) (e : Nat) (x : Engine) : (c.setEngine e x).sense = c.sense := rfl
@[simp] theorem Core.setEngine_net (c : Core) (e : Nat) (x : Engine) : (c.setEngine e x).net = c.net := rfl
@[simp] theorem Core.setEngine_inReset (c : Core) (e : Nat) (x : Engine) : (c.setEngine e x).inReset = c.inReset := rfl
@[simp] theorem Core.setEngine_quiesce (c : Core) (e : Nat) (x : Engine) : (c.setEngine e x).quiesce = c.quiesce := rfl

/-! ### Core.setAcc -/

@[simp] theorem Core.setAcc_seqr (c : Core) (a : Nat) (x : AccEng) : (c.setAcc a x).seqr = c.seqr := rfl
@[simp] theorem Core.setAcc_regs (c : Core) (a : Nat) (x : AccEng) : (c.setAcc a x).regs = c.regs := rfl
@[simp] theorem Core.setAcc_w64 (c : Core) (a : Nat) (x : AccEng) : (c.setAcc a x).w64 = c.w64 := rfl
@[simp] theorem Core.setAcc_latch (c : Core) (a : Nat) (x : AccEng) : (c.setAcc a x).latch = c.latch := rfl
@[simp] theorem Core.setAcc_eng (c : Core) (a : Nat) (x : AccEng) : (c.setAcc a x).eng = c.eng := rfl
@[simp] theorem Core.setAcc_opSeq (c : Core) (a : Nat) (x : AccEng) : (c.setAcc a x).opSeq = c.opSeq := rfl
@[simp] theorem Core.setAcc_acc (c : Core) (a : Nat) (x : AccEng) : (c.setAcc a x).acc = c.acc := rfl
@[simp] theorem Core.setAcc_active (c : Core) (a : Nat) (x : AccEng) : (c.setAcc a x).active = c.active := rfl
@[simp] theorem Core.setAcc_shadow (c : Core) (a : Nat) (x : AccEng) : (c.setAcc a x).shadow = c.shadow := rfl
@[simp] theorem Core.setAcc_loading (c : Core) (a : Nat) (x : AccEng) : (c.setAcc a x).loading = c.loading := rfl
@[simp] theorem Core.setAcc_checker (c : Core) (a : Nat) (x : AccEng) : (c.setAcc a x).checker = c.checker := rfl
@[simp] theorem Core.setAcc_sram (c : Core) (a : Nat) (x : AccEng) : (c.setAcc a x).sram = c.sram := rfl
@[simp] theorem Core.setAcc_banks (c : Core) (a : Nat) (x : AccEng) : (c.setAcc a x).banks = c.banks := rfl
@[simp] theorem Core.setAcc_spare (c : Core) (a : Nat) (x : AccEng) : (c.setAcc a x).spare = c.spare := rfl
@[simp] theorem Core.setAcc_march (c : Core) (a : Nat) (x : AccEng) : (c.setAcc a x).march = c.march := rfl
@[simp] theorem Core.setAcc_tokq (c : Core) (a : Nat) (x : AccEng) : (c.setAcc a x).tokq = c.tokq := rfl
@[simp] theorem Core.setAcc_switch (c : Core) (a : Nat) (x : AccEng) : (c.setAcc a x).switch = c.switch := rfl
@[simp] theorem Core.setAcc_swPos (c : Core) (a : Nat) (x : AccEng) : (c.setAcc a x).swPos = c.swPos := rfl
@[simp] theorem Core.setAcc_schPos (c : Core) (a : Nat) (x : AccEng) : (c.setAcc a x).schPos = c.schPos := rfl
@[simp] theorem Core.setAcc_launch (c : Core) (a : Nat) (x : AccEng) : (c.setAcc a x).launch = c.launch := rfl
@[simp] theorem Core.setAcc_drainArm (c : Core) (a : Nat) (x : AccEng) : (c.setAcc a x).drainArm = c.drainArm := rfl
@[simp] theorem Core.setAcc_chan (c : Core) (a : Nat) (x : AccEng) : (c.setAcc a x).chan = c.chan := rfl
@[simp] theorem Core.setAcc_cmb (c : Core) (a : Nat) (x : AccEng) : (c.setAcc a x).cmb = c.cmb := rfl
@[simp] theorem Core.setAcc_cmbRound (c : Core) (a : Nat) (x : AccEng) : (c.setAcc a x).cmbRound = c.cmbRound := rfl
@[simp] theorem Core.setAcc_sense (c : Core) (a : Nat) (x : AccEng) : (c.setAcc a x).sense = c.sense := rfl
@[simp] theorem Core.setAcc_net (c : Core) (a : Nat) (x : AccEng) : (c.setAcc a x).net = c.net := rfl
@[simp] theorem Core.setAcc_inReset (c : Core) (a : Nat) (x : AccEng) : (c.setAcc a x).inReset = c.inReset := rfl
@[simp] theorem Core.setAcc_quiesce (c : Core) (a : Nat) (x : AccEng) : (c.setAcc a x).quiesce = c.quiesce := rfl

/-! ### Core.setBank -/

@[simp] theorem Core.setBank_seqr (c : Core) (b : Nat) (x : BankSt) : (c.setBank b x).seqr = c.seqr := rfl
@[simp] theorem Core.setBank_regs (c : Core) (b : Nat) (x : BankSt) : (c.setBank b x).regs = c.regs := rfl
@[simp] theorem Core.setBank_w64 (c : Core) (b : Nat) (x : BankSt) : (c.setBank b x).w64 = c.w64 := rfl
@[simp] theorem Core.setBank_latch (c : Core) (b : Nat) (x : BankSt) : (c.setBank b x).latch = c.latch := rfl
@[simp] theorem Core.setBank_eng (c : Core) (b : Nat) (x : BankSt) : (c.setBank b x).eng = c.eng := rfl
@[simp] theorem Core.setBank_opSeq (c : Core) (b : Nat) (x : BankSt) : (c.setBank b x).opSeq = c.opSeq := rfl
@[simp] theorem Core.setBank_acc (c : Core) (b : Nat) (x : BankSt) : (c.setBank b x).acc = c.acc := rfl
@[simp] theorem Core.setBank_active (c : Core) (b : Nat) (x : BankSt) : (c.setBank b x).active = c.active := rfl
@[simp] theorem Core.setBank_shadow (c : Core) (b : Nat) (x : BankSt) : (c.setBank b x).shadow = c.shadow := rfl
@[simp] theorem Core.setBank_loading (c : Core) (b : Nat) (x : BankSt) : (c.setBank b x).loading = c.loading := rfl
@[simp] theorem Core.setBank_accEng (c : Core) (b : Nat) (x : BankSt) : (c.setBank b x).accEng = c.accEng := rfl
@[simp] theorem Core.setBank_checker (c : Core) (b : Nat) (x : BankSt) : (c.setBank b x).checker = c.checker := rfl
@[simp] theorem Core.setBank_sram (c : Core) (b : Nat) (x : BankSt) : (c.setBank b x).sram = c.sram := rfl
@[simp] theorem Core.setBank_spare (c : Core) (b : Nat) (x : BankSt) : (c.setBank b x).spare = c.spare := rfl
@[simp] theorem Core.setBank_march (c : Core) (b : Nat) (x : BankSt) : (c.setBank b x).march = c.march := rfl
@[simp] theorem Core.setBank_tokq (c : Core) (b : Nat) (x : BankSt) : (c.setBank b x).tokq = c.tokq := rfl
@[simp] theorem Core.setBank_switch (c : Core) (b : Nat) (x : BankSt) : (c.setBank b x).switch = c.switch := rfl
@[simp] theorem Core.setBank_swPos (c : Core) (b : Nat) (x : BankSt) : (c.setBank b x).swPos = c.swPos := rfl
@[simp] theorem Core.setBank_schPos (c : Core) (b : Nat) (x : BankSt) : (c.setBank b x).schPos = c.schPos := rfl
@[simp] theorem Core.setBank_launch (c : Core) (b : Nat) (x : BankSt) : (c.setBank b x).launch = c.launch := rfl
@[simp] theorem Core.setBank_drainArm (c : Core) (b : Nat) (x : BankSt) : (c.setBank b x).drainArm = c.drainArm := rfl
@[simp] theorem Core.setBank_chan (c : Core) (b : Nat) (x : BankSt) : (c.setBank b x).chan = c.chan := rfl
@[simp] theorem Core.setBank_cmb (c : Core) (b : Nat) (x : BankSt) : (c.setBank b x).cmb = c.cmb := rfl
@[simp] theorem Core.setBank_cmbRound (c : Core) (b : Nat) (x : BankSt) : (c.setBank b x).cmbRound = c.cmbRound := rfl
@[simp] theorem Core.setBank_sense (c : Core) (b : Nat) (x : BankSt) : (c.setBank b x).sense = c.sense := rfl
@[simp] theorem Core.setBank_net (c : Core) (b : Nat) (x : BankSt) : (c.setBank b x).net = c.net := rfl
@[simp] theorem Core.setBank_inReset (c : Core) (b : Nat) (x : BankSt) : (c.setBank b x).inReset = c.inReset := rfl
@[simp] theorem Core.setBank_quiesce (c : Core) (b : Nat) (x : BankSt) : (c.setBank b x).quiesce = c.quiesce := rfl

/-! ### Core.setWait -/

@[simp] theorem Core.setWait_regs (c : Core) (w : Wait) : (c.setWait w).regs = c.regs := rfl
@[simp] theorem Core.setWait_w64 (c : Core) (w : Wait) : (c.setWait w).w64 = c.w64 := rfl
@[simp] theorem Core.setWait_latch (c : Core) (w : Wait) : (c.setWait w).latch = c.latch := rfl
@[simp] theorem Core.setWait_eng (c : Core) (w : Wait) : (c.setWait w).eng = c.eng := rfl
@[simp] theorem Core.setWait_opSeq (c : Core) (w : Wait) : (c.setWait w).opSeq = c.opSeq := rfl
@[simp] theorem Core.setWait_acc (c : Core) (w : Wait) : (c.setWait w).acc = c.acc := rfl
@[simp] theorem Core.setWait_active (c : Core) (w : Wait) : (c.setWait w).active = c.active := rfl
@[simp] theorem Core.setWait_shadow (c : Core) (w : Wait) : (c.setWait w).shadow = c.shadow := rfl
@[simp] theorem Core.setWait_loading (c : Core) (w : Wait) : (c.setWait w).loading = c.loading := rfl
@[simp] theorem Core.setWait_accEng (c : Core) (w : Wait) : (c.setWait w).accEng = c.accEng := rfl
@[simp] theorem Core.setWait_checker (c : Core) (w : Wait) : (c.setWait w).checker = c.checker := rfl
@[simp] theorem Core.setWait_sram (c : Core) (w : Wait) : (c.setWait w).sram = c.sram := rfl
@[simp] theorem Core.setWait_banks (c : Core) (w : Wait) : (c.setWait w).banks = c.banks := rfl
@[simp] theorem Core.setWait_spare (c : Core) (w : Wait) : (c.setWait w).spare = c.spare := rfl
@[simp] theorem Core.setWait_march (c : Core) (w : Wait) : (c.setWait w).march = c.march := rfl
@[simp] theorem Core.setWait_tokq (c : Core) (w : Wait) : (c.setWait w).tokq = c.tokq := rfl
@[simp] theorem Core.setWait_switch (c : Core) (w : Wait) : (c.setWait w).switch = c.switch := rfl
@[simp] theorem Core.setWait_swPos (c : Core) (w : Wait) : (c.setWait w).swPos = c.swPos := rfl
@[simp] theorem Core.setWait_schPos (c : Core) (w : Wait) : (c.setWait w).schPos = c.schPos := rfl
@[simp] theorem Core.setWait_launch (c : Core) (w : Wait) : (c.setWait w).launch = c.launch := rfl
@[simp] theorem Core.setWait_drainArm (c : Core) (w : Wait) : (c.setWait w).drainArm = c.drainArm := rfl
@[simp] theorem Core.setWait_chan (c : Core) (w : Wait) : (c.setWait w).chan = c.chan := rfl
@[simp] theorem Core.setWait_cmb (c : Core) (w : Wait) : (c.setWait w).cmb = c.cmb := rfl
@[simp] theorem Core.setWait_cmbRound (c : Core) (w : Wait) : (c.setWait w).cmbRound = c.cmbRound := rfl
@[simp] theorem Core.setWait_sense (c : Core) (w : Wait) : (c.setWait w).sense = c.sense := rfl
@[simp] theorem Core.setWait_net (c : Core) (w : Wait) : (c.setWait w).net = c.net := rfl
@[simp] theorem Core.setWait_inReset (c : Core) (w : Wait) : (c.setWait w).inReset = c.inReset := rfl
@[simp] theorem Core.setWait_quiesce (c : Core) (w : Wait) : (c.setWait w).quiesce = c.quiesce := rfl

/-! ### Core.setTq -/

@[simp] theorem Core.setTq_seqr (c : Core) (n : Nat) (x : TokQ) : (c.setTq n x).seqr = c.seqr := rfl
@[simp] theorem Core.setTq_regs (c : Core) (n : Nat) (x : TokQ) : (c.setTq n x).regs = c.regs := rfl
@[simp] theorem Core.setTq_w64 (c : Core) (n : Nat) (x : TokQ) : (c.setTq n x).w64 = c.w64 := rfl
@[simp] theorem Core.setTq_latch (c : Core) (n : Nat) (x : TokQ) : (c.setTq n x).latch = c.latch := rfl
@[simp] theorem Core.setTq_eng (c : Core) (n : Nat) (x : TokQ) : (c.setTq n x).eng = c.eng := rfl
@[simp] theorem Core.setTq_opSeq (c : Core) (n : Nat) (x : TokQ) : (c.setTq n x).opSeq = c.opSeq := rfl
@[simp] theorem Core.setTq_acc (c : Core) (n : Nat) (x : TokQ) : (c.setTq n x).acc = c.acc := rfl
@[simp] theorem Core.setTq_active (c : Core) (n : Nat) (x : TokQ) : (c.setTq n x).active = c.active := rfl
@[simp] theorem Core.setTq_shadow (c : Core) (n : Nat) (x : TokQ) : (c.setTq n x).shadow = c.shadow := rfl
@[simp] theorem Core.setTq_loading (c : Core) (n : Nat) (x : TokQ) : (c.setTq n x).loading = c.loading := rfl
@[simp] theorem Core.setTq_accEng (c : Core) (n : Nat) (x : TokQ) : (c.setTq n x).accEng = c.accEng := rfl
@[simp] theorem Core.setTq_checker (c : Core) (n : Nat) (x : TokQ) : (c.setTq n x).checker = c.checker := rfl
@[simp] theorem Core.setTq_sram (c : Core) (n : Nat) (x : TokQ) : (c.setTq n x).sram = c.sram := rfl
@[simp] theorem Core.setTq_banks (c : Core) (n : Nat) (x : TokQ) : (c.setTq n x).banks = c.banks := rfl
@[simp] theorem Core.setTq_spare (c : Core) (n : Nat) (x : TokQ) : (c.setTq n x).spare = c.spare := rfl
@[simp] theorem Core.setTq_march (c : Core) (n : Nat) (x : TokQ) : (c.setTq n x).march = c.march := rfl
@[simp] theorem Core.setTq_switch (c : Core) (n : Nat) (x : TokQ) : (c.setTq n x).switch = c.switch := rfl
@[simp] theorem Core.setTq_swPos (c : Core) (n : Nat) (x : TokQ) : (c.setTq n x).swPos = c.swPos := rfl
@[simp] theorem Core.setTq_schPos (c : Core) (n : Nat) (x : TokQ) : (c.setTq n x).schPos = c.schPos := rfl
@[simp] theorem Core.setTq_launch (c : Core) (n : Nat) (x : TokQ) : (c.setTq n x).launch = c.launch := rfl
@[simp] theorem Core.setTq_drainArm (c : Core) (n : Nat) (x : TokQ) : (c.setTq n x).drainArm = c.drainArm := rfl
@[simp] theorem Core.setTq_chan (c : Core) (n : Nat) (x : TokQ) : (c.setTq n x).chan = c.chan := rfl
@[simp] theorem Core.setTq_cmb (c : Core) (n : Nat) (x : TokQ) : (c.setTq n x).cmb = c.cmb := rfl
@[simp] theorem Core.setTq_cmbRound (c : Core) (n : Nat) (x : TokQ) : (c.setTq n x).cmbRound = c.cmbRound := rfl
@[simp] theorem Core.setTq_sense (c : Core) (n : Nat) (x : TokQ) : (c.setTq n x).sense = c.sense := rfl
@[simp] theorem Core.setTq_net (c : Core) (n : Nat) (x : TokQ) : (c.setTq n x).net = c.net := rfl
@[simp] theorem Core.setTq_inReset (c : Core) (n : Nat) (x : TokQ) : (c.setTq n x).inReset = c.inReset := rfl
@[simp] theorem Core.setTq_quiesce (c : Core) (n : Nat) (x : TokQ) : (c.setTq n x).quiesce = c.quiesce := rfl

/-! ### Core.setChan -/

@[simp] theorem Core.setChan_seqr (c : Core) (off : Nat) (v : Word) : (c.setChan off v).seqr = c.seqr := rfl
@[simp] theorem Core.setChan_regs (c : Core) (off : Nat) (v : Word) : (c.setChan off v).regs = c.regs := rfl
@[simp] theorem Core.setChan_w64 (c : Core) (off : Nat) (v : Word) : (c.setChan off v).w64 = c.w64 := rfl
@[simp] theorem Core.setChan_latch (c : Core) (off : Nat) (v : Word) : (c.setChan off v).latch = c.latch := rfl
@[simp] theorem Core.setChan_eng (c : Core) (off : Nat) (v : Word) : (c.setChan off v).eng = c.eng := rfl
@[simp] theorem Core.setChan_opSeq (c : Core) (off : Nat) (v : Word) : (c.setChan off v).opSeq = c.opSeq := rfl
@[simp] theorem Core.setChan_acc (c : Core) (off : Nat) (v : Word) : (c.setChan off v).acc = c.acc := rfl
@[simp] theorem Core.setChan_active (c : Core) (off : Nat) (v : Word) : (c.setChan off v).active = c.active := rfl
@[simp] theorem Core.setChan_shadow (c : Core) (off : Nat) (v : Word) : (c.setChan off v).shadow = c.shadow := rfl
@[simp] theorem Core.setChan_loading (c : Core) (off : Nat) (v : Word) : (c.setChan off v).loading = c.loading := rfl
@[simp] theorem Core.setChan_accEng (c : Core) (off : Nat) (v : Word) : (c.setChan off v).accEng = c.accEng := rfl
@[simp] theorem Core.setChan_checker (c : Core) (off : Nat) (v : Word) : (c.setChan off v).checker = c.checker := rfl
@[simp] theorem Core.setChan_sram (c : Core) (off : Nat) (v : Word) : (c.setChan off v).sram = c.sram := rfl
@[simp] theorem Core.setChan_banks (c : Core) (off : Nat) (v : Word) : (c.setChan off v).banks = c.banks := rfl
@[simp] theorem Core.setChan_spare (c : Core) (off : Nat) (v : Word) : (c.setChan off v).spare = c.spare := rfl
@[simp] theorem Core.setChan_march (c : Core) (off : Nat) (v : Word) : (c.setChan off v).march = c.march := rfl
@[simp] theorem Core.setChan_tokq (c : Core) (off : Nat) (v : Word) : (c.setChan off v).tokq = c.tokq := rfl
@[simp] theorem Core.setChan_switch (c : Core) (off : Nat) (v : Word) : (c.setChan off v).switch = c.switch := rfl
@[simp] theorem Core.setChan_swPos (c : Core) (off : Nat) (v : Word) : (c.setChan off v).swPos = c.swPos := rfl
@[simp] theorem Core.setChan_schPos (c : Core) (off : Nat) (v : Word) : (c.setChan off v).schPos = c.schPos := rfl
@[simp] theorem Core.setChan_launch (c : Core) (off : Nat) (v : Word) : (c.setChan off v).launch = c.launch := rfl
@[simp] theorem Core.setChan_drainArm (c : Core) (off : Nat) (v : Word) : (c.setChan off v).drainArm = c.drainArm := rfl
@[simp] theorem Core.setChan_cmb (c : Core) (off : Nat) (v : Word) : (c.setChan off v).cmb = c.cmb := rfl
@[simp] theorem Core.setChan_cmbRound (c : Core) (off : Nat) (v : Word) : (c.setChan off v).cmbRound = c.cmbRound := rfl
@[simp] theorem Core.setChan_sense (c : Core) (off : Nat) (v : Word) : (c.setChan off v).sense = c.sense := rfl
@[simp] theorem Core.setChan_net (c : Core) (off : Nat) (v : Word) : (c.setChan off v).net = c.net := rfl
@[simp] theorem Core.setChan_inReset (c : Core) (off : Nat) (v : Word) : (c.setChan off v).inReset = c.inReset := rfl
@[simp] theorem Core.setChan_quiesce (c : Core) (off : Nat) (v : Word) : (c.setChan off v).quiesce = c.quiesce := rfl

/-! ### Core.latchHigh -/

@[simp] theorem Core.latchHigh_seqr (c : Core) (off : Nat) (v : DWord) : (c.latchHigh off v).seqr = c.seqr := rfl
@[simp] theorem Core.latchHigh_regs (c : Core) (off : Nat) (v : DWord) : (c.latchHigh off v).regs = c.regs := rfl
@[simp] theorem Core.latchHigh_w64 (c : Core) (off : Nat) (v : DWord) : (c.latchHigh off v).w64 = c.w64 := rfl
@[simp] theorem Core.latchHigh_eng (c : Core) (off : Nat) (v : DWord) : (c.latchHigh off v).eng = c.eng := rfl
@[simp] theorem Core.latchHigh_opSeq (c : Core) (off : Nat) (v : DWord) : (c.latchHigh off v).opSeq = c.opSeq := rfl
@[simp] theorem Core.latchHigh_acc (c : Core) (off : Nat) (v : DWord) : (c.latchHigh off v).acc = c.acc := rfl
@[simp] theorem Core.latchHigh_active (c : Core) (off : Nat) (v : DWord) : (c.latchHigh off v).active = c.active := rfl
@[simp] theorem Core.latchHigh_shadow (c : Core) (off : Nat) (v : DWord) : (c.latchHigh off v).shadow = c.shadow := rfl
@[simp] theorem Core.latchHigh_loading (c : Core) (off : Nat) (v : DWord) : (c.latchHigh off v).loading = c.loading := rfl
@[simp] theorem Core.latchHigh_accEng (c : Core) (off : Nat) (v : DWord) : (c.latchHigh off v).accEng = c.accEng := rfl
@[simp] theorem Core.latchHigh_checker (c : Core) (off : Nat) (v : DWord) : (c.latchHigh off v).checker = c.checker := rfl
@[simp] theorem Core.latchHigh_sram (c : Core) (off : Nat) (v : DWord) : (c.latchHigh off v).sram = c.sram := rfl
@[simp] theorem Core.latchHigh_banks (c : Core) (off : Nat) (v : DWord) : (c.latchHigh off v).banks = c.banks := rfl
@[simp] theorem Core.latchHigh_spare (c : Core) (off : Nat) (v : DWord) : (c.latchHigh off v).spare = c.spare := rfl
@[simp] theorem Core.latchHigh_march (c : Core) (off : Nat) (v : DWord) : (c.latchHigh off v).march = c.march := rfl
@[simp] theorem Core.latchHigh_tokq (c : Core) (off : Nat) (v : DWord) : (c.latchHigh off v).tokq = c.tokq := rfl
@[simp] theorem Core.latchHigh_switch (c : Core) (off : Nat) (v : DWord) : (c.latchHigh off v).switch = c.switch := rfl
@[simp] theorem Core.latchHigh_swPos (c : Core) (off : Nat) (v : DWord) : (c.latchHigh off v).swPos = c.swPos := rfl
@[simp] theorem Core.latchHigh_schPos (c : Core) (off : Nat) (v : DWord) : (c.latchHigh off v).schPos = c.schPos := rfl
@[simp] theorem Core.latchHigh_launch (c : Core) (off : Nat) (v : DWord) : (c.latchHigh off v).launch = c.launch := rfl
@[simp] theorem Core.latchHigh_drainArm (c : Core) (off : Nat) (v : DWord) : (c.latchHigh off v).drainArm = c.drainArm := rfl
@[simp] theorem Core.latchHigh_chan (c : Core) (off : Nat) (v : DWord) : (c.latchHigh off v).chan = c.chan := rfl
@[simp] theorem Core.latchHigh_cmb (c : Core) (off : Nat) (v : DWord) : (c.latchHigh off v).cmb = c.cmb := rfl
@[simp] theorem Core.latchHigh_cmbRound (c : Core) (off : Nat) (v : DWord) : (c.latchHigh off v).cmbRound = c.cmbRound := rfl
@[simp] theorem Core.latchHigh_sense (c : Core) (off : Nat) (v : DWord) : (c.latchHigh off v).sense = c.sense := rfl
@[simp] theorem Core.latchHigh_net (c : Core) (off : Nat) (v : DWord) : (c.latchHigh off v).net = c.net := rfl
@[simp] theorem Core.latchHigh_inReset (c : Core) (off : Nat) (v : DWord) : (c.latchHigh off v).inReset = c.inReset := rfl
@[simp] theorem Core.latchHigh_quiesce (c : Core) (off : Nat) (v : DWord) : (c.latchHigh off v).quiesce = c.quiesce := rfl

/-! ### Core.setFlags -/

@[simp] theorem Core.setFlags_regs (c : Core) (m : BitVec 16) : (c.setFlags m).regs = c.regs := rfl
@[simp] theorem Core.setFlags_w64 (c : Core) (m : BitVec 16) : (c.setFlags m).w64 = c.w64 := rfl
@[simp] theorem Core.setFlags_latch (c : Core) (m : BitVec 16) : (c.setFlags m).latch = c.latch := rfl
@[simp] theorem Core.setFlags_eng (c : Core) (m : BitVec 16) : (c.setFlags m).eng = c.eng := rfl
@[simp] theorem Core.setFlags_opSeq (c : Core) (m : BitVec 16) : (c.setFlags m).opSeq = c.opSeq := rfl
@[simp] theorem Core.setFlags_acc (c : Core) (m : BitVec 16) : (c.setFlags m).acc = c.acc := rfl
@[simp] theorem Core.setFlags_active (c : Core) (m : BitVec 16) : (c.setFlags m).active = c.active := rfl
@[simp] theorem Core.setFlags_shadow (c : Core) (m : BitVec 16) : (c.setFlags m).shadow = c.shadow := rfl
@[simp] theorem Core.setFlags_loading (c : Core) (m : BitVec 16) : (c.setFlags m).loading = c.loading := rfl
@[simp] theorem Core.setFlags_accEng (c : Core) (m : BitVec 16) : (c.setFlags m).accEng = c.accEng := rfl
@[simp] theorem Core.setFlags_checker (c : Core) (m : BitVec 16) : (c.setFlags m).checker = c.checker := rfl
@[simp] theorem Core.setFlags_sram (c : Core) (m : BitVec 16) : (c.setFlags m).sram = c.sram := rfl
@[simp] theorem Core.setFlags_banks (c : Core) (m : BitVec 16) : (c.setFlags m).banks = c.banks := rfl
@[simp] theorem Core.setFlags_spare (c : Core) (m : BitVec 16) : (c.setFlags m).spare = c.spare := rfl
@[simp] theorem Core.setFlags_march (c : Core) (m : BitVec 16) : (c.setFlags m).march = c.march := rfl
@[simp] theorem Core.setFlags_tokq (c : Core) (m : BitVec 16) : (c.setFlags m).tokq = c.tokq := rfl
@[simp] theorem Core.setFlags_switch (c : Core) (m : BitVec 16) : (c.setFlags m).switch = c.switch := rfl
@[simp] theorem Core.setFlags_swPos (c : Core) (m : BitVec 16) : (c.setFlags m).swPos = c.swPos := rfl
@[simp] theorem Core.setFlags_schPos (c : Core) (m : BitVec 16) : (c.setFlags m).schPos = c.schPos := rfl
@[simp] theorem Core.setFlags_launch (c : Core) (m : BitVec 16) : (c.setFlags m).launch = c.launch := rfl
@[simp] theorem Core.setFlags_drainArm (c : Core) (m : BitVec 16) : (c.setFlags m).drainArm = c.drainArm := rfl
@[simp] theorem Core.setFlags_chan (c : Core) (m : BitVec 16) : (c.setFlags m).chan = c.chan := rfl
@[simp] theorem Core.setFlags_cmb (c : Core) (m : BitVec 16) : (c.setFlags m).cmb = c.cmb := rfl
@[simp] theorem Core.setFlags_cmbRound (c : Core) (m : BitVec 16) : (c.setFlags m).cmbRound = c.cmbRound := rfl
@[simp] theorem Core.setFlags_sense (c : Core) (m : BitVec 16) : (c.setFlags m).sense = c.sense := rfl
@[simp] theorem Core.setFlags_net (c : Core) (m : BitVec 16) : (c.setFlags m).net = c.net := rfl
@[simp] theorem Core.setFlags_inReset (c : Core) (m : BitVec 16) : (c.setFlags m).inReset = c.inReset := rfl
@[simp] theorem Core.setFlags_quiesce (c : Core) (m : BitVec 16) : (c.setFlags m).quiesce = c.quiesce := rfl

/-! ### Core.clrFlags -/

@[simp] theorem Core.clrFlags_regs (c : Core) (m : BitVec 16) : (c.clrFlags m).regs = c.regs := rfl
@[simp] theorem Core.clrFlags_w64 (c : Core) (m : BitVec 16) : (c.clrFlags m).w64 = c.w64 := rfl
@[simp] theorem Core.clrFlags_latch (c : Core) (m : BitVec 16) : (c.clrFlags m).latch = c.latch := rfl
@[simp] theorem Core.clrFlags_eng (c : Core) (m : BitVec 16) : (c.clrFlags m).eng = c.eng := rfl
@[simp] theorem Core.clrFlags_opSeq (c : Core) (m : BitVec 16) : (c.clrFlags m).opSeq = c.opSeq := rfl
@[simp] theorem Core.clrFlags_acc (c : Core) (m : BitVec 16) : (c.clrFlags m).acc = c.acc := rfl
@[simp] theorem Core.clrFlags_active (c : Core) (m : BitVec 16) : (c.clrFlags m).active = c.active := rfl
@[simp] theorem Core.clrFlags_shadow (c : Core) (m : BitVec 16) : (c.clrFlags m).shadow = c.shadow := rfl
@[simp] theorem Core.clrFlags_loading (c : Core) (m : BitVec 16) : (c.clrFlags m).loading = c.loading := rfl
@[simp] theorem Core.clrFlags_accEng (c : Core) (m : BitVec 16) : (c.clrFlags m).accEng = c.accEng := rfl
@[simp] theorem Core.clrFlags_checker (c : Core) (m : BitVec 16) : (c.clrFlags m).checker = c.checker := rfl
@[simp] theorem Core.clrFlags_sram (c : Core) (m : BitVec 16) : (c.clrFlags m).sram = c.sram := rfl
@[simp] theorem Core.clrFlags_banks (c : Core) (m : BitVec 16) : (c.clrFlags m).banks = c.banks := rfl
@[simp] theorem Core.clrFlags_spare (c : Core) (m : BitVec 16) : (c.clrFlags m).spare = c.spare := rfl
@[simp] theorem Core.clrFlags_march (c : Core) (m : BitVec 16) : (c.clrFlags m).march = c.march := rfl
@[simp] theorem Core.clrFlags_tokq (c : Core) (m : BitVec 16) : (c.clrFlags m).tokq = c.tokq := rfl
@[simp] theorem Core.clrFlags_switch (c : Core) (m : BitVec 16) : (c.clrFlags m).switch = c.switch := rfl
@[simp] theorem Core.clrFlags_swPos (c : Core) (m : BitVec 16) : (c.clrFlags m).swPos = c.swPos := rfl
@[simp] theorem Core.clrFlags_schPos (c : Core) (m : BitVec 16) : (c.clrFlags m).schPos = c.schPos := rfl
@[simp] theorem Core.clrFlags_launch (c : Core) (m : BitVec 16) : (c.clrFlags m).launch = c.launch := rfl
@[simp] theorem Core.clrFlags_drainArm (c : Core) (m : BitVec 16) : (c.clrFlags m).drainArm = c.drainArm := rfl
@[simp] theorem Core.clrFlags_chan (c : Core) (m : BitVec 16) : (c.clrFlags m).chan = c.chan := rfl
@[simp] theorem Core.clrFlags_cmb (c : Core) (m : BitVec 16) : (c.clrFlags m).cmb = c.cmb := rfl
@[simp] theorem Core.clrFlags_cmbRound (c : Core) (m : BitVec 16) : (c.clrFlags m).cmbRound = c.cmbRound := rfl
@[simp] theorem Core.clrFlags_sense (c : Core) (m : BitVec 16) : (c.clrFlags m).sense = c.sense := rfl
@[simp] theorem Core.clrFlags_net (c : Core) (m : BitVec 16) : (c.clrFlags m).net = c.net := rfl
@[simp] theorem Core.clrFlags_inReset (c : Core) (m : BitVec 16) : (c.clrFlags m).inReset = c.inReset := rfl
@[simp] theorem Core.clrFlags_quiesce (c : Core) (m : BitVec 16) : (c.clrFlags m).quiesce = c.quiesce := rfl

/-! ### Core.progress -/

@[simp] theorem Core.progress_seqr (c : Core) : (c.progress).seqr = c.seqr := rfl
@[simp] theorem Core.progress_regs (c : Core) : (c.progress).regs = c.regs := rfl
@[simp] theorem Core.progress_w64 (c : Core) : (c.progress).w64 = c.w64 := rfl
@[simp] theorem Core.progress_latch (c : Core) : (c.progress).latch = c.latch := rfl
@[simp] theorem Core.progress_eng (c : Core) : (c.progress).eng = c.eng := rfl
@[simp] theorem Core.progress_opSeq (c : Core) : (c.progress).opSeq = c.opSeq := rfl
@[simp] theorem Core.progress_acc (c : Core) : (c.progress).acc = c.acc := rfl
@[simp] theorem Core.progress_active (c : Core) : (c.progress).active = c.active := rfl
@[simp] theorem Core.progress_shadow (c : Core) : (c.progress).shadow = c.shadow := rfl
@[simp] theorem Core.progress_loading (c : Core) : (c.progress).loading = c.loading := rfl
@[simp] theorem Core.progress_accEng (c : Core) : (c.progress).accEng = c.accEng := rfl
@[simp] theorem Core.progress_checker (c : Core) : (c.progress).checker = c.checker := rfl
@[simp] theorem Core.progress_sram (c : Core) : (c.progress).sram = c.sram := rfl
@[simp] theorem Core.progress_banks (c : Core) : (c.progress).banks = c.banks := rfl
@[simp] theorem Core.progress_spare (c : Core) : (c.progress).spare = c.spare := rfl
@[simp] theorem Core.progress_march (c : Core) : (c.progress).march = c.march := rfl
@[simp] theorem Core.progress_tokq (c : Core) : (c.progress).tokq = c.tokq := rfl
@[simp] theorem Core.progress_switch (c : Core) : (c.progress).switch = c.switch := rfl
@[simp] theorem Core.progress_swPos (c : Core) : (c.progress).swPos = c.swPos := rfl
@[simp] theorem Core.progress_schPos (c : Core) : (c.progress).schPos = c.schPos := rfl
@[simp] theorem Core.progress_launch (c : Core) : (c.progress).launch = c.launch := rfl
@[simp] theorem Core.progress_drainArm (c : Core) : (c.progress).drainArm = c.drainArm := rfl
@[simp] theorem Core.progress_chan (c : Core) : (c.progress).chan = c.chan := rfl
@[simp] theorem Core.progress_cmb (c : Core) : (c.progress).cmb = c.cmb := rfl
@[simp] theorem Core.progress_cmbRound (c : Core) : (c.progress).cmbRound = c.cmbRound := rfl
@[simp] theorem Core.progress_sense (c : Core) : (c.progress).sense = c.sense := rfl
@[simp] theorem Core.progress_inReset (c : Core) : (c.progress).inReset = c.inReset := rfl
@[simp] theorem Core.progress_quiesce (c : Core) : (c.progress).quiesce = c.quiesce := rfl

/-! ### A part set reads back, and the parts beside it as before -/

@[simp] theorem State.core_setCore (s : State) (k : SiteId) (x : Core) : (s.setCore k x).core k = x := by
  simp [State.core, State.setCore]

theorem State.core_setCore_ne (s : State) (k j : SiteId) (x : Core) (h : j ≠ k) : (s.setCore k x).core j = s.core j := by
  simp [State.core, State.setCore, Tbl.get_set, Fin.val_inj, h]

@[simp] theorem State.router_setRouter (s : State) (k : SiteId) (x : Router) : (s.setRouter k x).router k = x := by
  simp [State.router, State.setRouter]

theorem State.router_setRouter_ne (s : State) (k j : SiteId) (x : Router) (h : j ≠ k) : (s.setRouter k x).router j = s.router j := by
  simp [State.router, State.setRouter, Tbl.get_set, Fin.val_inj, h]

@[simp] theorem State.region_setRegion (s : State) (k : Nat) (x : Region) : (s.setRegion k x).region k = x := by
  simp [State.region, State.setRegion]

theorem State.region_setRegion_ne (s : State) (k j : Nat) (x : Region) (h : j ≠ k) : (s.setRegion k x).region j = s.region j := by
  simp [State.region, State.setRegion, Tbl.get_set, h]

@[simp] theorem State.area_setArea (s : State) (k : Nat) (x : Area) : (s.setArea k x).area k = x := by
  simp [State.area, State.setArea]

theorem State.area_setArea_ne (s : State) (k j : Nat) (x : Area) (h : j ≠ k) : (s.setArea k x).area j = s.area j := by
  simp [State.area, State.setArea, Tbl.get_set, h]

@[simp] theorem State.domeState_setDome (s : State) (k : Nat) (x : Nat) : (s.setDome k x).domeState k = x := by
  simp [State.domeState, State.setDome]

theorem State.domeState_setDome_ne (s : State) (k j : Nat) (x : Nat) (h : j ≠ k) : (s.setDome k x).domeState j = s.domeState j := by
  simp [State.domeState, State.setDome, Tbl.get_set, h]

@[simp] theorem State.stack_setStack (s : State) (k : Nat) (x : Stack) : (s.setStack k x).stack k = x := by
  simp [State.stack, State.setStack]

theorem State.stack_setStack_ne (s : State) (k j : Nat) (x : Stack) (h : j ≠ k) : (s.setStack k x).stack j = s.stack j := by
  simp [State.stack, State.setStack, Tbl.get_set, h]

@[simp] theorem State.lantern_setLantern (s : State) (k : Nat) (x : Lantern) : (s.setLantern k x).lantern k = x := by
  simp [State.lantern, State.setLantern]

theorem State.lantern_setLantern_ne (s : State) (k j : Nat) (x : Lantern) (h : j ≠ k) : (s.setLantern k x).lantern j = s.lantern j := by
  simp [State.lantern, State.setLantern, Tbl.get_set, h]

@[simp] theorem State.ring_setRing (s : State) (k : Nat) (x : CmdRing) : (s.setRing k x).ring k = x := by
  simp [State.ring, State.setRing]

theorem State.ring_setRing_ne (s : State) (k j : Nat) (x : CmdRing) (h : j ≠ k) : (s.setRing k x).ring j = s.ring j := by
  simp [State.ring, State.setRing, Tbl.get_set, h]

@[simp] theorem State.cpl_setCpl (s : State) (k : Nat) (x : CplRing) : (s.setCpl k x).cpl k = x := by
  simp [State.cpl, State.setCpl]

theorem State.cpl_setCpl_ne (s : State) (k j : Nat) (x : CplRing) (h : j ≠ k) : (s.setCpl k x).cpl j = s.cpl j := by
  simp [State.cpl, State.setCpl, Tbl.get_set, h]

@[simp] theorem State.bar_setBar (s : State) (k : Nat) (x : Word) : (s.setBar k x).bar k = x := by
  simp [State.bar, State.setBar]

theorem State.bar_setBar_ne (s : State) (k j : Nat) (x : Word) (h : j ≠ k) : (s.setBar k x).bar j = s.bar j := by
  simp only [State.bar, State.setBar]; exact Tbl.get_set_diff _ _ _ h

@[simp] theorem Core.reg_setReg (c : Core) (k : Nat) (x : Word) : (c.setReg k x).reg k = x := by
  simp [Core.reg, Core.setReg]

theorem Core.reg_setReg_ne (c : Core) (k j : Nat) (x : Word) (h : j ≠ k) : (c.setReg k x).reg j = c.reg j := by
  simp only [Core.reg, Core.setReg]; exact Tbl.get_set_diff _ _ _ h

@[simp] theorem Core.ctxAt_setCtx (c : Core) (k : Nat) (x : Ctx) : (c.setCtx k x).ctxAt k = x := by
  simp [Core.ctxAt, Core.setCtx]

theorem Core.ctxAt_setCtx_ne (c : Core) (k j : Nat) (x : Ctx) (h : j ≠ k) : (c.setCtx k x).ctxAt j = c.ctxAt j := by
  simp [Core.ctxAt, Core.setCtx, Tbl.get_set, h]

@[simp] theorem Core.engine_setEngine (c : Core) (k : Nat) (x : Engine) : (c.setEngine k x).engine k = x := by
  simp [Core.engine, Core.setEngine]

theorem Core.engine_setEngine_ne (c : Core) (k j : Nat) (x : Engine) (h : j ≠ k) : (c.setEngine k x).engine j = c.engine j := by
  simp [Core.engine, Core.setEngine, Tbl.get_set, h]

@[simp] theorem Core.acc_setAcc (c : Core) (k : Nat) (x : AccEng) : (c.setAcc k x).acc_ k = x := by
  simp [Core.acc_, Core.setAcc]

theorem Core.acc_setAcc_ne (c : Core) (k j : Nat) (x : AccEng) (h : j ≠ k) : (c.setAcc k x).acc_ j = c.acc_ j := by
  simp [Core.acc_, Core.setAcc, Tbl.get_set, h]

@[simp] theorem Core.bank_setBank (c : Core) (k : Nat) (x : BankSt) : (c.setBank k x).bank k = x := by
  simp [Core.bank, Core.setBank]

theorem Core.bank_setBank_ne (c : Core) (k j : Nat) (x : BankSt) (h : j ≠ k) : (c.setBank k x).bank j = c.bank j := by
  simp [Core.bank, Core.setBank, Tbl.get_set, h]

@[simp] theorem Core.tq_setTq (c : Core) (k : Nat) (x : TokQ) : (c.setTq k x).tq k = x := by
  simp [Core.tq, Core.setTq]

theorem Core.tq_setTq_ne (c : Core) (k j : Nat) (x : TokQ) (h : j ≠ k) : (c.setTq k x).tq j = c.tq j := by
  simp [Core.tq, Core.setTq, Tbl.get_set, h]

@[simp] theorem Core.chanW_setChan (c : Core) (k : Nat) (x : Word) : (c.setChan k x).chanW k = x := by
  simp [Core.chanW, Core.setChan]

theorem Core.chanW_setChan_ne (c : Core) (k j : Nat) (x : Word) (h : j ≠ k) : (c.setChan k x).chanW j = c.chanW j := by
  simp [Core.chanW, Core.setChan, Tbl.get_set, h]

end Sys2Proof.Machine
end

