-- ==== Sys2Proof/Laws/Sequencer.lean ====
section
/-!
SUPPORT. What the shared operations of the sequencer do: the next instruction, retiring, a jump, an exception, the fetch.
-/

namespace Sys2Proof.Machine

@[simp] theorem Core.bump_zero (c : Core) (o : Nat) : c.bump o 0 = c := rfl

@[simp] theorem State.noteRisk_zero (s : State) : s.noteRisk 0 0 0 = s := rfl

/-- A core put with its registers as they were is a core set: no counter has saturated. -/
theorem State.putCore_regs (s : State) (k : SiteId) (c : Core) (h : c.regs = (s.core k).regs) :
    s.putCore k c = s.setCore k c := by
  have hr : ∀ o, c.reg o = (s.core k).reg o := fun o => by simp [Core.reg, h]
  have hn : newOvf (s.core k) c = [] := by simp [newOvf, hr]
  unfold State.putCore
  simp [hn, hr]

theorem State.onlyCore_refl (k : SiteId) (s : State) : s.onlyCore k s := ⟨rfl, fun _ _ => rfl⟩

theorem State.onlyCore_setCore {k : SiteId} {s t : State} (c : Core) (h : s.onlyCore k t) :
    s.onlyCore k (t.setCore k c) := by
  obtain ⟨h1, h2⟩ := h
  refine ⟨?_, fun j hj => ?_⟩
  · rw [h1]; rfl
  · rw [State.core_setCore_ne _ _ _ _ hj, h2 j hj]

theorem Core.elapse_regs (c : Core) (n : Nat) : (c.elapse n).regs = c.regs := by
  unfold Core.elapse; dsimp only; (repeat' split) <;> rfl

theorem Core.setSreg_regs (c : Core) (n : Nat) (v : Word) : (c.setSreg n v).regs = c.regs := by
  unfold Core.setSreg Core.mapCur Core.setLate; (repeat' split) <;> rfl

theorem Core.awaitSrcs_regs (c : Core) (w : Word) : (c.awaitSrcs w).regs = c.regs := by
  unfold Core.awaitSrcs; dsimp only; split
  · rfl
  · exact Core.elapse_regs _ _

theorem SeqKeeps.refl (c : Core) : SeqKeeps c c := ⟨rfl, rfl, fun _ _ _ => rfl⟩

theorem SeqKeeps.trans {c d e : Core} (h : SeqKeeps c d) (g : SeqKeeps d e) : SeqKeeps c e := by
  obtain ⟨h1, h2, h3⟩ := h
  obtain ⟨g1, g2, g3⟩ := g
  have hc : d.seqr.cur = c.seqr.cur := by rw [h2]
  refine ⟨?_, ?_, fun i hi hn => ?_⟩
  · rw [g1, h1]
  · rw [g2, h2]
  · rw [g3 i hi (by rw [hc]; exact hn), h3 i hi hn]

/-- Cycles leave the contexts, and all but counts and delays, as they were. -/
theorem SeqKeeps.elapse (c : Core) (n : Nat) : SeqKeeps c (c.elapse n) := by
  unfold Core.elapse; dsimp only
  (repeat' split) <;> exact ⟨rfl, rfl, fun _ _ _ => rfl⟩

@[simp] theorem Core.elapse_ctxs (c : Core) (n : Nat) : (c.elapse n).seqr.ctxs = c.seqr.ctxs := by
  unfold Core.elapse; dsimp only; (repeat' split) <;> rfl

@[simp] theorem Core.elapse_cur (c : Core) (n : Nat) : (c.elapse n).seqr.cur = c.seqr.cur := by
  unfold Core.elapse; dsimp only; (repeat' split) <;> rfl

@[simp] theorem Core.cur_elapse (c : Core) (n : Nat) : (c.elapse n).cur = c.cur := by simp [Core.cur, Core.ctxAt]

theorem SeqKeeps.mapCur (c : Core) (f : Ctx → Ctx) : SeqKeeps c (c.mapCur f) := by
  refine ⟨rfl, rfl, fun i _ hn => ?_⟩
  exact Core.ctxAt_setCtx_ne _ _ _ _ hn

@[simp] theorem Core.cur_mapCur (c : Core) (f : Ctx → Ctx) : (c.mapCur f).cur = f c.cur := by
  unfold Core.mapCur
  exact Core.ctxAt_setCtx c c.seqr.cur.toNat (f c.cur)

theorem SeqKeeps.setLate (c : Core) (n m : Nat) : SeqKeeps c (c.setLate n m) := by
  unfold Core.setLate; split <;> exact ⟨rfl, rfl, fun _ _ _ => rfl⟩

@[simp] theorem Core.cur_setLate (c : Core) (n m : Nat) : (c.setLate n m).cur = c.cur := by
  unfold Core.setLate; split <;> rfl

theorem SeqKeeps.setSreg (c : Core) (n : Nat) (v : Word) : SeqKeeps c (c.setSreg n v) := by
  unfold Core.setSreg; split
  · exact SeqKeeps.refl c
  · exact (SeqKeeps.mapCur c _).trans (SeqKeeps.setLate _ _ _)

theorem SeqKeeps.setWait (c : Core) (w : Wait) : SeqKeeps c (c.setWait w) := ⟨rfl, rfl, fun _ _ _ => rfl⟩

theorem SeqKeeps.progress (c : Core) : SeqKeeps c c.progress := ⟨rfl, rfl, fun _ _ _ => rfl⟩

theorem SeqKeeps.awaitSrcs (c : Core) (w : Word) : SeqKeeps c (c.awaitSrcs w) := by
  unfold Core.awaitSrcs; dsimp only; split
  · exact SeqKeeps.refl c
  · exact (SeqKeeps.elapse c _).trans ⟨rfl, rfl, fun _ _ _ => rfl⟩

@[simp] theorem Core.cur_awaitSrcs (c : Core) (w : Word) : (c.awaitSrcs w).cur = c.cur := by
  unfold Core.awaitSrcs; dsimp only; split
  · rfl
  · exact Core.cur_elapse c _

theorem Ctx.keeps_refl (x : Ctx) : x.keeps x := rfl

theorem Ctx.keeps_trans {x y z : Ctx} (h : x.keeps y) (g : y.keeps z) : x.keeps z := by
  unfold Ctx.keeps at *; rw [g, h]

/-- The registers of a core's running context are those of the context. -/
theorem Core.sreg_setSreg (c : Core) (m n : Nat) (v : Word) :
    (c.setSreg m v).sreg n = if n = m ∧ m ≠ 0 then v else c.sreg n := by
  unfold Core.sreg Core.setSreg
  by_cases hm : m = 0
  · simp [hm]
  · by_cases hn : n = 0
    · simp [hn, hm]; intro h; exact absurd h.symm hm
    · simp [hm, hn, Tbl.get_set]

theorem Core.keeps_setSreg (c : Core) (m : Nat) (v : Word) : c.cur.keeps (c.setSreg m v).cur := by
  unfold Core.setSreg; split
  · exact Ctx.keeps_refl _
  · simp [Ctx.keeps]

theorem Core.setSreg_pc (c : Core) (m : Nat) (v : Word) : (c.setSreg m v).cur.pc = c.cur.pc := by
  unfold Core.setSreg; split <;> simp

theorem Core.setSreg_ldepth (c : Core) (m : Nat) (v : Word) : (c.setSreg m v).cur.ldepth = c.cur.ldepth := by
  unfold Core.setSreg; split <;> simp

theorem Core.setSreg_loops (c : Core) (m : Nat) (v : Word) : (c.setSreg m v).cur.loops = c.cur.loops := by
  unfold Core.setSreg; split <;> simp

/-- The next instruction is found from the loops alone, and only PC and the loops change. -/
theorem loopNext_keeps (pc d : Nat) (x y : Ctx) (h : loopNext pc d x = some y) : x.keeps y ∧ y.regs = x.regs := by
  induction d with
  | zero =>
    unfold loopNext at h
    split at h
    · cases h
    · cases h; exact ⟨rfl, rfl⟩
  | succ d ih =>
    unfold loopNext at h
    dsimp only at h
    split at h
    · split at h
      · cases h; exact ⟨rfl, rfl⟩
      · exact ih h
    · split at h
      · cases h
      · cases h; exact ⟨rfl, rfl⟩

/-- What follows an instruction depends on the loops alone. -/
theorem loopNext_loops (pc d : Nat) (x x' : Ctx) (h : x'.loops = x.loops) :
    loopNext pc d x' = (loopNext pc d x).map fun y => { x' with pc := y.pc, ldepth := y.ldepth, loops := y.loops } := by
  induction d with
  | zero =>
    unfold loopNext
    split
    · rfl
    · simp [h]
  | succ d ih =>
    unfold loopNext
    have hl : x'.level d = x.level d := by simp [Ctx.level, h]
    simp only [hl, h]
    split
    · split
      · simp
      · exact ih
    · split
      · rfl
      · simp

/-- Retiring in sequence: the state goes on to the next instruction, with nothing else of it changed. -/
theorem State.retire_next (s : State) (k : SiteId) (w : Word) (n : Nat) (x : Ctx)
    (h : loopNext (s.core k).cur.pc.toNat (s.core k).cur.ldepth.toNat (s.core k).cur = some x) :
    s.onlyCore k (s.retire k w n) ∧ SeqKeeps (s.core k) ((s.retire k w n).core k) ∧
      ((s.retire k w n).core k).cur = x ∧ ((s.retire k w n).core k).seqr.wait = .none := by
  unfold State.retire
  dsimp only
  have hc : (((s.core k).progress).setWait .none).cur = (s.core k).cur := rfl
  rw [hc, h]
  dsimp only
  have hr : ((((s.core k).progress.setWait .none).mapCur fun _ => x).elapse n).regs = (s.core k).regs :=
    Core.elapse_regs _ _
  rw [State.putCore_regs _ _ _ hr]
  refine ⟨State.onlyCore_setCore _ (State.onlyCore_refl k s), ?_, ?_, ?_⟩
  · rw [State.core_setCore]
    exact (((SeqKeeps.progress _).trans (SeqKeeps.setWait _ _)).trans (SeqKeeps.mapCur _ _)).trans (SeqKeeps.elapse _ _)
  · rw [State.core_setCore]; simp
  · rw [State.core_setCore]
    unfold Core.elapse; dsimp only; (repeat' split) <;> rfl

theorem State.onlyCore_trans {k : SiteId} {s t u : State} (h : s.onlyCore k t) (g : t.onlyCore k u) : s.onlyCore k u := by
  obtain ⟨h1, h2⟩ := h
  obtain ⟨g1, g2⟩ := g
  refine ⟨?_, fun j hj => ?_⟩
  · rw [g1, h1]
  · rw [g2 j hj, h2 j hj]

/-- An instruction at PC runs its operation on a state that differs from the one it met in counts and delays alone. -/
theorem SeqAt.run {s : State} {k : SiteId} {op : Nat} {w : Word} (h : SeqAt s k op w) (body : Word → State → State) :
    seqStep op body k s = body w (s.setCore k ((s.core k).awaitSrcs w)) := by
  obtain ⟨hr, hf, ho, ⟨m, hm, hz⟩, hd⟩ := h
  unfold seqStep
  rw [if_pos hr]
  unfold State.fetchRun
  rw [hf]
  dsimp only
  have hp := State.putCore_regs s k ((s.core k).awaitSrcs w) (Core.awaitSrcs_regs _ _)
  simp only [ho, beq_self_eq_true, Bool.not_true, Bool.false_eq_true, if_false, hm]
  rw [hp]
  simp only [State.core_setCore, Core.cur_awaitSrcs, hz, if_true]
  rw [if_neg (by omega)]

/-- An operation that leads from `u` to `s1` and then retires is one that retires from `u`, if `s1` differs from `u` in
the register it writes and in counts and delays alone. -/
theorem Retires.of_retire {i : Instr} {s u s1 : State} {k : SiteId} {rd : Nat} {v w : Word} {n : Nat}
    (he : exec i s = .next (s1.retire k w n)) (ho : u.onlyCore k s1) (hk : SeqKeeps (u.core k) (s1.core k))
    (hc : (u.core k).cur.keeps (s1.core k).cur) (hp : (s1.core k).cur.pc = (u.core k).cur.pc)
    (hd : (s1.core k).cur.ldepth = (u.core k).cur.ldepth) (hl : (s1.core k).cur.loops = (u.core k).cur.loops)
    (hr : ∀ n, n < 16 → (s1.core k).sreg n = if n = rd ∧ rd ≠ 0 then v else (u.core k).sreg n) :
    Retires i s u k rd v := by
  intro x hx
  have hx1 : loopNext (s1.core k).cur.pc.toNat (s1.core k).cur.ldepth.toNat (s1.core k).cur =
      some { (s1.core k).cur with pc := x.pc, ldepth := x.ldepth, loops := x.loops } := by
    rw [loopNext_loops _ _ (u.core k).cur _ hl, hp, hd, hx]; rfl
  obtain ⟨h1, h2, h3, _⟩ := State.retire_next s1 k w n _ hx1
  refine ⟨_, he, State.onlyCore_trans ho h1, hk.trans h2, ?_, ?_, ?_, ?_⟩
  · rw [h3]; exact Ctx.keeps_trans hc rfl
  · rw [h3]
  · rw [h3]; exact ⟨rfl, fun _ _ => rfl⟩
  · intro n hn
    rw [← hr n hn]
    unfold Core.sreg
    rw [h3]

/-- The same for an operation on the state an instruction at PC meets, that sets a core `c1` before it retires. -/
theorem SeqAt.retires {i : Instr} {s : State} {k : SiteId} {op rd : Nat} {w v : Word} {n : Nat} {body : Word → State → State}
    (h : SeqAt s k op w) (he : exec i s = .next (seqStep op body k s))
    (hb : ∀ c, SeqKeeps (s.core k) c → c.cur = (s.core k).cur → c.regs = (s.core k).regs →
      ∃ s1 c1, body w (s.setCore k c) = State.retire s1 k w n ∧ s.onlyCore k s1 ∧ s1.core k = c1 ∧ SeqKeeps c c1 ∧
        c1.cur = (c.setSreg rd v).cur) : Retires i s s k rd v := by
  have hk := SeqKeeps.awaitSrcs (s.core k) w
  have hc := Core.cur_awaitSrcs (s.core k) w
  have hs : ∀ n, ((s.core k).awaitSrcs w).sreg n = (s.core k).sreg n := fun n => by unfold Core.sreg; rw [hc]
  rw [h.run] at he
  obtain ⟨s1, c1, h0, ho, h1, hk1, hc1⟩ := hb _ hk hc (Core.awaitSrcs_regs _ _)
  rw [h0] at he
  refine Retires.of_retire he ho ?_ ?_ ?_ ?_ ?_ ?_
  · rw [h1]; exact hk.trans hk1
  · rw [h1, hc1, ← hc]; exact Core.keeps_setSreg _ _ _
  · rw [h1, hc1, Core.setSreg_pc, hc]
  · rw [h1, hc1, Core.setSreg_ldepth, hc]
  · rw [h1, hc1, Core.setSreg_loops, hc]
  · intro n _
    rw [h1, show c1.sreg n = (((s.core k).awaitSrcs w).setSreg rd v).sreg n by unfold Core.sreg; rw [hc1],
      Core.sreg_setSreg, hs]

/-! ### Exceptions -/

/-- A part of the state that completions, events and the fabric leave alone: the cores. -/
theorem State.raise_cores (s : State) (cls : Nat) (d : BitVec 128) : (s.raise cls d).cores = s.cores ∧
    (s.raise cls d).rgns = s.rgns := by
  have hp : ∀ (n : Nat) (s : State), (s.postThrough cls n).cores = s.cores ∧ (s.postThrough cls n).rgns = s.rgns := by
    intro n
    induction n with
    | zero => intro s; exact ⟨rfl, rfl⟩
    | succ n ih => intro s; grind [State.postThrough, eventPost, State.putRecord, State.raiseVec, State.setCpl, State.hostWrite]
  grind [State.raise, State.markSeen, State.setBar]

/-- Completing a descriptor leaves the cores and the regions as they are. -/
theorem State.complete_cores (s : State) (req : Nat × Nat) (st d : Nat) (r : BitVec 128) :
    (s.complete req st d r).cores = s.cores ∧ (s.complete req st d r).rgns = s.rgns := by
  grind [State.complete, State.setRing, State.queueRecord, State.setCpl]

theorem State.completeOpt_cores (s : State) (req : Option (Nat × Nat)) (st : Nat) (r : BitVec 128) :
    (s.completeOpt req st r).cores = s.cores ∧ (s.completeOpt req st r).rgns = s.rgns := by
  unfold State.completeOpt; split
  · exact State.complete_cores _ _ _ _ _
  · exact ⟨rfl, rfl⟩

/-- A region that leaves RUNNING for a state holds that state, with its fault kept; the cores are left alone. -/
theorem State.leaveRunning_cores (s : State) (id st : Nat) :
    (s.leaveRunning id st).cores = s.cores ∧ ((s.leaveRunning id st).region id).st = st ∧
      ((s.leaveRunning id st).region id).fault = (s.region id).fault := by
  have hc : ∀ (t : State) q n r, (t.completeOpt q n r).cores = t.cores ∧ (t.completeOpt q n r).region id = t.region id :=
    fun t q n r => ⟨(State.completeOpt_cores t q n r).1, by simp [State.region, (State.completeOpt_cores t q n r).2]⟩
  have hg : ∀ r : Region, (s.setRegion id r).region id = r := fun r => State.region_setRegion s id r
  unfold State.leaveRunning
  dsimp only
  split
  · subst st; simp [hc, hg]
  · split
    · subst st; simp only [hc]; simp [State.region, State.setRegion]
    · simp only [hc]; simp [State.region, State.setRegion]

/-- A region fault leaves the cores but for REGION_FAULT's register, and halts a live region (R243, R244). -/
theorem State.regionFault_core (s : State) (k : SiteId) (cause detail : Nat) :
    (((s.regionFault k cause detail).core k) = s.core k ∨
      ((s.regionFault k cause detail).core k) =
        (s.core k).setReg 0x10060C (BitVec.ofNat 32 (cause + (detail <<< 8) + 2 ^ 16))) ∧
    ((s.region (s.core k).rgnId).live = true → ((s.regionFault k cause detail).region (s.core k).rgnId).st = 6 ∧
      ((s.regionFault k cause detail).region (s.core k).rgnId).fault.map (fun f => f.cause) = some (BitVec.ofNat 8 cause)) := by
  unfold State.regionFault State.faultRegion
  dsimp only
  split
  · next h =>
    have hs : ∀ (t : State) id, (t.sendHalt id).cores = t.cores ∧ (t.sendHalt id).rgns = t.rgns := by
      intro t id; unfold State.sendHalt; dsimp only; split <;> exact ⟨rfl, rfl⟩
    have hcore : ∀ t u : State, t.cores = u.cores → t.core k = u.core k := fun t u h => by simp [State.core, h]
    have hreg : ∀ t u : State, t.rgns = u.rgns → ∀ id, t.region id = u.region id := fun t u h id => by simp [State.region, h]
    refine ⟨Or.inr ?_, fun _ => ?_⟩
    · rw [hcore _ _ (hs _ _).1, hcore _ _ (State.leaveRunning_cores _ _ _).1, hcore _ _ (State.raise_cores _ _ _).1,
        State.core_setCore]
      rfl
    · rw [hreg _ _ (hs _ _).2, (State.leaveRunning_cores _ _ _).2.1, (State.leaveRunning_cores _ _ _).2.2,
        hreg _ _ (State.raise_cores _ _ _).2]
      refine ⟨rfl, ?_⟩
      have : ∀ (t : State) (c : Core) id, (t.setCore k c).region id = t.region id := fun _ _ _ => rfl
      rw [this, State.region_setRegion]
      rfl
  · next h => exact ⟨Or.inl rfl, fun h' => absurd h' h⟩

theorem Core.stopEngines_engine (c : Core) (e : Nat) (h : e < 5) :
    (c.stopEngines.engine e).queue = [] ∧ (c.stopEngines.engine e).run = [] := by
  have : e = 0 ∨ e = 1 ∨ e = 2 ∨ e = 3 ∨ e = 4 := by omega
  unfold Core.stopEngines Core.engine
  simp only [show List.range 5 = [0, 1, 2, 3, 4] by rfl, List.foldl]
  rcases this with rfl | rfl | rfl | rfl | rfl <;> simp [Tbl.get_set]

/-- A sequencer exception: what it records and what it stops (R133). -/
theorem SeqTraps.of_exception {i : Instr} {s u : State} {k : SiteId} {cause code : Nat} {w : Word}
    (he : exec i s = .next (u.seqException k cause code w)) (hcur : (u.core k).seqr.cur = (s.core k).seqr.cur)
    (hpc : (u.core k).cur.pc = (s.core k).cur.pc) (hid : (u.core k).rgnId = (s.core k).rgnId)
    (hr : u.region (s.core k).rgnId = s.region (s.core k).rgnId) : SeqTraps i s k cause code w := by
  refine ⟨_, he, ?_⟩
  unfold State.seqException
  dsimp only
  generalize hd : ((Core.setReg _ _ _).setReg _ _).setReg _ w = d
  have hdr : d.seqr.run = false ∧ d.seqr.fault = true ∧ (∀ e, e < 5 → (d.engine e).queue = [] ∧ (d.engine e).run = []) ∧
      d.reg 0x10000C = BitVec.ofNat 32 (cause + 2 ^ 8 * (s.core k).seqr.cur.toNat + 2 ^ 16 * code) ∧
      d.reg 0x100010 = (s.core k).cur.pc.setWidth 32 ∧ d.reg 0x100014 = w ∧ d.rgnId = (s.core k).rgnId := by
    subst hd
    refine ⟨rfl, rfl, fun e h => Core.stopEngines_engine (u.core k) e h, ?_, ?_, ?_, ?_⟩
    · rw [Core.reg_setReg_ne _ _ _ _ (by decide), Core.reg_setReg_ne _ _ _ _ (by decide), Core.reg_setReg]
      simp only [show (u.core k).stopEngines.seqr = (u.core k).seqr from rfl, hcur, Nat.shiftLeft_eq]
      congr 1; omega
    · rw [Core.reg_setReg_ne _ _ _ _ (by decide), Core.reg_setReg, ← hpc]; rfl
    · rw [Core.reg_setReg]
    · have hg : ∀ (c : Core) o v, 0x100604 ≠ o → (c.setReg o v).rgnId = c.rgnId := fun c o v h => by
        unfold Core.rgnId; rw [Core.reg_setReg_ne _ _ _ _ h]
      have hs : ∀ c d : Core, c.regs = d.regs → c.rgnId = d.rgnId := fun c d h => by simp only [Core.rgnId, Core.reg, h]
      rw [hg _ _ _ (by decide), hg _ _ _ (by decide), hg _ _ _ (by decide), ← hid]
      refine hs _ _ ?_
      rfl
  obtain ⟨h1, h2, h3, h4, h5, h6, h7⟩ := hdr
  have hf := State.regionFault_core (u.setCore k d) k 4 cause
  rw [State.core_setCore, h7] at hf
  have hreg : ∀ v : Word, ∀ o, o ≠ 0x10060C → (d.setReg 0x10060C v).reg o = d.reg o := fun v o h => Core.reg_setReg_ne _ _ _ _ h
  have hus : (u.setCore k d).region (s.core k).rgnId = s.region (s.core k).rgnId := hr
  rw [hus] at hf
  refine ⟨?_, ?_, ?_, ?_, ?_, ?_, fun hl => ⟨(hf.2 hl).1, (hf.2 hl).2⟩⟩ <;> rcases hf.1 with hc | hc <;> rw [hc]
  · exact h1
  · exact h1
  · exact h2
  · exact h2
  · exact h3
  · simp only [Core.engine, Core.setReg_eng]; exact h3
  · exact h4
  · rw [hreg _ _ (by decide)]; exact h4
  · exact h5
  · rw [hreg _ _ (by decide)]; exact h5
  · exact h6
  · rw [hreg _ _ (by decide)]; exact h6

end Sys2Proof.Machine
end

