-- ==== Sys2Proof/WellFormed.lean ====
section
/-!
DEFINITION. Which commands are well formed: the operands the types leave too wide stay in the ranges the manual gives
them. A meaning is total all the same.
-/

namespace Sys2Proof

/-- A register access: a word offset inside its target: BAR0 is 64 MiB, a core's offset 32 bits (R8, R36, R319). -/
def RegTarget.offsetOk : RegTarget → Nat → Bool
  | .bar0, off => off % 4 == 0 && decide (off < 2 ^ 26)
  | .core _, off => off % 4 == 0 && decide (off < 2 ^ 32)

/-- A packet: at most 256 bytes, and the payload its BYTES field tells of unless it is a read request (R174). -/
def Packet.ok (p : Packet) : Bool :=
  decide (p.bytes.toNat ≤ 256) && (p.payload.length == 0 || p.payload.length == p.bytes.toNat)

/-- The data of a PCIe read, or the code of a failed one (R318, R329). -/
def HostRead.ok (n : Nat) : HostRead → Bool
  | .data b => decide (b.length ≤ n)
  | .failed _ c => c != 0

/-- A started descriptor is one of at most 64 (R327). -/
def startedOk (j : Nat) : Bool := decide (j < 64)

/-- Whether a list holds no element twice. -/
def noRepeat {α : Type} [BEq α] : List α → Bool
  | [] => true
  | a :: r => !(r.contains a) && noRepeat r

/-- Whether a command is well formed. Every operand not named here is held to its range by its type. -/
def Instr.wf : Instr → Bool
  | .registerWrite t off _ => t.offsetOk off
  | .counterOvfClear t off _ => t.offsetOk off
  | .w64LowRead t off => t.offsetOk off
  | .marchDone _ bad => noRepeat bad
  | .rdReq _ p => p.ok
  | .wr _ p => p.ok
  | .land _ p => p.ok
  | .combinerContribution _ p => p.ok
  | .mcWr _ p _ => p.ok
  | .rdResp _ p => p.ok
  | .ack _ p => p.ok
  | .nak _ p => p.ok
  | .msdRequest _ p => p.ok
  | .hostWindowRequest p => p.ok
  | .jendexIngress _ _ p => p.ok
  | .fabCheckDone bad => noRepeat bad
  | .epochFlip _ j => startedOk j
  | .loadImage _ j h => startedOk j && h.ok (2 ^ 32)
  | .regionStart _ j => startedOk j
  | .regionStop _ j => startedOk j
  | .regionDrain _ j => startedOk j
  | .regionScanOut _ j => startedOk j
  | .regionScanIn _ j => startedOk j
  | .queuePeek _ j => startedOk j
  | .stackRepair _ j => startedOk j
  | .stateDigest _ j => startedOk j
  | .descriptorFetch _ h => h.ok 64
  | .hostNop _ j => startedOk j
  | .dmaH2d _ j h => startedOk j && h.ok (2 ^ 32)
  | .dmaD2h _ j => startedOk j
  | .openWindow _ j => startedOk j
  | .closeWindow _ j => startedOk j
  | .pcieReadCompletion _ h => h.ok 256
  | .mcastGroupSet _ j h => startedOk j && h.ok (2 ^ 32)
  | .tableWrite _ j h => startedOk j && h.ok (2 ^ 32)
  | .floorplanRead _ j => startedOk j
  | .floorplanCommit _ j h => startedOk j && h.ok (2 ^ 32)
  | .crossCheck _ j => startedOk j
  | .marchPreserving _ j => startedOk j
  | .marchDestructive _ j => startedOk j
  | .linkRecal _ j => startedOk j
  | .resetCompute _ j => startedOk j
  | .resetRegion _ j => startedOk j
  | .resetLink _ j => startedOk j
  | .resetWarm _ j => startedOk j
  | .fwStage _ j h => startedOk j && h.ok (2 ^ 32)
  | .fwActivateCupola _ j => startedOk j
  | .fwActivateSecurity _ j => startedOk j
  | .getNonce _ j h => startedOk j && h.ok (2 ^ 32)
  | .setOwner _ j h => startedOk j && h.ok (2 ^ 32)
  | .addImageKey _ j h => startedOk j && h.ok (2 ^ 32)
  | .removeImageKey _ j h => startedOk j && h.ok (2 ^ 32)
  | .setBootPolicy _ j h => startedOk j && h.ok (2 ^ 32)
  | .releaseOwner _ j h => startedOk j && h.ok (2 ^ 32)
  | .makerUnlock _ j h => startedOk j && h.ok (2 ^ 32)
  | .energySnapshot _ j => startedOk j
  | .debugWindowAccess off (.read n) => decide (off + n ≤ 2 ^ 36)
  | .debugWindowAccess off (.write b) => decide (off + b.length ≤ 2 ^ 36)
  | .gatedAccess off _ => decide (off < 2 ^ 26)
  | .sensorRead t => t.length == 339
  | .xcheckPassDone sigs => noRepeat (sigs.map (·.1))
  | .powerGood o => noRepeat o.charged
  | .startupRefWaitEnd o => noRepeat o.charged
  | .startupSupplyWaitEnd o => noRepeat o.charged
  | .pcieRetrain lanes rate8 => [4, 8, 16].contains lanes && [4, 8, 16].contains rate8
  | _ => true

end Sys2Proof
end

