-- ==== Sys2Proof/Tests/Slice0.lean ====
section
/-!
SUPPORT. The model's own tests.
-/

namespace Sys2Proof.Machine

/-- An offset that is no word's is refused. -/
theorem test_wf_offset : (Instr.registerWrite .bar0 2 0).wf = false := by decide

end Sys2Proof.Machine
end

section
/-!
PROOF. Register writes by access kind, and the W64 counters with their read latch (R8, R9, R15, R16).
-/

namespace Sys2Proof.Machine

/-! ### Register writes -/

/-- A core put with its OVF bits and its count of corrected decodes as they were is a core set: no counter has saturated. -/
theorem State.putCore_of_counters (s : State) (k : SiteId) (c : Core)
    (h : ∀ o ∈ 0x100480 :: coreOvfRegs, c.reg o = (s.core k).reg o) : s.putCore k c = s.setCore k c := by
  have hce : c.reg 0x100480 = (s.core k).reg 0x100480 := h _ List.mem_cons_self
  have hnew : newOvf (s.core k) c = [] :=
    List.flatMap_eq_nil_iff.mpr fun _ ho => if_pos (h _ (List.mem_cons_of_mem _ ho))
  simp only [State.putCore, hnew, hce, Nat.sub_self, State.noteRisk_zero, if_true]

/-- Setting a register that is neither an OVF register nor the count of corrected decodes raises nothing. -/
theorem State.modCore_setReg (s : State) (k : SiteId) (off : Nat) (v : Word) (h : off ∉ 0x100480 :: coreOvfRegs) :
    (s.modCore k fun c => c.setReg off v) = s.setCore k ((s.core k).setReg off v) :=
  s.putCore_of_counters k _ fun _ ho => Core.reg_setReg_ne _ _ _ _ fun e => h (e ▸ ho)

/-- The offsets of a core where a write does more than set the RW fields of one word. -/
def coreOwnWrite (off : Nat) : Bool :=
  coreOvfRegs.contains off || inWords off 0x200000 1024 || inWords off 0x300000 128 || inWords off 0x102000 2048
    || (inWords off 0x100100 64 || inWords off 0x100800 128 || inWords off 0x100A00 64 || inWords off 0x104000 4096)
    || inWords off 0x100410 4 || inWords off 0x100440 16 || rgnRW off != 0
    || [0x100018, 0x10001C, 0x100308, 0x1004A0, 0x100614, 0x10061C, 0x100638, 0x100B04, 0x100B0C].contains off

/-- A write elsewhere sets the RW fields of the word and no other bit. -/
theorem State.coreWrite_plain (s : State) (k : SiteId) (off : Nat) (v : Word) (h : coreOwnWrite off = false) :
    s.coreWrite k off v =
      if coreRW off = 0 then s else s.modCore k fun c => c.setReg off (v &&& coreRW off) := by
  simp only [coreOwnWrite, Bool.or_eq_false_iff, bne_eq_false_iff_eq] at h
  obtain ⟨⟨⟨⟨⟨⟨⟨⟨hovf, hchan⟩, hcmb⟩, hsw⟩, ⟨⟨⟨hctx, hfile⟩, hloop⟩, hstore⟩⟩, hbank⟩, hwin⟩, hrgn⟩, hown⟩ := h
  simp only [List.contains_eq_mem, decide_eq_false_iff_not, List.mem_cons, List.not_mem_nil, or_false, not_or] at hown
  simp only [State.coreWrite, hovf, hchan, hcmb, hsw, hctx, hfile, hloop, hstore, hbank, hwin, hrgn, Bool.or_self,
    Bool.false_eq_true, if_false, ne_eq, not_true_eq_false]
  split <;> simp only [eq_self, not_true_eq_false, false_and, and_false] at hown ⊢

/-- The offsets of BAR0 where a write does more than set the RW fields of one word. -/
def barOwnWrite (off : Nat) : Bool :=
  off % 4 != 0 || (decide (stkBase ≤ off) && decide (off < sysBase)) || barCounters off != []
    || (decide (0x21000 ≤ off) && decide (off < 0x23000)) || (decide (0x24000 ≤ off) && decide (off < 0x24800))
    || (decide (0x31000 ≤ off) && decide (off < 0x39000))
    || (decide (sysBase + 0x100 ≤ off) && decide (off < sysBase + 0x900))
    || [0x000104, 0x00010C, 0x000120, 0x000124, 0x000128, 0x020004, 0x100020, 0x110004, 0x200010, 0x430004, 0x43000C,
        0x430018, 0x43001C, 0x430090, 0x500040, 0x600008, 0x60000C].contains off

/-- A write elsewhere in an enabled block sets the RW fields of the word and no other bit. -/
theorem State.barWriteOpen_plain (s : State) (off : Nat) (v : Word) (h : barOwnWrite off = false) :
    s.barWriteOpen off v = if barRW off = 0 then s else s.setBar off (v &&& barRW off) := by
  simp only [barOwnWrite, Bool.or_eq_false_iff, bne_eq_false_iff_eq, ← Bool.decide_and, decide_eq_false_iff_not] at h
  obtain ⟨⟨⟨⟨⟨⟨⟨hword, hunit⟩, hctr⟩, hcmd⟩, hcpl⟩, hmsix⟩, hwin⟩, hown⟩ := h
  simp only [List.contains_eq_mem, decide_eq_false_iff_not, List.mem_cons, List.not_mem_nil, or_false, not_or] at hown
  have hstk : ¬(stkBase ≤ off ∧ off < lntBase) := by simp only [stkBase, lntBase, sysBase] at hunit ⊢; omega
  have hlnt : ¬(lntBase ≤ off ∧ off < sysBase) := by simp only [stkBase, lntBase, sysBase] at hunit ⊢; omega
  have hthere : s.unitThere off = true := by rw [State.unitThere, if_neg hstk, if_neg hlnt]
  have hopen : ¬((!(s.unitThere off) || off % 4 != 0) = true) := by rw [hthere, hword]; decide
  unfold State.barWriteOpen
  rw [if_neg hopen, if_neg (not_not_intro hctr)]
  by_cases hro : barRW off = 0
  · rw [if_neg (not_not_intro hro), if_neg hcmd, if_neg hcpl, if_neg hmsix, if_neg hwin, if_pos hro]
    split <;> simp only [eq_self, not_true_eq_false, false_and, and_false] at hown ⊢
  · rw [if_pos hro, if_neg hro]

/-- A write to a plain RW register of a core that is there sets its fields and leaves everything else (R8, R9). -/
theorem registerWrite_core_rw (s : State) (k : SiteId) (off : Nat) (m v : Word) (hon : s.siteOn k = true)
    (hoff : coreDecoded off = true ∧ coreOwnWrite off = false ∧ off ∉ 0x100480 :: coreOvfRegs)
    (hm : coreRW off = m ∧ m ≠ 0) :
    registerWrite (.core k) off v s = s.setCore k ((s.core k).setReg off (v &&& m)) := by
  obtain ⟨hdec, hplain, hctr⟩ := hoff
  obtain ⟨rfl, hm0⟩ := hm
  simp only [registerWrite, hon, hdec, Bool.and_self, if_true]
  rw [State.coreWrite_plain _ _ _ _ hplain, if_neg hm0, State.modCore_setReg _ _ _ _ hctr]

/-- A write to a RO register of a core has no effect (R9). -/
theorem registerWrite_core_ro (s : State) (k : SiteId) (off : Nat) (v : Word)
    (h : coreOwnWrite off = false ∧ coreRW off = 0) : registerWrite (.core k) off v s = s := by
  obtain ⟨hplain, hro⟩ := h
  simp only [registerWrite, State.coreWrite_plain _ _ _ _ hplain, hro, if_true, ite_self]

/-- A write to a plain register of BAR0 whose block is enabled sets its RW fields (R8, R9). -/
theorem registerWrite_bar0_plain (s : State) (off : Nat) (v : Word) (hopen : s.gated off = false)
    (h : barOwnWrite off = false) :
    registerWrite .bar0 off v s = if barRW off = 0 then s else s.setBar off (v &&& barRW off) := by
  simp only [registerWrite, State.barWrite, State.barAccess, hopen, Bool.false_eq_true, if_false]
  exact s.barWriteOpen_plain off v h

/-! ### W64 counters and their latch -/

/-- The high word of a 64-bit value. -/
theorem highWord_eq (x : DWord) : BitVec.ofNat 32 (x.toNat >>> 32) = BitVec.ofNat 32 (x.toNat / 2 ^ 32) := by
  rw [Nat.shiftRight_eq_div_pow]

/-- The words of a core whose reads go to a block before its W64 pairs are looked at. -/
def coreBlock (off : Nat) : Bool :=
  inWords off 0x200000 1024 || inWords off 0x300000 128 || inWords off 0x102000 2048 || inWords off 0x100100 64
    || inWords off 0x100800 128 || inWords off 0x100A00 64 || inWords off 0x1006C0 16 || inWords off 0x100410 4

/-- A W64 pair of a core lies in none of the blocks, and its high word is no low word. -/
theorem coreW64_place (off : Nat) (h : coreW64 off = true) :
    coreBlock off = false ∧ coreBlock (off + 4) = false ∧ coreW64 (off + 4) = false ∧
      inWords off 0x104000 4096 = false ∧ inWords off 0x100700 16 = false := by
  have hmem : off ∈ [0x100020, 0x100028, 0x100320, 0x100328, 0x100620, 0x100630, 0x100C28, 0x100C30] ++
      (List.range 8).map (0x100740 + 8 * ·) := by
    simp only [coreW64, Bool.or_eq_true, Bool.and_eq_true, decide_eq_true_eq, beq_iff_eq, List.contains_eq_mem] at h
    rcases h with h | ⟨⟨hlo, hhi⟩, hmod⟩
    · exact List.mem_append_left _ h
    · exact List.mem_append_right _
        (List.mem_map.mpr ⟨(off - 0x100740) / 8, List.mem_range.mpr (by omega), by omega⟩)
  clear h
  revert off
  decide

/-- The low word of a W64 pair reads as the low word of its value (R15). -/
theorem State.coreView_low (s : State) (k : SiteId) (off : Nat) (h : coreW64 off = true) :
    s.coreView k off = BitVec.ofNat 32 (s.coreW64Val k off).toNat := by
  obtain ⟨hblock, -⟩ := coreW64_place off h
  simp only [coreBlock, Bool.or_eq_false_iff] at hblock
  obtain ⟨⟨⟨⟨⟨⟨⟨h1, h2⟩, h3⟩, h4⟩, h5⟩, h6⟩, h7⟩, h8⟩ := hblock
  simp only [State.coreView, h1, h2, h3, h4, h5, h6, h7, h8, h, Bool.false_eq_true, if_false, if_true]

/-- The high word of a W64 pair reads as latched (R16). -/
theorem State.coreView_high (s : State) (k : SiteId) (off : Nat) (h : coreW64 off = true) :
    s.coreView k (off + 4) = Tbl.get 0 (s.core k).latch off := by
  obtain ⟨-, hblock, hlow, -⟩ := coreW64_place off h
  simp only [coreBlock, Bool.or_eq_false_iff] at hblock
  obtain ⟨⟨⟨⟨⟨⟨⟨h1, h2⟩, h3⟩, h4⟩, h5⟩, h6⟩, h7⟩, h8⟩ := hblock
  simp only [State.coreView, h1, h2, h3, h4, h5, h6, h7, h8, hlow, Nat.add_sub_cancel, h, Bool.false_eq_true, if_false,
    if_true]

/-- A read of the low word of a core's W64 pair answers it and latches the high word (R16). -/
theorem w64LowRead_core (s : State) (k : SiteId) (off : Nat) (hon : s.siteOn k = true) (h : coreW64 off = true) :
    w64LowRead (.core k) off s =
      (s.setCore k ((s.core k).latchHigh off (s.coreW64Val k off))).answerWord
        (BitVec.ofNat 32 (s.coreW64Val k off).toNat) := by
  obtain ⟨-, -, -, hstore, hpop⟩ := coreW64_place off h
  simp only [w64LowRead, State.coreRead, hon, h, hstore, hpop, s.coreView_low k off h, Bool.true_or, Bool.and_self,
    Bool.false_eq_true, if_false, if_true]

/-- A read of the low word of a W64 pair of BAR0 answers it and latches the high word (R16). -/
theorem w64LowRead_bar0 (s : State) (off : Nat) (h : s.barIsLow off = true) (hopen : s.gated off = false) :
    w64LowRead .bar0 off s =
      ({ s with latch := Tbl.set 0 s.latch off (BitVec.ofNat 32 ((s.barW64 off).toNat / 2 ^ 32)) } : State).answerWord
        (BitVec.ofNat 32 (s.barW64 off).toNat) := by
  simp only [w64LowRead, h, hopen, highWord_eq, Bool.not_true, Bool.false_eq_true, if_false]

/-- What the host's read answers: the four bytes of the value's low word. -/
theorem State.answerWord_last (s : State) (x : Nat) :
    (s.answerWord (BitVec.ofNat 32 x)).host.last = leBytes 4 (x % 2 ^ 32) := by
  rw [State.answerWord, BitVec.toNat_ofNat]

/-- The latch of a core after a low read: the pair's own high word, the others as before. -/
theorem Core.latch_latchHigh (c : Core) (off o : Nat) (x : DWord) :
    Tbl.get 0 (c.latchHigh off x).latch o =
      if o = off then BitVec.ofNat 32 (x.toNat / 2 ^ 32) else Tbl.get 0 c.latch o := by
  rw [← highWord_eq]; exact Tbl.get_set 0 c.latch off o _

/-! ### The statements -/

/-- Settles O23: the registers named are plain ones of the model's tables, so a write sets the RW fields alone. -/
theorem registerWrites : Obligations.RegisterWrites := by
  unfold Obligations.RegisterWrites
  intro s k v
  refine ⟨fun hon => ⟨?coreRw, ?coreRo⟩, ?coreOff, ?barRw, ?barRo⟩
  case coreRw =>
    intro p hp
    have hoff : (coreDecoded p.1 = true ∧ coreOwnWrite p.1 = false ∧ p.1 ∉ 0x100480 :: coreOvfRegs) ∧
        coreRW p.1 = p.2 ∧ p.2 ≠ 0 := by
      revert p; decide
    refine ⟨_, congrArg Host.Outcome.next (registerWrite_core_rw s k p.1 p.2 v hon hoff.1 hoff.2),
      State.onlyCore_setCore _ (State.onlyCore_refl k s), ?_, ?_, fun o ho => ?_⟩
    · rw [State.core_setCore]; rfl
    · rw [State.core_setCore, Core.reg_setReg]
    · rw [State.core_setCore, Core.reg_setReg_ne _ _ _ _ ho]
  case coreRo =>
    intro off hmem
    have hoff : coreOwnWrite off = false ∧ coreRW off = 0 := by revert off; decide
    exact congrArg Host.Outcome.next (registerWrite_core_ro s k off v hoff)
  case coreOff =>
    intro hoff off
    refine congrArg Host.Outcome.next (?_ : registerWrite (.core k) off v s = s)
    simp only [registerWrite, hoff, Bool.false_and, Bool.false_eq_true, if_false]
  case barRw =>
    intro p hp hopen
    have hoff : barOwnWrite p.1 = false ∧ barRW p.1 = p.2 ∧ p.2 ≠ 0 := by clear hopen; revert p; decide
    obtain ⟨hplain, hmask, hm0⟩ := hoff
    refine ⟨s.setBar p.1 (v &&& p.2), congrArg Host.Outcome.next ?_, rfl, State.bar_setBar _ _ _,
      fun o ho => State.bar_setBar_ne _ _ _ _ ho⟩
    rw [registerWrite_bar0_plain s p.1 v hopen hplain, hmask, if_neg hm0]
  case barRo =>
    intro off hmem hopen
    have hoff : barOwnWrite off = false ∧ barRW off = 0 := by clear hopen; revert off; decide
    refine congrArg Host.Outcome.next ?_
    rw [registerWrite_bar0_plain s off v hopen hoff.1, if_pos hoff.2]

/-- Settles O25: a low read latches the high word, and the high word's own reads go to the latch. -/
theorem w64Counters : Obligations.W64Counters := by
  unfold Obligations.W64Counters
  intro s k off
  refine ⟨fun n => Tbl.get_set_self 0 _ _ _, fun hon hlow => ?core, fun hlow hopen => ?bar0⟩
  case core =>
    intro x
    let t : State := (s.setCore k ((s.core k).latchHigh off x)).answerWord (BitVec.ofNat 32 x.toNat)
    have hcore : t.core k = (s.core k).latchHigh off x := State.core_setCore s k _
    have hlatch : Tbl.get 0 (t.core k).latch off = BitVec.ofNat 32 (x.toNat / 2 ^ 32) := by
      rw [hcore, Core.latch_latchHigh, if_pos rfl]
    refine ⟨t, congrArg Host.Outcome.next (w64LowRead_core s k off hon hlow), State.answerWord_last _ _, rfl,
      fun j hj => State.core_setCore_ne s k j _ hj, ?_, fun o => ?_, ?_, fun n => ?_⟩
    · rw [hcore]; rfl
    · rw [hcore, Core.latch_latchHigh]
    · rw [State.coreView_high _ _ _ hlow, hlatch]
    · rw [State.coreView_high _ _ _ hlow, State.core_setCore]; exact hlatch
  case bar0 =>
    exact ⟨_, congrArg Host.Outcome.next (w64LowRead_bar0 s off hlow hopen), State.answerWord_last _ _, rfl,
      fun o => Tbl.get_set 0 s.latch off o _⟩

end Sys2Proof.Machine
end

section
/-!
PROOF. The host's rings: doorbells and ring set-up, fetching and starting descriptors, completion records and event
records (R12, R323-R330, R337, R345).
-/

namespace Sys2Proof.Machine

/-! ### Bits and bytes -/

/-- A bit set reads back. -/
theorem getLsbD_setBit (v : Word) (i : Nat) (b : Bool) (h : i < 32) : (setBit v i b).getLsbD i = b := by
  have hmask : (BitVec.ofNat 32 ((2 ^ 1 - 1) <<< i)).getLsbD i = true := by
    rw [BitVec.getLsbD_ofNat, decide_eq_true h, Nat.testBit_shiftLeft, decide_eq_true (Nat.le_refl i), Nat.sub_self]; rfl
  have hval : (BitVec.ofNat 32 (b.toNat <<< i)).getLsbD i = b := by
    rw [BitVec.getLsbD_ofNat, decide_eq_true h, Nat.testBit_shiftLeft, decide_eq_true (Nat.le_refl i), Nat.sub_self]
    cases b <;> rfl
  simp only [setBit, setFld, BitVec.getLsbD_or, BitVec.getLsbD_and, BitVec.getLsbD_not, hmask, hval, Bool.not_true,
    Bool.and_false, Bool.false_or, Bool.and_true]

/-- The number little-endian bytes spell. -/
theorem leNat_leBytes (n v : Nat) : leNat (leBytes n v) = v % 256 ^ n := by
  induction n generalizing v with
  | zero => exact (Nat.mod_one v).symm
  | succ n ih =>
    simp only [leBytes, leNat, ih, BitVec.toNat_ofNat]
    rw [Nat.pow_succ' (m := 256), Nat.mod_mul]

theorem length_leBytes (n v : Nat) : (leBytes n v).length = n := by
  induction n generalizing v with
  | zero => rfl
  | succ n ih => rw [leBytes, List.length_cons, ih]

/-- The bytes of a number from the `lo`-th on are those of the number without its `lo` low bytes. -/
theorem drop_leBytes (lo n v : Nat) : (leBytes (lo + n) v).drop lo = leBytes n (v / 256 ^ lo) := by
  induction lo generalizing v with
  | zero => rw [Nat.zero_add, List.drop_zero, Nat.pow_zero, Nat.div_one]
  | succ lo ih =>
    rw [Nat.succ_add, leBytes, List.drop_succ_cons, ih, Nat.div_div_eq_div_mul, ← Nat.pow_succ']

theorem take_leBytes (n m v : Nat) : (leBytes (n + m) v).take n = leBytes n v := by
  induction n generalizing v with
  | zero => rfl
  | succ n ih => rw [Nat.succ_add, leBytes, List.take_succ_cons, ih, leBytes]

/-- A field of the bytes of a number. -/
theorem leAt_leBytes (N lo n v : Nat) (h : lo + n ≤ N) : leAt (leBytes N v) lo n = v / 256 ^ lo % 256 ^ n := by
  obtain ⟨m, rfl⟩ := Nat.exists_eq_add_of_le h
  rw [leAt, slice, Nat.add_assoc, drop_leBytes, take_leBytes, leNat_leBytes]

/-- A field of a descriptor fits its bytes. -/
theorem Desc.f_lt (d : Desc) (byte bytes : Nat) : d.f byte bytes < 2 ^ (8 * bytes) := Nat.mod_lt _ (Nat.two_pow_pos _)

/-! ### Ring set-up -/

theorem doorbellCmd_off (s : State) (r : Nat) (v : Word) (h : cfgEn (s.bar (cmdCfg r)) = false) :
    doorbellCmd r v s = s.engErr 3 := by
  simp only [doorbellCmd, h, Bool.not_false, if_true]

theorem doorbellCmd_beyond (s : State) (r : Nat) (v : Word) (h : cfgEn (s.bar (cmdCfg r)) = true)
    (hv : cfgSize (s.bar (cmdCfg r)) ≤ v.toNat) : doorbellCmd r v s = s.engErr 2 := by
  simp only [doorbellCmd, h, hv, Bool.not_true, Bool.false_eq_true, if_false, if_true]

theorem doorbellCmd_within (s : State) (r : Nat) (v : Word) (h : cfgEn (s.bar (cmdCfg r)) = true)
    (hv : v.toNat < cfgSize (s.bar (cmdCfg r))) :
    doorbellCmd r v s = s.setRing r { s.ring r with tail := v.toNat } := by
  simp only [doorbellCmd, h, Nat.not_le.mpr hv, Bool.not_true, Bool.false_eq_true, if_false]

theorem doorbellCpl_off (s : State) (q : Nat) (v : Word) (h : cfgEn (s.bar (cplCfg q)) = false) :
    doorbellCpl q v s = s.engErr 3 := by
  simp only [doorbellCpl, h, Bool.not_false, if_true]

theorem doorbellCpl_beyond (s : State) (q : Nat) (v : Word) (h : cfgEn (s.bar (cplCfg q)) = true)
    (hv : cfgSize (s.bar (cplCfg q)) ≤ v.toNat) : doorbellCpl q v s = s.engErr 2 := by
  simp only [doorbellCpl, h, hv, Bool.not_true, Bool.false_eq_true, if_false, if_true]

theorem doorbellCpl_within (s : State) (q : Nat) (v : Word) (h : cfgEn (s.bar (cplCfg q)) = true)
    (hv : v.toNat < cfgSize (s.bar (cplCfg q))) :
    doorbellCpl q v s = s.setCpl q { s.cpl q with head := v.toNat } := by
  simp only [doorbellCpl, h, Nat.not_le.mpr hv, Bool.not_true, Bool.false_eq_true, if_false]

/-- An access to a gated block is dropped and flagged (R320). -/
theorem State.barAccess_gated (s : State) (off : Nat) (go : State → State) (h : s.gated off = true) :
    s.barAccess off go = s.gatedWrite off := if_pos h

/-- An access to an enabled block acts. -/
theorem State.barAccess_open (s : State) (off : Nat) (go : State → State) (h : s.gated off = false) :
    s.barAccess off go = go s := if_neg (Bool.eq_false_iff.mp h)

/-- A command ring's configuration word set, and its error cleared where the word enables it (R327, R345). -/
def State.putCmdCfg (s : State) (r : Nat) (en : Bool) (w : Word) : State :=
  let s := s.setBar (cmdCfg r) w
  if en then s.setRing r { s.ring r with err := false } else s

theorem State.putCmdCfg_spec (s : State) (r : Nat) (en : Bool) (w : Word) :
    let t := s.putCmdCfg r en w
    t = { s with regs := t.regs, host := { s.host with cmd := t.host.cmd } } ∧ t.bar (cmdCfg r) = w ∧
      t.ring r = { s.ring r with err := (s.ring r).err && !en } ∧ ∀ o, o ≠ cmdCfg r → t.bar o = s.bar o := by
  cases en with
  | false =>
    refine ⟨rfl, State.bar_setBar s _ w, ?_, fun o ho => State.bar_setBar_ne s _ o w ho⟩
    rw [Bool.not_false, Bool.and_true]; rfl
  | true =>
    refine ⟨rfl, State.bar_setBar s _ w, ?_, fun o ho => State.bar_setBar_ne s _ o w ho⟩
    rw [Bool.not_true, Bool.and_false]; exact State.ring_setRing _ r _

/-- A completion ring's configuration word set, and the ring empty where the word newly enables it (R325, R345). -/
def State.putCplCfg (s : State) (q : Nat) (new : Bool) (w : Word) : State :=
  let s := s.setBar (cplCfg q) w
  if new then s.setCpl q { s.cpl q with tail := 0, phase := true, head := 0 } else s

theorem State.putCplCfg_spec (s : State) (q : Nat) (new : Bool) (w : Word) :
    let t := s.putCplCfg q new w
    t = { s with regs := t.regs, host := { s.host with cpl := t.host.cpl } } ∧ t.bar (cplCfg q) = w ∧
      t.cpl q = (if new = true then { s.cpl q with tail := 0, phase := true, head := 0 } else s.cpl q) ∧
      ∀ o, o ≠ cplCfg q → t.bar o = s.bar o := by
  cases new with
  | false => exact ⟨rfl, State.bar_setBar s _ w, rfl, fun o ho => State.bar_setBar_ne s _ o w ho⟩
  | true =>
    exact ⟨rfl, State.bar_setBar s _ w, State.cpl_setCpl _ q _, fun o ho => State.bar_setBar_ne s _ o w ho⟩

/-- ENG_HIF_VER takes a version while no ring is enabled, and answers whether the engine has it (R323). -/
theorem hifVerWrite_spec (s : State) (v : Word) (h : s.ringsOn = false) :
    let ok := decide (wfld v 16 8 ≤ 1) && decide (1 ≤ wfld v 8 8)
    let t := hifVerWrite v s
    s.onlyRegs t ∧ t.bar 0x104 = v &&& 0xFFFFFF ∧ t.bar 0x108 = (if ok = true then 0x80000100 else 0) ∧
      (t.bar 0x100).getLsbD 2 = ok ∧ ∀ o, o ≠ 0x100 → o ≠ 0x104 → o ≠ 0x108 → t.bar o = s.bar o := by
  intro ok t
  have ht : t = ((s.setBar 0x104 (v &&& 0xFFFFFF)).setBar 0x108 (if ok then 0x80000100 else 0)).setBar 0x100
      (setBit (s.bar 0x100) 2 ok) := if_neg (Bool.eq_false_iff.mp h)
  rw [ht]
  refine ⟨rfl, ?_, ?_, ?_, fun o h0 h4 h8 => ?_⟩
  · rw [State.bar_setBar_ne _ _ _ _ (by decide), State.bar_setBar_ne _ _ _ _ (by decide), State.bar_setBar]
  · rw [State.bar_setBar_ne _ _ _ _ (by decide), State.bar_setBar]
  · rw [State.bar_setBar, getLsbD_setBit _ _ _ (by decide)]
  · rw [State.bar_setBar_ne _ _ _ _ h0, State.bar_setBar_ne _ _ _ _ h8, State.bar_setBar_ne _ _ _ _ h4]

/-! ### Fetching and starting descriptors -/

/-- The ring whose turn it is has a descriptor to fetch, and no ring before it in the round has (R327). -/
theorem State.nextRing_first (s : State) (r : Nat) (h : s.nextRing = some r) :
    s.fetchable r = true ∧ ∃ i, i < 256 ∧ (s.host.next + i) % 256 = r ∧
      ∀ j, j < i → s.fetchable ((s.host.next + j) % 256) = false := by
  rw [State.nextRing, List.find?_map, Option.map_eq_some_iff] at h
  obtain ⟨i, hfind, rfl⟩ := h
  obtain ⟨hi, hlt, hbefore⟩ := List.find?_range_eq_some.mp hfind
  exact ⟨hi, i, List.mem_range.mp hlt, rfl, fun j hj => by
    simpa only [Bool.not_eq_true', Function.comp_apply] using hbefore j hj⟩

theorem padTo_of_length (n : Nat) (b : List Byte) (h : b.length = n) : padTo n b = b := by
  rw [padTo, ← h, List.take_length, Nat.sub_self, List.replicate_zero, List.append_nil]

/-- The descriptor fetched goes to the end of those its ring has waiting (R327). -/
theorem descriptorFetch_data (s : State) (r : Fin 256) (b : List Byte) (h : s.nextRing = some r.val) (hb : b.length = 64) :
    let head := ((s.ring r).head + 1) % cfgSize (s.bar (cmdCfg r))
    descriptorFetch r (.data b) s =
      ({ s with host := { s.host with next := (r.val + 1) % 256 } } : State).setRing r
        { s.ring r with head := head, uid := (s.ring r).uid + 1, fetched := (s.ring r).fetched ++
          [{ w := BitVec.ofNat 512 (leNat b), head := BitVec.ofNat 16 head, uid := (s.ring r).uid, busy := false }] } := by
  simp only [descriptorFetch, h, ne_eq, not_true_eq_false, if_false, padTo_of_length 64 b hb]; rfl

/-- A fetch that fails stops its ring and answers with a record of its own (R329). -/
theorem descriptorFetch_failed (s : State) (r : Fin 256) (b : List Byte) (code : Byte) (h : s.nextRing = some r.val) :
    descriptorFetch r (.failed b code) s =
      ((({ s with host := { s.host with next := (r.val + 1) % 256 } } : State).setRing r
        { s.ring r with err := true }).engErr 6).queueRecord (s.cplOf r)
        (cplRecord r 0 (s.ring r).head 0xFFFFFFFF stWINDOW code.toNat 0) := by
  simp only [descriptorFetch, h, ne_eq, not_true_eq_false, if_false]; rfl

/-- What a failed fetch leaves: its ring stopped, the fault flagged and the record among those that wait (R329). -/
theorem descriptorFetch_failed_spec (s : State) (r : Fin 256) (b : List Byte) (code : Byte)
    (h : s.nextRing = some r.val) :
    let t := descriptorFetch r (.failed b code) s
    t.ring r = { s.ring r with err := true } ∧ (t.bar 0x10C).getLsbD 6 = true ∧
      (t.cpl (s.cplOf r)).waiting = (s.cpl (s.cplOf r)).waiting ++
        [cplRecord r 0 (s.ring r).head 0xFFFFFFFF stWINDOW code.toNat 0] := by
  intro t
  have ht := descriptorFetch_failed s r b code h
  refine ⟨?_, ?_, ?_⟩
  · exact (congrArg (State.ring · r) ht).trans (State.ring_setRing _ r _)
  · refine (congrArg (fun u : State => (u.bar 0x10C).getLsbD 6) ht).trans ?_
    exact (congrArg (BitVec.getLsbD · 6) (State.bar_setBar _ 0x10C _)).trans (getLsbD_setBit _ 6 true (by decide))
  · refine (congrArg (fun u : State => (u.cpl (s.cplOf r)).waiting) ht).trans ?_
    exact congrArg CplRing.waiting (State.cpl_setCpl _ (s.cplOf r) _)

/-- What keeps the first waiting descriptor of a ring from starting (R327, R448). -/
def State.startHeld (s : State) (r : Nat) (d : Desc) : Prop :=
  (d.bits 2 0 1 = 1 ∧ (s.ring r).started ≠ []) ∨ 64 ≤ (s.ring r).started.length ∨
    64 ≤ (s.cpl (s.cplOf r)).waiting.length ∨ s.boot.warm = true ∨ (s.cupolaBusy = true ∧ cupolaRun (d.f 0 1) = true)

theorem descriptorStart_held (s : State) (r : Fin 256) (d : Desc) (rest : List Desc)
    (hd : (s.ring r).fetched = d :: rest) (h : s.startHeld r d) : descriptorStart r s = s := by
  simp only [State.startHeld] at h
  simp only [descriptorStart, hd]
  rw [if_pos (by
    simpa only [Bool.or_eq_true, Bool.and_eq_true, beq_iff_eq, bne_iff_ne, decide_eq_true_eq, or_assoc] using h)]

/-- A descriptor that may start does, and completes at once where its header or its body stops it (R327, R328). -/
theorem descriptorStart_ready (s : State) (r : Fin 256) (d : Desc) (rest : List Desc)
    (hd : (s.ring r).fetched = d :: rest) (h : ¬ s.startHeld r d) :
    descriptorStart r s =
      let v := s.setRing r { s.ring r with fetched := rest, started := (s.ring r).started ++ [d] }
      match s.descStatus d with
      | some st => v.complete (r.val, d.uid) st
      | none => v := by
  simp only [State.startHeld] at h
  simp only [descriptorStart, hd]
  rw [if_neg (by
    simpa only [Bool.or_eq_true, Bool.and_eq_true, beq_iff_eq, bne_iff_ne, decide_eq_true_eq, or_assoc] using h)]
  rfl

/-! ### What a header or a body is refused for -/

/-- The bits of a descriptor its header and its body's fields take (R328). -/
def bodyMask (fs : List (Nat × Nat)) : Nat :=
  fs.foldl (fun m x => m ||| ((2 ^ x.2 - 1) <<< (8 * x.1))) (0x1FFFF + ((2 ^ 32 - 1) <<< 32))

/-- Bits 31:17 of the header belong to no field of any body. -/
theorem bodyMask_reserved (opc : Nat) (fs : List (Nat × Nat)) (h : bodyFields opc = some fs) :
    fld (bodyMask fs) 17 15 = 0 := by
  unfold bodyFields at h
  split at h <;> cases h <;> rfl

/-- A descriptor whose reserved header bits are not all 0 does not fit its mask. -/
theorem maskOk_false_of_reserved (w m : Nat) (hm : fld m 17 15 = 0) (hw : fld w 17 15 ≠ 0) : maskOk w m = false := by
  rw [maskOk, beq_eq_false_iff_ne]
  intro h
  apply hw
  rw [← h, fld, Nat.shiftRight_and_distrib, Nat.and_mod_two_pow]
  rw [fld] at hm
  rw [hm, Nat.and_zero]

theorem State.descStatus_none (s : State) (d : Desc) (h : bodyFields (d.f 0 1) = none) :
    s.descStatus d = some (if d.f 1 1 = 1 then stBADOPC else stBADVER) := by simp only [State.descStatus, h]

theorem State.descStatus_some (s : State) (d : Desc) (fs : List (Nat × Nat)) (h : bodyFields (d.f 0 1) = some fs) :
    s.descStatus d =
      if d.f 1 1 ≠ 1 then some stBADVER
      else if !(maskOk d.w.toNat (bodyMask fs)) || !(bodyValues d) then some stBADRSVD
      else if !s.ready && !([0x01, 0x19, 0x1A, 0x1B].contains (d.f 0 1)) then some stNOTREADY
      else none := by simp only [State.descStatus, h]; rfl

/-- The statuses a descriptor is refused with; NOTREADY only while the engine is not READY (R328, R330, R437). -/
theorem State.descStatus_cases (s : State) (d : Desc) (st : Nat) (h : s.descStatus d = some st) :
    st = stBADOPC ∨ st = stBADVER ∨ st = stBADRSVD ∨ (st = stNOTREADY ∧ s.ready = false) := by
  cases hb : bodyFields (d.f 0 1) with
  | none =>
    rw [s.descStatus_none d hb, Option.some.injEq] at h
    split at h
    · exact Or.inl h.symm
    · exact Or.inr (Or.inl h.symm)
  | some fs =>
    rw [s.descStatus_some d fs hb] at h
    split at h
    · exact Or.inr (Or.inl (Option.some.inj h).symm)
    split at h
    · exact Or.inr (Or.inr (Or.inl (Option.some.inj h).symm))
    split at h
    · next hready =>
      simp only [Bool.and_eq_true, Bool.not_eq_true'] at hready
      exact Or.inr (Or.inr (Or.inr ⟨(Option.some.inj h).symm, hready.1⟩))
    · cases h

/-- A version other than 1 is refused first (R328). -/
theorem State.descStatus_version (s : State) (d : Desc) (h : d.f 1 1 ≠ 1) : s.descStatus d = some stBADVER := by
  cases hb : bodyFields (d.f 0 1) with
  | none => rw [s.descStatus_none d hb, if_neg h]
  | some fs => rw [s.descStatus_some d fs hb, if_pos h]

/-- A reserved bit of the header that is 1 is refused (R328). -/
theorem State.descStatus_reserved (s : State) (d : Desc) (hopc : bodyFields (d.f 0 1) ≠ none) (hver : d.f 1 1 = 1)
    (h : d.bits 2 1 15 ≠ 0) : s.descStatus d = some stBADRSVD := by
  obtain ⟨fs, hb⟩ := Option.ne_none_iff_exists'.mp hopc
  have hmask : maskOk d.w.toNat (bodyMask fs) = false := maskOk_false_of_reserved _ _ (bodyMask_reserved _ fs hb) h
  rw [s.descStatus_some d fs hb, if_neg (not_not_intro hver), hmask]
  rfl

/-! ### Completion records -/

theorem State.complete_of_descOf (s : State) (q : Nat × Nat) (st det : Nat) (res : BitVec 128) (d : Desc)
    (h : s.descOf q = some d) :
    s.complete q st det res =
      (s.setRing q.1 { s.ring q.1 with started := (s.ring q.1).started.filter fun x => x.uid != q.2 }).queueRecord
        (s.cplOf q.1) (cplRecord q.1 (d.f 0 1) d.head.toNat (d.f 4 4) st det res) := by
  simp only [State.complete, h]; rfl

/-- The fields of a completion record lie side by side (R329). -/
theorem toNat_cplRecord (r opc head id st det : Nat) (res : BitVec 128) :
    (cplRecord r opc head id st det res).toNat =
      st % 256 + (opc % 256) * 2 ^ 16 + (r % 256) * 2 ^ 24 + (head % 65536) * 2 ^ 32 + (id % 2 ^ 32) * 2 ^ 64
        + (det % 2 ^ 32) * 2 ^ 96 + res.toNat * 2 ^ 128 := by
  have hres := res.isLt
  simp only [cplRecord, Nat.shiftLeft_eq, BitVec.toNat_ofNat]
  apply Nat.mod_eq_of_lt
  omega

/-- The bytes of a completion record, field by field (R329). -/
theorem leAt_cplRecord (r opc head id st det : Nat) (res : BitVec 128) :
    let b := leBytes 32 (cplRecord r opc head id st det res).toNat
    leAt b 0 1 = st % 256 ∧ leAt b 1 1 = 0 ∧ leAt b 2 1 = opc % 256 ∧ leAt b 3 1 = r % 256 ∧
      leAt b 4 2 = head % 65536 ∧ leAt b 6 2 = 0 ∧ leAt b 8 4 = id % 2 ^ 32 ∧ leAt b 0xC 4 = det % 2 ^ 32 ∧
      leAt b 0x10 16 = res.toNat := by
  have hres := res.isLt
  intro b
  have hb : ∀ lo n, lo + n ≤ 32 → leAt b lo n = (cplRecord r opc head id st det res).toNat / 256 ^ lo % 256 ^ n :=
    fun lo n h => leAt_leBytes 32 lo n _ h
  rw [toNat_cplRecord] at hb
  refine ⟨?_, ?_, ?_, ?_, ?_, ?_, ?_, ?_, ?_⟩ <;> rw [hb _ _ (by decide)] <;> omega

/-- A started descriptor that completes leaves its ring, and its record waits; each field holds what R329 gives it. -/
theorem State.complete_spec (s : State) (q : Nat × Nat) (st det : Nat) (res : BitVec 128) (d : Desc)
    (hd : s.descOf q = some d) (hq : q.1 < 256) (hst : st < 256) :
    let u := s.complete q st det res
    let rec_ := leBytes 32 (cplRecord q.1 (d.f 0 1) d.head.toNat (d.f 4 4) st det res).toNat
    u = { s with host := { s.host with cmd := u.host.cmd, cpl := u.host.cpl } } ∧
      u.ring q.1 = { s.ring q.1 with started := (s.ring q.1).started.filter fun x => x.uid != q.2 } ∧
      (u.cpl (s.cplOf q.1)).waiting = (s.cpl (s.cplOf q.1)).waiting ++
        [cplRecord q.1 (d.f 0 1) d.head.toNat (d.f 4 4) st det res] ∧
      leAt rec_ 0 1 = st ∧ leAt rec_ 1 1 = 0 ∧ leAt rec_ 2 1 = d.f 0 1 ∧ leAt rec_ 3 1 = q.1 ∧
      leAt rec_ 4 2 = d.head.toNat ∧ leAt rec_ 6 2 = 0 ∧ leAt rec_ 8 4 = d.f 4 4 ∧ leAt rec_ 0xC 4 = det % 2 ^ 32 ∧
      leAt rec_ 0x10 16 = res.toNat := by
  intro u rec_
  have hu := s.complete_of_descOf q st det res d hd
  have hfields := leAt_cplRecord q.1 (d.f 0 1) d.head.toNat (d.f 4 4) st det res
  have hopc : d.f 0 1 < 256 := d.f_lt 0 1
  have hid : d.f 4 4 < 2 ^ 32 := d.f_lt 4 4
  have hhead : d.head.toNat < 65536 := d.head.isLt
  rw [Nat.mod_eq_of_lt hst, Nat.mod_eq_of_lt hq, Nat.mod_eq_of_lt hopc, Nat.mod_eq_of_lt hid,
    Nat.mod_eq_of_lt hhead] at hfields
  refine ⟨?_, ?_, ?_, hfields⟩
  · rw [show u = _ from hu]; rfl
  · exact (congrArg (State.ring · q.1) hu).trans (State.ring_setRing _ q.1 _)
  · refine (congrArg (fun u : State => (u.cpl (s.cplOf q.1)).waiting) hu).trans ?_
    exact congrArg CplRing.waiting (State.cpl_setCpl _ (s.cplOf q.1) _)

/-! ### Posting records -/

/-- A masked vector pends (R338). -/
theorem State.raiseVec_masked (s : State) (v : Nat) (h : (s.host.msixW (4 * v + 3)).getLsbD 0 = true) :
    s.raiseVec v = { s with host := { s.host with pba := Tbl.set false s.host.pba v true } } := if_pos h

/-- A vector that is not masked is sent (R338). -/
theorem State.raiseVec_open (s : State) (v : Nat) (h : ¬ (s.host.msixW (4 * v + 3)).getLsbD 0 = true) :
    s.raiseVec v = { s with host := { s.host with sent := s.host.sent ++
      [(s.host.msixW (4 * v + 1) ++ s.host.msixW (4 * v), s.host.msixW (4 * v + 2))] } } := if_neg h

/-- A vector raised changes what pends and what has been sent alone. -/
theorem State.raiseVec_frame (s : State) (v : Nat) :
    ∃ pba sent, s.raiseVec v = { s with host := { s.host with pba := pba, sent := sent } } := by
  by_cases h : (s.host.msixW (4 * v + 3)).getLsbD 0 = true
  · exact ⟨_, _, State.raiseVec_masked s v h⟩
  · exact ⟨_, _, State.raiseVec_open s v h⟩

@[simp] theorem State.cpl_raiseVec (s : State) (v q : Nat) : (s.raiseVec v).cpl q = s.cpl q := by
  obtain ⟨pba, sent, h⟩ := s.raiseVec_frame v
  rw [h]; rfl

@[simp] theorem State.hostByte_raiseVec (s : State) (v a : Nat) : (s.raiseVec v).hostByte a = s.hostByte a := by
  obtain ⟨pba, sent, h⟩ := s.raiseVec_frame v
  rw [h]; rfl

/-- A vector raised is sent, or pends while it is masked (R338). -/
theorem State.raiseVec_sent (s : State) (v : Nat) :
    if (s.host.msixW (4 * v + 3)).getLsbD 0 = true then
      Tbl.get false (s.raiseVec v).host.pba v = true ∧ (s.raiseVec v).host.sent = s.host.sent
    else (s.raiseVec v).host.pba = s.host.pba ∧ (s.raiseVec v).host.sent = s.host.sent ++
      [(s.host.msixW (4 * v + 1) ++ s.host.msixW (4 * v), s.host.msixW (4 * v + 2))] := by
  split
  · next h => rw [State.raiseVec_masked s v h]; exact ⟨Tbl.get_set_self false s.host.pba v true, rfl⟩
  · next h => rw [State.raiseVec_open s v h]; exact ⟨rfl, rfl⟩

/-- Bytes written to host memory and a ring set change the rings and host memory alone. -/
theorem State.setCpl_hostWrite_frame (s : State) (a : Nat) (b : List Byte) (q : Nat) (x : CplRing) :
    ∃ cpl mem, (s.hostWrite a b).setCpl q x = { s with host := { s.host with cpl := cpl, mem := mem } } := ⟨_, _, rfl⟩

@[simp] theorem State.hostByte_setCpl (s : State) (q : Nat) (x : CplRing) : (s.setCpl q x).hostByte = s.hostByte := rfl

/-- A record put changes the rings and host memory alone. -/
theorem State.putRecord_frame (s : State) (q : Nat) (rec_ : BitVec 256) :
    ∃ cpl mem, s.putRecord q rec_ = { s with host := { s.host with cpl := cpl, mem := mem } } := by
  rw [State.putRecord]; exact s.setCpl_hostWrite_frame _ _ q _

/-- Posting a record changes the rings, host memory and what the vector raises, and nothing else. -/
theorem State.post_frame (s : State) (q : Nat) (rec_ : BitVec 256) (vec : Nat) :
    ∃ cpl mem pba sent, (s.putRecord q rec_).raiseVec vec =
      { s with host := { s.host with cpl := cpl, mem := mem, pba := pba, sent := sent } } := by
  obtain ⟨cpl, mem, hput⟩ := s.putRecord_frame q rec_
  obtain ⟨pba, sent, hraise⟩ := (s.putRecord q rec_).raiseVec_frame vec
  exact ⟨cpl, mem, pba, sent, by rw [hraise, hput]⟩

/-- The ring a record is put on: its tail moves on, and what waits is as before (R325). -/
theorem State.cpl_putRecord (s : State) (q : Nat) (rec_ : BitVec 256) :
    (s.putRecord q rec_).cpl q =
      { s.cpl q with
        tail := ((s.cpl q).tail + 1) % cfgSize (s.bar (cplCfg q))
        phase := if ((s.cpl q).tail + 1) % cfgSize (s.bar (cplCfg q)) = 0 then !(s.cpl q).phase else (s.cpl q).phase } := by
  rw [State.putRecord, State.cpl_setCpl]

/-- A record put stands at the ring's tail with its phase, byte by byte (R325). -/
theorem State.hostByte_putRecord (s : State) (q : Nat) (rec_ : BitVec 256) :
    (s.putRecord q rec_).hostByte =
      (s.hostWrite (s.ringBase (cplCfg q) + 32 * (s.cpl q).tail)
        (leBytes 32 (rec_.toNat + ((s.cpl q).phase.toNat <<< 8)))).hostByte := by
  rw [State.putRecord, State.hostByte_setCpl]

/-- Bytes written to host memory, address by address. -/
theorem State.hostByte_hostWrite (s : State) (base x : Nat) (b : List Byte) :
    (s.hostWrite base b).hostByte x =
      if base ≤ x ∧ x < base + b.length then some (b.getD (x - base) 0) else s.hostByte x := by
  simp only [State.hostWrite, State.hostByte, get_hostWrites]
  split
  · next h => rw [if_pos (by omega), List.getD_eq_getElem?_getD, List.getElem?_eq_getElem h.2, Option.getD_some]
  · next h => rw [if_neg (by omega)]

/-- From a state `s`, a record stands at the tail of a completion ring with the ring's phase, the tail has moved on, and
the vector has been raised (R325, R338). -/
def State.Posted (s : State) (q : Nat) (rec_ : BitVec 256) (vec : Nat) (t : State) : Prop :=
  let x := s.cpl q
  let base := s.ringBase (cplCfg q) + 32 * x.tail
  let b := leBytes 32 (rec_.toNat + (x.phase.toNat <<< 8))
  let tail := (x.tail + 1) % cfgSize (s.bar (cplCfg q))
  (∀ a, t.hostByte a = if base ≤ a ∧ a < base + 32 then some (b.getD (a - base) 0) else s.hostByte a) ∧
    (t.cpl q).tail = tail ∧ (t.cpl q).phase = (if tail = 0 then !x.phase else x.phase) ∧ (t.cpl q).head = x.head ∧
    if (s.host.msixW (4 * vec + 3)).getLsbD 0 = true then
      Tbl.get false t.host.pba vec = true ∧ t.host.sent = s.host.sent
    else t.host.pba = s.host.pba ∧ t.host.sent = s.host.sent ++
      [(s.host.msixW (4 * vec + 1) ++ s.host.msixW (4 * vec), s.host.msixW (4 * vec + 2))]

/-- Putting a record and raising its vector posts it. -/
theorem State.posted_post (s : State) (q : Nat) (rec_ : BitVec 256) (vec : Nat) :
    s.Posted q rec_ vec ((s.putRecord q rec_).raiseVec vec) := by
  have hvec := (s.putRecord q rec_).raiseVec_sent vec
  obtain ⟨cpl, mem, hput⟩ := s.putRecord_frame q rec_
  have hhost : (s.putRecord q rec_).host = { s.host with cpl := cpl, mem := mem } := congrArg State.host hput
  rw [hhost] at hvec
  refine ⟨fun a => ?_, ?_, ?_, ?_, hvec⟩
  · rw [State.hostByte_raiseVec, State.hostByte_putRecord, State.hostByte_hostWrite, length_leBytes]
  all_goals rw [State.cpl_raiseVec, State.cpl_putRecord]

/-- Posting depends on the registers, host memory, the vectors and the ring's own tail, phase and head alone. -/
theorem State.Posted.of_same {s u t : State} {q : Nat} {rec_ : BitVec 256} {vec : Nat} (h : u.Posted q rec_ vec t)
    (hregs : u.regs = s.regs) (hcpl : u.cpl q = { s.cpl q with waiting := (u.cpl q).waiting })
    (hhost : u.host = { s.host with cpl := u.host.cpl, events := u.host.events, evSeq := u.host.evSeq }) :
    s.Posted q rec_ vec t := by
  obtain ⟨hbytes, htail, hphase, hhead, hvec⟩ := h
  have hbar : ∀ o, u.bar o = s.bar o := fun o => by rw [State.bar, hregs, State.bar]
  have hlo := congrArg (fun lo hi : Word => lo.toNat + (hi.toNat <<< 32)) (hbar (cplCfg q - 8))
  have hlohi := congr hlo (hbar (cplCfg q - 4))
  have hbase : u.ringBase (cplCfg q) = s.ringBase (cplCfg q) := hlohi
  have hbyte : ∀ a, u.hostByte a = s.hostByte a := fun a => by rw [State.hostByte, hhost, State.hostByte]
  have hmsix : ∀ i, u.host.msixW i = s.host.msixW i := fun i => by rw [hhost]; rfl
  have hpba : u.host.pba = s.host.pba := by rw [hhost]
  have hsent : u.host.sent = s.host.sent := by rw [hhost]
  rw [hcpl, hbar] at htail hphase
  rw [hcpl] at hhead
  rw [hmsix, hmsix, hmsix, hmsix, hpba, hsent] at hvec
  refine ⟨fun a => ?_, htail, hphase, hhead, hvec⟩
  rw [hbytes, hbase, hcpl, hbyte]
/-- A record posted from the front of those that wait (R325, R327). -/
theorem recordPost_posts (s : State) (q : Nat) (rec_ : BitVec 256) (rest : List (BitVec 256))
    (hw : (s.cpl q).waiting = rec_ :: rest) (hroom : s.cplRoom q = true)
    (hfirst : (s.eventsOpen && wfld (s.bar 0x20004) 0 6 == q && s.nextEvent.isSome) = false) :
    recordPost q s = ((s.setCpl q { s.cpl q with waiting := rest }).putRecord q rec_).raiseVec
      (wfld (s.bar (cplCfg q)) 0 11) := by
  simp only [recordPost, hw, hroom, hfirst]; rfl

/-- A completion record waits for room, and while an event record is due first (R325, R337). -/
theorem recordPost_waits (s : State) (q : Nat) (rec_ : BitVec 256) (rest : List (BitVec 256))
    (hw : (s.cpl q).waiting = rec_ :: rest)
    (h : s.cplRoom q = false ∨ (s.eventsOpen && wfld (s.bar 0x20004) 0 6 == q && s.nextEvent.isSome) = true) :
    recordPost q s = s := by
  simp only [recordPost, hw]
  refine if_pos ?_
  rcases h with h | h
  · rw [h, Bool.not_false, Bool.true_or]
  · rw [h, Bool.or_true]

/-- The first answer found over the numbers below `n` is that of the least number that has one. -/
theorem findSome?_range_least {β : Type} (f : Nat → Option β) (n : Nat) (b : β)
    (h : (List.range n).findSome? f = some b) :
    ∃ c, f c = some b ∧ ∀ i, i < c → f i = none := by
  induction n with
  | zero => cases h
  | succ n ih =>
    rw [List.range_succ, List.findSome?_append, Option.or_eq_some_iff] at h
    rcases h with h | ⟨hnone, hn⟩
    · exact ih h
    · refine ⟨n, by rwa [List.findSome?_singleton] at hn, fun i hi => ?_⟩
      exact List.findSome?_eq_none_iff.mp hnone i (List.mem_range.mpr hi)

/-- The event posted first is the pending one of the lowest class (R337). -/
theorem State.nextEvent_first (s : State) (c : Nat) (e : EvPend) (h : s.nextEvent = some (c, e)) :
    Tbl.get none s.host.events c = some e ∧ ∀ i, i < c → Tbl.get none s.host.events i = none := by
  obtain ⟨k, hk, hbefore⟩ := findSome?_range_least _ _ _ h
  obtain ⟨e', he, heq⟩ := Option.map_eq_some_iff.mp hk
  obtain ⟨rfl, rfl⟩ := Prod.mk.inj heq
  exact ⟨he, fun i hi => Option.map_eq_none_iff.mp (hbefore i hi)⟩

theorem eventPost_none (s : State) (h : s.nextEvent = none) : eventPost s = s := by simp only [eventPost, h]

/-- An event record waits while events are shut out or its ring has no room (R337). -/
theorem eventPost_waits (s : State) (c : Nat) (e : EvPend) (h : s.nextEvent = some (c, e))
    (hw : s.eventsOpen = false ∨ s.cplRoom (wfld (s.bar 0x20004) 0 6) = false) : eventPost s = s := by
  simp only [eventPost, h]
  refine if_pos ?_
  rcases hw with hw | hw
  · rw [hw, Bool.not_false, Bool.true_or]
  · rw [hw, Bool.not_false, Bool.or_true]

/-- The state with the pending event of a class taken and the next order number used (R335, R337). -/
def State.takeEvent (s : State) (c : Nat) : State :=
  { s with host := { s.host with events := Tbl.set none s.host.events c none, evSeq := s.host.evSeq + 1 } }

/-- An event record posted with the next order number (R335, R337, R338). -/
theorem eventPost_posts (s : State) (c : Nat) (e : EvPend) (h : s.nextEvent = some (c, e)) (hopen : s.eventsOpen = true)
    (hroom : s.cplRoom (wfld (s.bar 0x20004) 0 6) = true) :
    eventPost s = ((s.takeEvent c).putRecord (wfld (s.bar 0x20004) 0 6) (eventRecord c e (s.host.evSeq + 1))).raiseVec
      (2016 + c) := by
  simp only [eventPost, h, hopen, hroom]; rfl

/-- What posting the first waiting completion record does. -/
theorem recordPost_spec (s : State) (q : Nat) (rec_ : BitVec 256) (rest : List (BitVec 256))
    (hw : (s.cpl q).waiting = rec_ :: rest) (hroom : s.cplRoom q = true)
    (hfirst : (s.eventsOpen && wfld (s.bar 0x20004) 0 6 == q && s.nextEvent.isSome) = false) :
    let t := recordPost q s
    t = { s with host := { s.host with cpl := t.host.cpl, mem := t.host.mem, pba := t.host.pba, sent := t.host.sent } } ∧
      (t.cpl q).waiting = rest ∧ s.Posted q rec_ (wfld (s.bar (cplCfg q)) 0 11) t := by
  intro t
  have ht : t = _ := recordPost_posts s q rec_ rest hw hroom hfirst
  have hcpl := State.cpl_setCpl s q { s.cpl q with waiting := rest }
  obtain ⟨cpl, mem, pba, sent, hframe⟩ :=
    (s.setCpl q { s.cpl q with waiting := rest }).post_frame q rec_ (wfld (s.bar (cplCfg q)) 0 11)
  refine ⟨?_, ?_, ?_⟩
  · rw [ht, hframe]; rfl
  · rw [ht, State.cpl_raiseVec, State.cpl_putRecord, hcpl]
  · rw [ht]
    exact (State.posted_post _ q rec_ _).of_same rfl (by rw [hcpl]) rfl

/-- What posting an event record does. -/
theorem eventPost_spec (s : State) (c : Nat) (e : EvPend) (h : s.nextEvent = some (c, e)) (hopen : s.eventsOpen = true)
    (hroom : s.cplRoom (wfld (s.bar 0x20004) 0 6) = true) :
    let t := eventPost s
    t = { s with host := { s.host with events := t.host.events, evSeq := s.host.evSeq + 1, cpl := t.host.cpl
                                       mem := t.host.mem, pba := t.host.pba, sent := t.host.sent } } ∧
      Tbl.get none t.host.events c = none ∧
      (∀ i, i ≠ c → Tbl.get none t.host.events i = Tbl.get none s.host.events i) ∧
      s.Posted (wfld (s.bar 0x20004) 0 6) (eventRecord c e (s.host.evSeq + 1)) (2016 + c) t := by
  intro t
  have ht : t = _ := eventPost_posts s c e h hopen hroom
  obtain ⟨cpl, mem, pba, sent, hframe⟩ := (s.takeEvent c).post_frame (wfld (s.bar 0x20004) 0 6)
    (eventRecord c e (s.host.evSeq + 1)) (2016 + c)
  have hevents : t.host.events = Tbl.set none s.host.events c none := by rw [ht, hframe]; rfl
  refine ⟨?_, ?_, fun i hi => ?_, ?_⟩
  · rw [ht, hframe]; rfl
  · rw [hevents, Tbl.get_set_self]
  · rw [hevents, Tbl.get_set_ne _ _ _ hi]
  · rw [ht]
    exact (State.posted_post _ _ _ _).of_same rfl rfl rfl

/-! ### The statement -/

/-- Settles O50: each command of the rings by the lemma that says what it does. -/
theorem hostRings : Obligations.HostRings := by
  unfold Obligations.HostRings
  intro s
  refine ⟨fun r v => ?cmdRing, fun q v => ?cplRing, fun v => ?version, fun r h => ?turn, fun r => ?descriptors,
    fun d => ?status, fun q st det res d hd hq hst => s.complete_spec q st det res d hd hq hst, fun r j d hd => ?nop,
    ?posting⟩
  case cmdRing =>
    refine ⟨fun hoff => congrArg Host.Outcome.next (doorbellCmd_off s r v hoff),
      fun hen hv => congrArg Host.Outcome.next (doorbellCmd_beyond s r v hen hv),
      fun hen hv => ⟨_, congrArg Host.Outcome.next (doorbellCmd_within s r v hen hv), rfl, State.ring_setRing s r _,
        fun i hi => State.ring_setRing_ne s r i _ hi⟩,
      fun hg => congrArg Host.Outcome.next (s.barAccess_gated _ _ hg), fun hg => ?_⟩
    intro log2 en
    exact ⟨_, congrArg Host.Outcome.next (s.barAccess_open _ _ hg), s.putCmdCfg_spec r en _⟩
  case cplRing =>
    refine ⟨fun hoff => congrArg Host.Outcome.next (doorbellCpl_off s q v hoff),
      fun hen hv => congrArg Host.Outcome.next (doorbellCpl_beyond s q v hen hv),
      fun hen hv => ⟨_, congrArg Host.Outcome.next (doorbellCpl_within s q v hen hv), rfl, State.cpl_setCpl s q _,
        fun i hi => State.cpl_setCpl_ne s q i _ hi⟩,
      fun hg => congrArg Host.Outcome.next (s.barAccess_gated _ _ hg), fun hg => ?_⟩
    intro log2 en
    obtain ⟨hframe, hword, hring, hregs⟩ := s.putCplCfg_spec q (en && !(cfgEn (s.bar (cplCfg q))))
      (BitVec.ofNat 32 ((if wfld v 0 11 ≤ 2015 then wfld v 0 11 else wfld (s.bar (cplCfg q)) 0 11) + (log2 <<< 16) +
        (en.toNat <<< 31)))
    refine ⟨_, congrArg Host.Outcome.next (s.barAccess_open _ _ hg), hframe, hword, hring.trans ?_, hregs⟩
    simp only [Bool.and_eq_true, Bool.not_eq_true']
  case version =>
    exact ⟨fun hon => congrArg Host.Outcome.next (if_pos hon), fun hoff => ⟨_, rfl, hifVerWrite_spec s v hoff⟩⟩
  case turn =>
    obtain ⟨hr, i, hi, rfl, hbefore⟩ := s.nextRing_first r h
    refine ⟨hr, Nat.mod_lt _ (by decide), fun i' hi' heq j hj => Or.inl (hbefore j ?_)⟩
    omega
  case descriptors =>
    refine ⟨fun hnot h => congrArg Host.Outcome.next (if_pos hnot),
      fun hturn => ⟨fun b hb => ?data, fun b code => ?failed⟩,
      fun d rest hd => ⟨fun hheld => ?held, fun hready => ?ready⟩, fun hnil => ?none⟩
    case data =>
      exact ⟨_, congrArg Host.Outcome.next (descriptorFetch_data s r b hturn hb), rfl,
        fun i hi => State.ring_setRing_ne _ _ _ _ hi, State.ring_setRing _ _ _⟩
    case failed => exact ⟨_, rfl, descriptorFetch_failed_spec s r b code hturn⟩
    case held => exact congrArg Host.Outcome.next (descriptorStart_held s r d rest hd (Classical.not_not.mp hheld))
    case ready =>
      exact ⟨_, congrArg Host.Outcome.next (descriptorStart_ready s r d rest hd hready), rfl, State.ring_setRing _ _ _,
        fun i hi => State.ring_setRing_ne _ _ _ _ hi⟩
    case none => exact congrArg Host.Outcome.next (by simp only [descriptorStart, hnil])
  case status =>
    refine ⟨fun hopc hver => ?_, s.descStatus_version d, s.descStatus_reserved d, s.descStatus_cases d⟩
    rw [s.descStatus_none d hopc, if_pos hver]
  case nop =>
    obtain ⟨hat, hopc, hbusy⟩ := hd
    refine congrArg Host.Outcome.next (?_ : hostNop r j s = _)
    simp only [hostNop, State.hostOp, hat, hopc, hbusy, Bool.not_false, and_self, if_true]
  case posting =>
    intro posted
    refine ⟨fun q rec_ rest hw => ⟨fun hwait => ?_, fun hroom hfirst => ?_⟩,
      fun c e h => ⟨fun hwait => ?_, fun hopen hroom => ?_, s.nextEvent_first c e h⟩, fun h => ?_⟩
    · exact congrArg Host.Outcome.next (recordPost_waits s q rec_ rest hw hwait)
    · exact ⟨_, rfl, recordPost_spec s q rec_ rest hw hroom hfirst⟩
    · exact congrArg Host.Outcome.next (eventPost_waits s c e h hwait)
    · exact ⟨_, rfl, eventPost_spec s c e h hopen hroom⟩
    · exact congrArg Host.Outcome.next (eventPost_none s h)

end Sys2Proof.Machine
end

section
/-!
PROOF. The grid of domes and spire areas, and the state right after reset (R18, R25, R39, R73, R136, R170, R211, R247, R345).
-/

namespace Sys2Proof.Machine

/-! ### The grid -/

theorem siteX_lt (k : SiteId) : siteX k < 768 := Nat.mod_lt _ (by decide)

theorem siteY_lt (k : SiteId) : siteY k < 384 := by rw [siteY]; omega

/-- A site is the one at its X and Y (R19). -/
theorem mkSite_siteX_siteY (k : SiteId) : mkSite (siteX k) (siteY k) = k := by
  apply Fin.ext
  rw [mkSite, Fin.val_ofNat, siteX, siteY]
  omega

/-- A dome is a cell of the grid, 192 sites wide and 128 high (R18). -/
theorem siteDome_eq_iff (k : SiteId) (r c : Nat) (hc : c < 4) :
    siteDome k = r * 4 + c ↔ siteY k / 128 = r ∧ siteX k / 192 = c := by
  have hx := siteX_lt k
  rw [siteDome]
  omega

/-- Settles O21: a dome's number names its cell of the grid. -/
theorem domePlacement : Obligations.DomePlacement := by
  unfold Obligations.DomePlacement
  intro k
  have hx := siteX_lt k
  have hy := siteY_lt k
  refine ⟨⟨hx, hy, mkSite_siteX_siteY k, by rw [siteDome]; omega⟩, fun p hp => ?_⟩
  have hcell : p.1 / 4 < 3 ∧ p.2.1 = p.1 % 4 * 192 ∧ p.2.2 = p.1 / 4 * 128 := by revert p; decide
  obtain ⟨hrow, hX, hY⟩ := hcell
  refine ⟨?_, hX, hY⟩
  have hdome := siteDome_eq_iff k (p.1 / 4) (p.1 % 4) (Nat.mod_lt _ (by decide))
  rw [Nat.div_add_mod' p.1 4] at hdome
  rw [hdome, hX, hY]
  omega

/-! ### Spire areas -/

/-- A spire area's number names the 32 by 32 block of its sites (R25). -/
theorem siteArea_eq_iff (j k : SiteId) :
    siteArea j = siteArea k ↔ siteX j / 32 = siteX k / 32 ∧ siteY j / 32 = siteY k / 32 := by
  have hj := siteX_lt j
  have hk := siteX_lt k
  simp only [siteArea, siteDome, siteRow, siteCol]
  omega

theorem siteArea_lt (k : SiteId) : siteArea k < 288 := by
  have hx := siteX_lt k
  have hy := siteY_lt k
  simp only [siteArea, siteDome, siteRow, siteCol]
  omega

/-- A spire area lies within one dome (R25). -/
theorem siteDome_of_siteArea (k : SiteId) : siteDome k = siteArea k / 24 := by
  simp only [siteArea, siteRow, siteCol]
  omega

/-- Settles O22: an area's number names its block of sites, and the spares are the columns 47 modulo 48 of a dome. -/
theorem spireAreas : Obligations.SpireAreas := by
  unfold Obligations.SpireAreas
  refine ⟨fun k => ⟨rfl, siteArea_lt k, fun j => siteArea_eq_iff j k, fun j h => ?_, fun s h => h⟩, fun p hp k hcol => ?_⟩
  · rw [siteDome_of_siteArea, siteDome_of_siteArea, h]
  · have hspare : isSpare k = true ↔ siteX k % 192 % 48 = 47 := beq_iff_eq
    rw [hspare]
    simp only [List.mem_cons, List.not_mem_nil, or_false] at hp
    rcases hp with rfl | rfl | rfl | rfl | rfl | rfl <;>
      simp only [Option.some.injEq, reduceCtorEq, iff_false] <;> omega

/-! ### The state right after reset -/

theorem State.core_reset (k : SiteId) : State.reset.core k = Core.reset := rfl

/-- Every command ring is disabled at reset (R345). -/
theorem barReset_cmdCfg (r : Nat) (h : r < 256) : barReset (0x21008 + 0x20 * r) = 0 := by
  have hstk : ¬ (stkBase ≤ 0x21008 + 0x20 * r ∧ 0x21008 + 0x20 * r < lntBase) := by simp only [stkBase]; omega
  have hlnt : ¬ (lntBase ≤ 0x21008 + 0x20 * r ∧ 0x21008 + 0x20 * r < sysBase) := by simp only [lntBase]; omega
  unfold barReset
  rw [if_neg hstk, if_neg hlnt, if_neg (by omega)]
  split
  case h_22 => rfl
  all_goals omega

/-- Every completion ring is disabled at reset, its vector its own number (R345). -/
theorem barReset_cplCfg (q : Nat) (h : q < 64) : barReset (0x24008 + 0x20 * q) = BitVec.ofNat 32 q := by
  have hstk : ¬ (stkBase ≤ 0x24008 + 0x20 * q ∧ 0x24008 + 0x20 * q < lntBase) := by simp only [stkBase]; omega
  have hlnt : ¬ (lntBase ≤ 0x24008 + 0x20 * q ∧ 0x24008 + 0x20 * q < sysBase) := by simp only [lntBase]; omega
  unfold barReset
  rw [if_neg hstk, if_neg hlnt, if_pos (by omega)]
  congr 1
  omega

/-- Settles O3: nothing is listed in any table of the reset state, so every part reads its own reset value. -/
theorem resetValues : Obligations.ResetValues := by
  unfold Obligations.ResetValues
  refine ⟨rfl, rfl, by decide, fun k => ⟨?_, fun i => rfl, rfl, rfl, rfl, rfl, fun e => rfl, ?_, fun a => rfl,
    fun r hr => rfl, rfl⟩, fun id => ⟨rfl, rfl⟩, fun r hr => ⟨?_, rfl, rfl⟩, fun q hq => ⟨?_, rfl, rfl⟩⟩
  case refine_1 =>
    rw [State.core_reset]
    decide
  case refine_2 =>
    rw [State.core_reset]
    decide
  case refine_3 =>
    change wbit (barReset (0x21008 + 0x20 * r)) 31 = false
    rw [barReset_cmdCfg r hr]; rfl
  case refine_4 =>
    change wbit (barReset (0x24008 + 0x20 * q)) 31 = false
    rw [barReset_cplCfg q hq, wbit, BitVec.getLsbD_ofNat, Nat.testBit_lt_two_pow (by omega), Bool.and_false]

end Sys2Proof.Machine
end

section
/-!
PROOF. Requests a core takes up: memories without error, what raising an event and changing a core leave alone, the fence,
the reset and the end-to-end check (R37, R142, R150, R173, R176, R185, R199, R203).
-/

namespace Sys2Proof.Machine

/-! ### Memories without error -/

theorem memReads_zero (m : List Host.Cell) (a : Nat) : memReads m a 0 = [] := rfl

theorem memReads_append (m : List Host.Cell) (a n j : Nat) :
    memReads m a (n + j) = memReads m a n ++ memReads m (a + n) j := by
  induction n generalizing a with
  | zero => rw [Nat.zero_add, Nat.add_zero]; rfl
  | succ n ih => rw [Nat.succ_add, memReads, ih, memReads, List.cons_append, Nat.add_assoc, Nat.add_comm 1 n]

theorem length_memReads (m : List Host.Cell) (a n : Nat) : (memReads m a n).length = n := by
  induction n generalizing a with
  | zero => rfl
  | succ n ih => rw [memReads, List.length_cons, ih]

theorem drop_memReads (m : List Host.Cell) (a lo n : Nat) :
    (memReads m a (lo + n)).drop lo = memReads m (a + lo) n := by
  rw [memReads_append]
  exact List.drop_left' (length_memReads m a lo)

theorem take_memReads (m : List Host.Cell) (a n j : Nat) : (memReads m a (n + j)).take n = memReads m a n := by
  rw [memReads_append]
  exact List.take_left' (length_memReads m a n)

theorem slice_memReads (m : List Host.Cell) (a lo n N : Nat) (h : lo + n ≤ N) :
    slice (memReads m a N) lo n = memReads m (a + lo) n := by
  obtain ⟨j, rfl⟩ := Nat.exists_eq_add_of_le h
  rw [slice, Nat.add_assoc, drop_memReads, take_memReads]

theorem getElem?_memReads (m : List Host.Cell) (a n i : Nat) (h : i < n) :
    (memReads m a n)[i]? = some (memRead m (a + i)) := by
  induction n generalizing a i with
  | zero => exact absurd h (Nat.not_lt_zero i)
  | succ n ih =>
    cases i with
    | zero => rfl
    | succ i =>
      rw [memReads, List.getElem?_cons_succ, ih _ _ (Nat.lt_of_succ_lt_succ h), Nat.add_assoc, Nat.add_comm 1 i]

/-- A byte string is the bytes of the number it spells. -/
theorem leBytes_leNat (b : List Byte) : leBytes b.length (leNat b) = b := by
  induction b with
  | nil => rfl
  | cons x b ih =>
    have hx := x.isLt
    rw [List.length_cons, leNat, leBytes, Nat.add_mul_div_left _ _ (by decide), Nat.div_eq_of_lt hx, Nat.zero_add, ih]
    congr 1
    apply BitVec.eq_of_toNat_eq
    rw [BitVec.toNat_ofNat]
    omega

/-- The bytes of a memory after a run of codewords is put. -/
theorem memRead_putRun (m : EccMem) (i n x : Nat) (b : List Byte) (hb : b.length = 16 * n) :
    memRead (m.putRun i n b).data x =
      if 16 * i ≤ x ∧ x < 16 * (i + n) then b.getD (x - 16 * i) 0 else memRead m.data x := by
  induction n generalizing m i b with
  | zero => rw [EccMem.putRun, if_neg (by omega)]
  | succ n ih =>
    have hput : ∀ y, memRead (m.put i (leNat (b.take 16))).data y =
        if 16 * i ≤ y ∧ y < 16 * i + 16 then b.getD (y - 16 * i) 0 else memRead m.data y := by
      intro y
      have h16 : (b.take 16).length = 16 := by rw [List.length_take]; omega
      have hbytes := leBytes_leNat (b.take 16)
      rw [h16] at hbytes
      rw [EccMem.put, EccMem.putRaw, hbytes, memRead_memWrites]
      split
      · next h =>
        rw [h16] at h
        rw [if_pos (by omega), List.getElem_take, List.getD_eq_getElem?_getD, List.getElem?_eq_getElem (by omega),
          Option.getD_some]
      · next h => rw [h16] at h; rw [if_neg (by omega)]
    rw [EccMem.putRun, ih _ _ _ (by rw [List.length_drop]; omega), hput]
    by_cases hhi : 16 * (i + 1) ≤ x ∧ x < 16 * (i + 1 + n)
    · rw [if_pos hhi, if_pos (by omega), List.getD_eq_getElem?_getD, List.getElem?_drop, List.getD_eq_getElem?_getD]
      congr 2
      omega
    · rw [if_neg hhi]
      by_cases hlo : 16 * i ≤ x ∧ x < 16 * i + 16
      · rw [if_pos hlo, if_pos (by omega)]
      · rw [if_neg hlo, if_neg (by omega)]

section clean
variable {m : EccMem} (hm : ∀ i, m.decode i = .clean)
include hm

theorem EccMem.decodeRun_clean (i n : Nat) :
    m.decodeRun i n = { bytes := memReads m.data (16 * i) (16 * n), ce := 0, ue := 0, cw := 0 } := by
  induction n generalizing i with
  | zero => rfl
  | succ n ih =>
    simp only [EccMem.decodeRun, hm, ih]
    rw [show 16 * (n + 1) = 16 + 16 * n by omega, memReads_append, show 16 * (i + 1) = 16 * i + 16 by omega]

/-- A read of a memory without error gives its bytes and finds nothing (R159). -/
theorem EccMem.read_clean (a n : Nat) : m.read a n = { bytes := memReads m.data a n, ce := 0, ue := 0, cw := 0 } := by
  rw [EccMem.read, EccMem.decodeRun_clean hm]
  have hspan : a % 16 + n ≤ 16 * cwSpan a n ∨ n = 0 := by rw [cwSpan]; split <;> omega
  rcases hspan with hspan | rfl
  · simp only [slice_memReads _ _ _ _ _ hspan]
    rw [Nat.div_add_mod]
  · rfl

/-- A write to a memory without error puts the bytes among those its codewords hold (R142). -/
theorem EccMem.write_clean (a : Nat) (b : List Byte) (hb : b ≠ []) :
    m.write a b =
      { mem := m.putRun (a / 16) (cwSpan a b.length) (memReads m.data (16 * (a / 16)) (a % 16) ++ b ++
          memReads m.data (a + b.length) ((16 - (a + b.length) % 16) % 16))
        ce := 0, ue := 0, cw := 0 } := by
  have hlen : 0 < b.length := List.length_pos_iff.mpr hb
  have hlast : (a + b.length) % 16 ≠ 0 → a / 16 + cwSpan a b.length - 1 = (a + b.length) / 16 := by
    rw [cwSpan]; split <;> omega
  have hhead : (memReads m.data (16 * (a / 16)) 16).take (a % 16) = memReads m.data (16 * (a / 16)) (a % 16) := by
    have h := take_memReads m.data (16 * (a / 16)) (a % 16) (16 - a % 16)
    rwa [Nat.add_sub_of_le (by omega)] at h
  have htail : (a + b.length) % 16 ≠ 0 → (memReads m.data (16 * ((a + b.length) / 16)) 16).drop ((a + b.length) % 16) =
      memReads m.data (a + b.length) ((16 - (a + b.length) % 16) % 16) := by
    intro h1
    have h := drop_memReads m.data (16 * ((a + b.length) / 16)) ((a + b.length) % 16) (16 - (a + b.length) % 16)
    rwa [Nat.add_sub_of_le (by omega), Nat.div_add_mod, ← Nat.mod_eq_of_lt (by omega : 16 - (a + b.length) % 16 < 16)] at h
  unfold EccMem.write
  rw [if_neg hb]
  simp only [EccMem.read_clean hm]
  by_cases h0 : a % 16 = 0 <;> by_cases h1 : (a + b.length) % 16 = 0
  · simp [h0, h1, memReads_zero]
  · simp [h0, h1, hlast h1, htail h1, memReads_zero]
  · simp [h0, h1, hhead, memReads_zero]
  · by_cases h2 : (a + b.length) / 16 = a / 16
    · simp [h0, h1, hlast h1, h2, ← htail h1, hhead]
    · simp [h0, h1, hlast h1, h2, hhead, htail h1]

/-- A write to a memory without error stores its bytes and leaves the others (R142). -/
theorem EccMem.wrote_write (a : Nat) (b : List Byte) : wrote m (m.write a b).mem a b := by
  intro x
  by_cases hb : b = []
  · subst hb
    rw [if_neg (by simp only [List.length_nil]; omega)]
    rfl
  · have hlen : 0 < b.length := List.length_pos_iff.mpr hb
    have hspan : 16 * cwSpan a b.length = a % 16 + b.length + (16 - (a + b.length) % 16) % 16 := by
      rw [cwSpan]; split <;> omega
    rw [EccMem.write_clean hm a b hb, memRead_putRun _ _ _ _ _ (by
      simp only [List.length_append, length_memReads]; omega)]
    have hbefore := length_memReads m.data (16 * (a / 16)) (a % 16)
    by_cases hin : 16 * (a / 16) ≤ x ∧ x < 16 * (a / 16 + cwSpan a b.length)
    · rw [if_pos hin, List.append_assoc]
      simp only [List.getD_eq_getElem?_getD]
      rcases Nat.lt_or_ge x a with hlo | hlo
      · rw [if_neg (by omega), List.getElem?_append_left (by omega), getElem?_memReads _ _ _ _ (by omega),
          Option.getD_some]
        congr 1
        omega
      · rw [List.getElem?_append_right (by omega), hbefore]
        rcases Nat.lt_or_ge x (a + b.length) with hhi | hhi
        · rw [if_pos ⟨hlo, hhi⟩, List.getElem?_append_left (by omega)]
          congr 2
          omega
        · rw [if_neg (by omega), List.getElem?_append_right (by omega), getElem?_memReads _ _ _ _ (by omega),
            Option.getD_some]
          congr 1
          omega
    · rw [if_neg hin, if_neg (by omega)]
end clean

/-! ### What raising an event and changing a core leave alone -/

/-- Two states that differ in event records and their posting alone (R337). -/
def State.onlyPosts (s t : State) : Prop :=
  t = { s with host := { s.host with events := t.host.events, evSeq := t.host.evSeq, cpl := t.host.cpl, mem := t.host.mem
                                     sent := t.host.sent, pba := t.host.pba } }

theorem State.onlyPosts_trans {s t u : State} (h : s.onlyPosts t) (g : t.onlyPosts u) : s.onlyPosts u := by
  unfold State.onlyPosts at *
  rw [g, h]

theorem State.onlyPosts_eventPost (s : State) : s.onlyPosts (eventPost s) := by
  cases h : s.nextEvent with
  | none => rw [eventPost_none s h]; rfl
  | some ce =>
    obtain ⟨c, e⟩ := ce
    cases hw : s.eventsOpen && s.cplRoom (wfld (s.bar 0x20004) 0 6) with
    | false =>
      rw [eventPost_waits s c e h (Bool.and_eq_false_iff.mp hw)]; rfl
    | true =>
      obtain ⟨hopen, hroom⟩ := Bool.and_eq_true_iff.mp hw
      rw [eventPost_posts s c e h hopen hroom]
      obtain ⟨cpl, mem, pba, sent, hframe⟩ := (s.takeEvent c).post_frame (wfld (s.bar 0x20004) 0 6)
        (eventRecord c e (s.host.evSeq + 1)) (2016 + c)
      rw [hframe]; rfl

theorem State.onlyPosts_postThrough (cls n : Nat) (s : State) : s.onlyPosts (s.postThrough cls n) := by
  induction n generalizing s with
  | zero => rfl
  | succ n ih =>
    rw [State.postThrough]
    split
    · exact State.onlyPosts_trans s.onlyPosts_eventPost (ih _)
    · rfl

/-- An event raised changes what is posted and, for a non-maskable class, its SEEN bit (R337, R343). -/
theorem State.onlyPosts_raise (s : State) (cls : Nat) (d : BitVec 128) : (s.markSeen cls).onlyPosts (s.raise cls d) := by
  unfold State.raise
  dsimp only
  split
  · rfl
  · have h := State.onlyPosts_postThrough cls 32 (s.markSeen cls)
    unfold State.onlyPosts at *
    rw [h]

theorem State.markSeen_maskable (s : State) (cls : Nat) (h : 4 < cls) : s.markSeen cls = s := if_neg (by omega)

theorem State.coreNoted_trans {k : SiteId} {s t u : State} (h : s.coreNoted k t) (g : t.coreNoted k u) :
    s.coreNoted k u := by
  obtain ⟨h1, h2⟩ := h
  obtain ⟨g1, g2⟩ := g
  exact ⟨by rw [g1, h1], fun j hj => (g2 j hj).trans (h2 j hj)⟩

theorem State.coreNoted_of_onlyPosts {s t : State} (k : SiteId) (h : s.onlyPosts t) : s.coreNoted k t := by
  unfold State.onlyPosts at h
  rw [h]
  exact ⟨rfl, fun _ _ => rfl⟩

theorem State.coreNoted_setCore (s : State) (k : SiteId) (c : Core) (ce : Nat) :
    s.coreNoted k ((s.setCore k c).noteRisk ce 0 0) := ⟨rfl, fun j hj => State.core_setCore_ne s k j c hj⟩

/-- A core put is the one read back, and only what its counters leave behind changes with it (R12, R430). -/
theorem State.putCore_noted (s : State) (k : SiteId) (c : Core) :
    s.coreNoted k (s.putCore k c) ∧ (s.putCore k c).core k = c := by
  unfold State.putCore
  dsimp only
  have hset := s.coreNoted_setCore k c ((c.reg 0x100480).toNat - ((s.core k).reg 0x100480).toNat)
  have hcore := State.core_setCore s k c
  split
  · exact ⟨hset, hcore⟩
  · split
    · exact ⟨hset, hcore⟩
    · next e _ =>
      refine foldl_inv (fun t : State => s.coreNoted k t ∧ t.core k = c) _ _ _ ⟨hset, hcore⟩ fun t ob ht => ?_
      obtain ⟨hnoted, htcore⟩ := ht
      have hraise := t.onlyPosts_raise 0x16 (evData e ob.1 ob.2)
      rw [State.markSeen_maskable _ _ (by decide)] at hraise
      refine ⟨State.coreNoted_trans hnoted (State.coreNoted_of_onlyPosts k hraise), ?_⟩
      rw [State.core, (State.raise_cores t _ _).1]
      exact htcore

theorem State.coreNoted_modCore (s : State) (k : SiteId) (f : Core → Core) : s.coreNoted k (s.modCore k f) :=
  (s.putCore_noted k _).1

@[simp] theorem State.core_modCore (s : State) (k : SiteId) (f : Core → Core) : (s.modCore k f).core k = f (s.core k) :=
  (s.putCore_noted k _).2

theorem State.modCore_progress (s : State) (k : SiteId) :
    s.modCore k Core.progress = s.setCore k (s.core k).progress := s.putCore_regs k _ rfl

/-! ### SRAM accesses that find no error -/

theorem Core.sramRead_clean (c : Core) (h : c.clean) (src a n : Nat) :
    c.sramRead src a n = (c, some (memReads c.sram.data a n)) := by
  rw [Core.sramRead, EccMem.read_clean h]; rfl

theorem Core.dropScrub_frame (c : Core) (a n : Nat) : c.dropScrub a n = { c with banks := (c.dropScrub a n).banks } := by
  unfold Core.dropScrub
  dsimp only
  split
  · rfl
  · split
    · split <;> rfl
    · rfl

theorem Core.sramWrite_clean (c : Core) (h : c.clean) (src a : Nat) (b : List Byte) :
    c.sramWrite src a b =
      ({ c with banks := (c.dropScrub a b.length).banks, sram := (c.sram.write a b).mem }, true) := by
  have hw : (c.sram.write a b).ce = 0 ∧ (c.sram.write a b).ue = 0 := by
    by_cases hb : b = []
    · subst hb; exact ⟨rfl, rfl⟩
    · rw [EccMem.write_clean h a b hb]; exact ⟨rfl, rfl⟩
  obtain ⟨hce, hue⟩ := hw
  simp only [Core.sramWrite, hce, hue, if_true]
  rw [show c.noteEcc src 0 0 0 = c from rfl, Core.dropScrub_frame]

/-! ### A request a core takes up or refuses -/

/-- A core's EPID is none of those that answer BAD_OFFSET to all requests (R22, R34). -/
theorem State.namesVoid_of_namesCore (s : State) (d : DWord) (h : s.namesCore d = true) : s.namesVoid d = false := by
  have hepid : faEpid d < 288768 := of_decide_eq_true (Bool.and_eq_true_iff.mp h).2
  have hcupola : (faEpid d == 0x7FF00) = false := beq_eq_false_iff_ne.mpr (by omega)
  have hmsd : decide (0x70000 ≤ faEpid d) = false := decide_eq_false (by omega)
  simp only [State.namesVoid, hcupola, hmsd, Bool.false_and, Bool.or_self, Bool.and_false]

section receive
variable {s : State} {k : SiteId} {p : Packet} {type : Byte} (go : State → State) (htype : p.type = type)
  (hruns : s.siteRuns k = true)
include htype hruns

/-- An aborted request is dropped and counted (R173). -/
theorem State.receive_aborted (h : p.aborted = true) :
    s.receive k p type go = (s.land k (.inl p)).modCore k fun c => c.bump 0x100538 1 := by
  simp only [State.receive, htype, hruns, h, ne_eq, not_true_eq_false, false_and, Bool.not_true, Bool.false_eq_true,
    and_false, or_self, Bool.true_or, if_false, if_true]
  rfl

variable (hwhole : p.aborted = false) (hcore : s.namesCore p.dest = true)
include hwhole hcore

/-- A whole request for a core meets the fence, the reset and the end-to-end check in turn (R185, R199, R203). -/
theorem State.receive_whole :
    s.receive k p type go =
      if s.fenced k = true then (s.land k (.inl p)).routerRefuse k p rFENCED
      else if s.inReset k = true then (s.land k (.inl p)).routerRefuse k p rRESET
      else (s.land k (.inl p)).endCheck k p go := by
  have hvoid : (s.land k (.inl p)).namesVoid p.dest = false := s.namesVoid_of_namesCore p.dest hcore
  have hcore' : (s.land k (.inl p)).namesCore p.dest = true := hcore
  simp only [State.receive, htype, hruns, hwhole, hvoid, hcore', ne_eq, not_true_eq_false, false_and, Bool.not_true,
    Bool.false_eq_true, and_false, or_self, if_false, bne_self_eq_false]
  rfl

end receive

/-- A request taken up is acted on as its core makes progress (R199, R210). -/
theorem State.Takes.receive {s : State} {k : SiteId} {p : Packet} {type : Byte} (h : s.Takes k p type)
    (go : State → State) :
    s.receive k p type go = go ((s.land k (.inl p)).modCore k Core.progress) := by
  have hhold : ((s.land k (.inl p)).core k).net.holdFor p = none := h.hold
  rw [State.receive_whole go h.type h.runs h.whole h.core, h.open_, h.reset]
  simp only [State.endCheck, hhold, h.hcrc, h.crc, Bool.not_true, Bool.false_eq_true, if_false, if_true]

/-- The state in which a taken request is acted on differs in its core's progress alone. -/
theorem State.sramBusy_progress (s : State) (k : SiteId) (p : Packet) (off n : Nat) :
    ((s.land k (.inl p)).modCore k Core.progress).sramBusy k off n = s.sramBusy k off n := by
  have hcore : ((s.land k (.inl p)).modCore k Core.progress).core k = (s.core k).progress := State.core_modCore _ _ _
  have hclosed : ∀ b, ((s.land k (.inl p)).modCore k Core.progress).remoteClosed k b = s.remoteClosed k b := by
    intro b
    rw [State.remoteClosed, hcore, State.modCore_progress]
    rfl
  have hshut : ∀ b, ((s.land k (.inl p)).modCore k Core.progress).bankShut k b = s.bankShut k b := by
    intro b
    rw [State.bankShut, hcore, State.modCore_progress]
    rfl
  simp only [State.sramBusy, hclosed, hshut]

/-- A core that differs in SRAM, banks and progress alone is one that has stored. -/
theorem State.stored_setCore (u : State) (k : SiteId) (sram : EccMem) (banks : Tbl BankSt) :
    let c := { u.core k with sram := sram, banks := banks, net := { (u.core k).net with stall := 0 } };
    u.stored k ((u.setCore k (u.core k).progress).setCore k c) := by
  intro c
  refine ⟨State.onlyCore_setCore _ (State.onlyCore_setCore _ (State.onlyCore_refl k u)), ?_⟩
  rw [State.core_setCore]

/-! ### Reads of a core's offset space (R37, R150, R159) -/

theorem State.coreFetch_stored (s : State) (k : SiteId) (off n : Nat) (hin : off + n ≤ 0x40000) (hclean : (s.core k).clean)
    (hfree : s.sramBusy k off n = false) :
    s.coreFetch k off n = (s.setCore k (s.core k), rOK, memReads (s.core k).sram.data off n) := by
  simp only [State.coreFetch, hin, hfree, Core.sramRead_clean _ hclean, if_true, Bool.false_eq_true, if_false]
  rw [State.putCore_regs _ _ _ rfl]

theorem State.coreFetch_busy (s : State) (k : SiteId) (off n : Nat) (hin : off + n ≤ 0x40000)
    (hbusy : s.sramBusy k off n = true) :
    s.coreFetch k off n = (s.modCore k fun c => c.bump 0x10048C 1, rBUSY, []) := by
  simp only [State.coreFetch, hin, hbusy, if_true]

theorem State.coreFetch_beyond (s : State) (k : SiteId) (off n : Nat) (hout : 0x40000 < off + n)
    (hwords : wordsDecode off n = false) : s.coreFetch k off n = (s, rBADOFF, []) := by
  simp only [State.coreFetch, Nat.not_le.mpr hout, hwords, Bool.false_eq_true, if_false]

/-! ### Writes of a core's offset space (R37, R142, R150) -/

theorem State.coreStore_stored (s : State) (k : SiteId) (off : Nat) (b : List Byte) (hin : off + b.length ≤ 0x40000)
    (hclean : (s.core k).clean) (hfree : s.sramBusy k off b.length = false) :
    s.coreStore k off b =
      (s.setCore k { s.core k with banks := ((s.core k).dropScrub off b.length).banks
                                   sram := ((s.core k).sram.write off b).mem }, rOK) := by
  simp only [State.coreStore, hin, hfree, Core.sramWrite_clean _ hclean, if_true, Bool.false_eq_true, if_false]
  exact congrArg (·, rOK) (State.putCore_regs _ _ _ rfl)

theorem State.coreStore_busy (s : State) (k : SiteId) (off : Nat) (b : List Byte) (hin : off + b.length ≤ 0x40000)
    (hbusy : s.sramBusy k off b.length = true) :
    s.coreStore k off b = (s.modCore k fun c => c.bump 0x10048C 1, rBUSY) := by
  simp only [State.coreStore, hin, hbusy, if_true]

theorem State.coreStore_beyond (s : State) (k : SiteId) (off : Nat) (b : List Byte) (hout : 0x40000 < off + b.length)
    (hwords : wordsDecode off b.length = false) : s.coreStore k off b = (s, rBADOFF) := by
  simp only [State.coreStore, Nat.not_le.mpr hout, hwords, Bool.false_eq_true, if_false]

/-- The first acknowledgement owed to a source and plane is gathered by itself (R198). -/
theorem State.acks_ackPacket_fresh (s : State) (k : SiteId) (p : Packet)
    (h : (s.core k).net.acks.find? (fun a => a.engine == p.srcEngine && a.epid == p.srcEpid && a.plane == p.plane) = none) :
    ((s.ackPacket k p).core k).net.acks = (s.core k).net.acks ++
      [{ engine := p.srcEngine, epid := p.srcEpid, plane := p.plane, base := p.seq, mask := 1 }] := by
  have hone : ackCount 1 ≠ 16 := by decide
  simp only [State.ackPacket, h, hone, if_false, State.core_setCore]

/-! ### The end-to-end check (R199) -/

/-- The hold entry a bad packet makes (R199). -/
def holdEntOf (p : Packet) : HoldEnt :=
  { engine := p.srcEngine, epid := p.srcEpid, plane := p.plane, vc := isResponse p.type, seq := p.seq }

section endCheck
variable (s : State) (k : SiteId) (p : Packet) (go : State → State)

theorem State.endCheck_header (h : hcrcGood p = false) :
    s.endCheck k p go = (s.modCore k fun c => c.bump 0x100520 1).regionFault k 6 0 := by
  simp only [State.endCheck, h, Bool.not_false, if_true]; rfl

theorem State.endCheck_holds (hh : hcrcGood p = true) (hc : crcGood p = false) (hnone : (s.core k).net.holdFor p = none)
    (hroom : (s.core k).net.holds.length < 4) :
    s.endCheck k p go =
      ((s.modCore k fun c => c.bump 0x100520 1).modCore k fun c =>
        { c with net := { c.net with holds := c.net.holds ++ [holdEntOf p] } }).nakFrom k p rCRC := by
  simp only [State.endCheck, hh, hc, hnone, hroom, Bool.not_true, Bool.false_eq_true, if_false, if_true]; rfl

theorem State.endCheck_held (hh : hcrcGood p = true) (hc : crcGood p = true) (h : HoldEnt)
    (hsome : (s.core k).net.holdFor p = some h) (hseq : (p.resend && p.seq == h.seq) = false) :
    s.endCheck k p go = s.nakFrom k p rHELD := by
  simp only [State.endCheck, hh, hc, hsome, hseq, Bool.not_true, Bool.false_eq_true, if_false, if_true]

end endCheck

/-- A counter of a core leaves its memory and its interface as they are (R12). -/
theorem Core.bump_frame (c : Core) (off n : Nat) : c.bump off n = { c with regs := (c.bump off n).regs } := by
  unfold Core.bump
  dsimp only
  split
  · rfl
  · split <;> rfl

/-- The commands of the requests a core takes up all receive them in one way (R176). -/
theorem exec_receives (k : SiteId) (p : Packet) (s : State) :
    ∀ i ∈ [(tRD_REQ, Instr.rdReq k p), (tWR, .wr k p), (tLAND, .land k p), (tCONTRIB, .combinerContribution k p)],
      ∃ go, exec i.2 s = .next (s.receive k p i.1 go) := by
  intro i hi
  simp only [List.mem_cons, List.not_mem_nil, or_false] at hi
  rcases hi with rfl | rfl | rfl | rfl <;> exact ⟨_, rfl⟩

/-! ### The statement -/

/-- Settles O38: a request passes the fence, the reset and the end-to-end check in turn, and one taken up reads or writes
a memory without error as its bytes say. -/
theorem coreRequests : Obligations.CoreRequests := by
  unfold Obligations.CoreRequests
  intro s k p c off u kinds
  have hcore : (u.modCore k Core.progress).core k = c.progress := State.core_modCore u k Core.progress
  have hfree : ∀ n, (u.modCore k Core.progress).sramBusy k off n = s.sramBusy k off n := s.sramBusy_progress k p off
  refine ⟨fun h hin hclean => ⟨fun hb => ?read, fun hb => ?readBusy⟩,
    fun h hin hclean => ⟨fun hb => ?write, fun hb => ?writeBusy⟩, fun n h hn hout hw => ?readBeyond,
    fun n h hn hout hw => ?writeBeyond, fun i hi hruns => ?refused⟩
  case read =>
    refine ⟨(u.modCore k Core.progress).setCore k c.progress, ?_, ?_, ?_⟩
    · rw [State.modCore_progress]
      exact u.stored_setCore k c.sram c.banks
    · rw [State.core_setCore]; rfl
    · refine congrArg Host.Outcome.next ((h.receive _).trans ?_)
      rw [State.coreFetch_stored _ _ _ _ hin (hcore ▸ hclean) ((hfree _).trans hb), hcore]
      rfl
  case readBusy =>
    refine congrArg Host.Outcome.next ((h.receive _).trans ?_)
    rw [State.coreFetch_busy _ _ _ _ hin ((hfree _).trans hb)]
  case write =>
    refine ⟨(u.modCore k Core.progress).setCore k
      { c.progress with banks := (c.progress.dropScrub off p.payload.length).banks, sram := (c.sram.write off p.payload).mem },
      ?_, ?_, ?_, fun hnone => ?_⟩
    · rw [State.modCore_progress]
      exact u.stored_setCore k _ _
    · rw [State.core_setCore]
      exact EccMem.wrote_write hclean off p.payload
    · refine congrArg Host.Outcome.next ((h.receive _).trans ?_)
      rw [State.coreStore_stored _ _ _ _ hin (hcore ▸ hclean) ((hfree _).trans hb), hcore]
      rfl
    · rw [State.acks_ackPacket_fresh _ _ _ (by rw [State.core_setCore]; exact hnone), State.core_setCore]
      rfl
  case writeBusy =>
    refine congrArg Host.Outcome.next ((h.receive _).trans ?_)
    rw [State.coreStore_busy _ _ _ _ hin ((hfree _).trans hb)]
    rfl
  case readBeyond =>
    subst hn
    refine congrArg Host.Outcome.next ((h.receive _).trans ?_)
    rw [State.coreFetch_beyond _ _ _ _ hout hw]
  case writeBeyond =>
    subst hn
    refine congrArg Host.Outcome.next ((h.receive _).trans ?_)
    rw [State.coreStore_beyond _ _ _ _ hout hw]
    rfl
  case refused =>
    obtain ⟨go, hexec⟩ := exec_receives k p s i hi
    rw [hexec]
    refine ⟨fun ht ha => congrArg Host.Outcome.next (State.receive_aborted go ht hruns ha), fun ht ha hc => ?_⟩
    rw [State.receive_whole go ht hruns ha hc]
    refine ⟨fun hf => congrArg Host.Outcome.next (if_pos hf), fun hf hr => ?_, fun hf hr => ?_⟩
    · rw [if_neg (Bool.eq_false_iff.mp hf), if_pos hr]
    · rw [if_neg (Bool.eq_false_iff.mp hf), if_neg (Bool.eq_false_iff.mp hr)]
      refine ⟨fun hh => congrArg Host.Outcome.next (u.endCheck_header k p go hh), fun hh hcrc hnone hroom => ?_,
        fun hh hcrc e he hseq => congrArg Host.Outcome.next (u.endCheck_held k p go hh hcrc e he hseq)⟩
      refine ⟨_, congrArg Host.Outcome.next (u.endCheck_holds k p go hh hcrc hnone hroom),
        State.coreNoted_trans (u.coreNoted_modCore k _) (State.coreNoted_modCore _ k _), ?_, ?_⟩
      · rw [State.core_modCore, State.core_modCore, Core.bump_frame]; rfl
      · rw [State.core_modCore, State.core_modCore, Core.bump_frame]; rfl

end Sys2Proof.Machine
end

section
/-!
PROOF. A state against the statement on power and heat: an area trips and a region in it goes on (R169, R243, R395).
-/

namespace Sys2Proof.Machine

/-! ### A march test of a bank no core has

The statement takes every state, also one no run reaches. Every march test the model begins is of one of banks 0 to 3
(R168), but the field that holds the bank is a number. For bank 125 the place of BANK_CTL is that of RGN_ID, so that
aborting the test takes the core out of its region before the loss of its area can fault it (R169, R243, R395). The
clause on the regions of a lost area lacks the hypothesis that the bank of a march test is below 4. -/

/-- A core of region 512 that runs a march test of bank 125. -/
def strayMarchCore : Core :=
  { Core.reset with regs := [(0x100604, 512)], march := some { bank := 125, preserving := true, req := none } }

/-- Area 0 is powered, and the core at site 0, EPID 0, is the one core of region 512, which is RUNNING. -/
def strayMarch : State :=
  { State.reset with
    cores := [(0, strayMarchCore)]
    pwr := { State.reset.pwr with area := [(0, { Area.reset with on := true })] }
    fab := { State.reset.fab with coreSec := [(0, 0x81F80000)] }
    rgns := { State.reset.rgns with tbl := [(512, { Region.reset with conf := true, st := 2, ranges := [(0, 0)] })] } }

/-- Ending the stray test writes RGN_ID: the core is of region 512 before and of none after. -/
theorem rgnId_strayMarchCore : strayMarchCore.rgnId = 512 ∧ strayMarchCore.marchAbort.rgnId = 0 := by decide

theorem regionCores_strayMarch : strayMarch.regionCores 512 = [(0, 0)] := by decide

/-- The loss of its only core's area leaves region 512 RUNNING. -/
theorem areaTrip_strayMarch : ((areaTrip 0 strayMarch).region 512).st = 2 := by decide

/-- Refutes O56: an area trips with a core of a RUNNING region in it, and the region does not fault, because the core's
march test is of a bank beyond 3 and ending it clears the core's RGN_ID. -/
theorem not_powerAndHeat : ¬ Obligations.PowerAndHeat := by
  unfold Obligations.PowerAndHeat
  intro h
  obtain ⟨-, -, -, -, harea, -⟩ := h strayMarch
  obtain ⟨-, htrip, -⟩ := harea 0
  obtain ⟨t, hexec, -, -, -, -, -, -, -, -, -, hlost, -⟩ := htrip (Or.inl rfl)
  have ht : areaTrip 0 strayMarch = t := Host.Outcome.next.inj hexec
  obtain ⟨-, -, -, hfaults⟩ := hlost rfl rfl
  have hrgn : (strayMarch.core 0).rgnId = 512 := rgnId_strayMarchCore.1
  have hcore : ∃ e ∈ strayMarch.regionCores (strayMarch.core 0).rgnId, e.2 = 0 :=
    ⟨(0, 0), by rw [hrgn, regionCores_strayMarch]; exact List.mem_singleton_self _, rfl⟩
  have hst := (hfaults 0 rfl (by rw [hrgn]; decide) hcore (by rw [hrgn]; decide)).1
  rw [hrgn, ← ht, areaTrip_strayMarch] at hst
  exact absurd hst (by decide)

end Sys2Proof.Machine
end

section
/-!
PROOF. The commit of a scale state block: its bytes, and the instruction that commits it (R53-R57, R133).
-/

namespace Sys2Proof.Machine

/-! ### Fields of byte strings and words -/

theorem length_slice (b : List Byte) (lo n : Nat) (h : lo + n ≤ b.length) : (slice b lo n).length = n := by
  rw [slice, List.length_take, List.length_drop]
  omega

theorem slice_slice (b : List Byte) (lo N i n : Nat) (h : i + n ≤ N) :
    slice (slice b lo N) i n = slice b (lo + i) n := by
  rw [slice, slice, slice, List.drop_take, List.drop_drop, List.take_take, Nat.min_eq_left (by omega)]

theorem slice_append_left (a b : List Byte) (lo n : Nat) (h : lo + n ≤ a.length) :
    slice (a ++ b) lo n = slice a lo n := by
  rw [slice, slice, List.drop_append_of_le_length (by omega),
    List.take_append_of_le_length (by rw [List.length_drop]; omega)]

theorem slice_append_right (a b : List Byte) (lo n : Nat) : slice (a ++ b) (a.length + lo) n = slice b lo n := by
  rw [slice, slice, List.drop_length_add_append]

theorem slice_self (b : List Byte) : slice b 0 b.length = b := List.take_length

/-- The bytes of a field are those of the number it spells. -/
theorem leBytes_leAt (b : List Byte) (lo n : Nat) (h : lo + n ≤ b.length) : leBytes n (leAt b lo n) = slice b lo n := by
  have hbytes := leBytes_leNat (slice b lo n)
  rwa [length_slice b lo n h] at hbytes

theorem leAt_lt (b : List Byte) (lo n : Nat) (h : lo + n ≤ b.length) : leAt b lo n < 256 ^ n := by
  rw [leAt, ← leBytes_leAt b lo n h, leNat_leBytes]
  exact Nat.mod_lt _ (Nat.pow_pos (by decide))

/-- A field inside a field of a byte string. -/
theorem leAt_field (b : List Byte) (lo N i n : Nat) (hb : lo + N ≤ b.length) (h : i + n ≤ N) :
    leAt b (lo + i) n = leAt b lo N / 256 ^ i % 256 ^ n := by
  rw [← leAt_leBytes N i n _ h, leBytes_leAt b lo N hb, leAt, leAt, slice_slice b lo N i n h]

/-- The bits of a word with a field set. -/
theorem getLsbD_setFld (v : Word) (lo w x i : Nat) (h : i < 32) :
    (setFld v lo w x).getLsbD i = if lo ≤ i ∧ i < lo + w then x.testBit (i - lo) else v.getLsbD i := by
  have hmask : (BitVec.ofNat 32 ((2 ^ w - 1) <<< lo)).getLsbD i = decide (lo ≤ i ∧ i < lo + w) := by
    rw [BitVec.getLsbD_ofNat, decide_eq_true h, Bool.true_and, Nat.testBit_shiftLeft, Nat.testBit_two_pow_sub_one,
      Bool.decide_and]
    by_cases hlo : lo ≤ i
    · simp only [hlo, decide_true, Bool.true_and, decide_eq_decide]; omega
    · simp only [hlo, decide_false, Bool.false_and]
  simp only [setFld, BitVec.getLsbD_or, BitVec.getLsbD_and, BitVec.getLsbD_not, hmask, h, decide_true, Bool.true_and,
    BitVec.getLsbD_ofNat, Nat.testBit_shiftLeft]
  by_cases hin : lo ≤ i ∧ i < lo + w
  · simp [hin]
  · simp [hin]

theorem testBit_wfld (v : Word) (lo w i : Nat) : (wfld v lo w).testBit i = (decide (i < w) && v.getLsbD (lo + i)) := by
  rw [wfld, fld, Nat.testBit_mod_two_pow, Nat.testBit_shiftRight, BitVec.testBit_toNat]

/-- A field set reads back. -/
theorem wfld_setFld (v : Word) (lo w x : Nat) (h : lo + w ≤ 32) : wfld (setFld v lo w x) lo w = x % 2 ^ w := by
  apply Nat.eq_of_testBit_eq
  intro i
  rw [testBit_wfld, Nat.testBit_mod_two_pow]
  by_cases hi : i < w
  · rw [getLsbD_setFld _ _ _ _ _ (by omega), if_pos (by omega), Nat.add_sub_cancel_left]
  · simp only [hi, decide_false, Bool.false_and]

/-- A field set leaves the fields beside it. -/
theorem wfld_setFld_ne (v : Word) (lo w x lo' w' : Nat) (h : lo' + w' ≤ 32) (hne : lo' + w' ≤ lo ∨ lo + w ≤ lo') :
    wfld (setFld v lo w x) lo' w' = wfld v lo' w' := by
  apply Nat.eq_of_testBit_eq
  intro i
  rw [testBit_wfld, testBit_wfld]
  by_cases hi : i < w'
  · rw [getLsbD_setFld _ _ _ _ _ (by omega), if_neg (by omega)]
  · simp only [hi, decide_false, Bool.false_and]

/-! ### The bytes of a committed block -/

/-- A scale state block of its parts: the first two words, AMAX_CUR 0, COMMITS, the history, the reserved bytes (R53). -/
def ssbBlock (w0 w1 commits : Nat) (hist rest : List Byte) : List Byte :=
  leBytes 4 w0 ++ (leBytes 4 w1 ++ (leBytes 4 0 ++ (leBytes 4 commits ++ (hist ++ rest))))

section block
variable {w0 w1 commits : Nat} {hist rest : List Byte} (hhist : hist.length = 64) (hrest : rest.length = 16)

include hhist hrest in
theorem length_ssbBlock : (ssbBlock w0 w1 commits hist rest).length = 96 := by
  simp only [ssbBlock, List.length_append, length_leBytes, hhist, hrest]

theorem slice_ssbBlock_w0 (lo n : Nat) (h : lo + n ≤ 4) :
    slice (ssbBlock w0 w1 commits hist rest) lo n = slice (leBytes 4 w0) lo n :=
  slice_append_left _ _ _ _ (by rwa [length_leBytes])

theorem slice_ssbBlock_w1 : slice (ssbBlock w0 w1 commits hist rest) 4 4 = leBytes 4 w1 := rfl

theorem slice_ssbBlock_amax : slice (ssbBlock w0 w1 commits hist rest) 8 4 = leBytes 4 0 := rfl

theorem slice_ssbBlock_commits : slice (ssbBlock w0 w1 commits hist rest) 0xC 4 = leBytes 4 commits := rfl

include hhist in
theorem slice_ssbBlock_hist (lo n : Nat) (h : lo + n ≤ 64) :
    slice (ssbBlock w0 w1 commits hist rest) (0x10 + lo) n = slice hist lo n := by
  have hparts : slice (ssbBlock w0 w1 commits hist rest) (0x10 + lo) n = slice (hist ++ rest) lo n := by
    rw [Nat.add_comm]; rfl
  rw [hparts, slice_append_left _ _ _ _ (by rwa [hhist])]

include hhist hrest in
theorem slice_ssbBlock_rest : slice (ssbBlock w0 w1 commits hist rest) 0x50 16 = rest := by
  have hparts : slice (ssbBlock w0 w1 commits hist rest) 0x50 16 = slice (hist ++ rest) (hist.length + 0) 16 := by
    rw [hhist]; rfl
  rw [hparts, slice_append_right, ← hrest, slice_self]
end block

/-- Whether AMAX_CUR is NaN or infinite. -/
def ssbNonFinite (b : List Byte) : Bool := (f32 (BitVec.ofNat 32 (leAt b 8 4))).nonFinite

/-- HEAD after a commit of a finite AMAX_CUR (R57). -/
def ssbNextHead (b : List Byte) : Nat := (wfld (BitVec.ofNat 32 (leAt b 0 4)) 24 4 + 1) % 16

theorem ssbNextHead_lt (b : List Byte) : ssbNextHead b < 16 := Nat.mod_lt _ (by decide)

/-- The first word after a commit: NF_SEEN set, or HEAD moved on (R57). -/
def ssbWord0 (b : List Byte) : Word :=
  if ssbNonFinite b then setBit (BitVec.ofNat 32 (leAt b 0 4)) 29 true
  else setFld (BitVec.ofNat 32 (leAt b 0 4)) 24 4 (ssbNextHead b)

/-- The history after a commit: as it was, or with AMAX_CUR at the new HEAD (R57). -/
def ssbHistory (b : List Byte) : List Byte :=
  if ssbNonFinite b then slice b 0x10 64
  else slice b 0x10 (4 * ssbNextHead b) ++ slice b 8 4 ++ slice b (0x14 + 4 * ssbNextHead b) (60 - 4 * ssbNextHead b)

/-- What a commit may make of a block: its parts, the second word as it was under STATIC and TRACK (R57). -/
def SsbCommits (b : List Byte) (r : List Byte × Bool) : Prop :=
  ∃ w1 : Word,
    r = (ssbBlock (ssbWord0 b).toNat w1.toNat (leAt b 0xC 4 + 1) (ssbHistory b) (slice b 0x50 16), ssbNonFinite b) ∧
      (wfld (ssbWord0 b) 16 8 = 0 ∨ wfld (ssbWord0 b) 16 8 = 3 → w1 = BitVec.ofNat 32 (leAt b 4 4))

/-- A committed block is of that form, whether the scale is kept or found anew from the history (R57). -/
theorem ssbCommits_ssbCommitted (b : List Byte) : SsbCommits b (ssbCommitted b) := by
  have hnf : (f32 (BitVec.ofNat 32 (leNat (slice b 8 4)))).nonFinite = ssbNonFinite b := rfl
  have hparts : ∀ w1 : Word,
      (wfld (ssbWord0 b) 16 8 = 0 ∨ wfld (ssbWord0 b) 16 8 = 3 → w1 = BitVec.ofNat 32 (leAt b 4 4)) →
      SsbCommits b (leBytes 4 (ssbWord0 b).toNat ++ leBytes 4 w1.toNat ++ leBytes 4 0 ++ leBytes 4 (leAt b 0xC 4 + 1) ++
        ssbHistory b ++ slice b 0x50 16, ssbNonFinite b) :=
    fun w1 h => ⟨w1, by simp only [ssbBlock, List.append_assoc], h⟩
  unfold ssbCommitted
  cases h : ssbNonFinite b
  all_goals
    simp only [ssbWord0, ssbHistory, ssbNextHead, h, hnf, if_true, if_false, Bool.false_eq_true] at hparts ⊢
    split
    · exact hparts _ fun _ => rfl
    · refine iteInduction (motive := SsbCommits b) (fun _ => hparts _ fun _ => rfl) fun hpol => ?_
      exact iteInduction (motive := SsbCommits b) (fun _ => hparts _ fun _ => rfl) fun _ =>
        hparts _ fun hkeep => absurd (hkeep.imp_right .inl) hpol

/-! ### What the commit leaves in each field -/

/-- A byte of the first word, as that word's field. -/
theorem leAt_leBytes_word (w : Word) (i : Nat) (h : i < 4) : leAt (leBytes 4 w.toNat) i 1 = wfld w (8 * i) 8 := by
  have hfield : wfld w (8 * i) 8 = w.toNat / (2 ^ 8) ^ i % 2 ^ 8 := by
    rw [wfld, fld, Nat.shiftRight_eq_div_pow, Nat.pow_mul]
  exact (leAt_leBytes 4 i 1 _ (by omega)).trans hfield.symm

/-- A byte of a block's first word. -/
theorem leAt_ssbWord (b : List Byte) (hb : b.length = 96) (i : Nat) (h : i < 4) :
    leAt b i 1 = wfld (BitVec.ofNat 32 (leAt b 0 4)) (8 * i) 8 := by
  have hlt : leAt b 0 4 < 2 ^ 32 := leAt_lt b 0 4 (by omega)
  rw [← leAt_leBytes_word _ _ h, BitVec.toNat_ofNat, Nat.mod_eq_of_lt hlt, leBytes_leAt b 0 4 (by omega), leAt, leAt,
    slice_slice _ _ _ _ _ (by omega), Nat.zero_add]

/-- The low bits of a field. -/
theorem wfld_mod (v : Word) (lo w n : Nat) (h : n ≤ w) : wfld v lo w % 2 ^ n = wfld v lo n := by
  rw [wfld, wfld, fld, fld, Nat.mod_mod_of_dvd _ (Nat.pow_dvd_pow 2 h)]

/-- A commit does not move POLICY. -/
theorem wfld_ssbWord0_policy (b : List Byte) (hb : b.length = 96) : wfld (ssbWord0 b) 16 8 = leAt b 2 1 := by
  rw [leAt_ssbWord b hb 2 (by decide), ssbWord0]
  split
  · exact wfld_setFld_ne _ _ _ _ _ _ (by decide) (by decide)
  · exact wfld_setFld_ne _ _ _ _ _ _ (by decide) (by decide)

/-- HEAD before a commit, in the block's byte 3. -/
theorem ssbNextHead_eq (b : List Byte) (hb : b.length = 96) : ssbNextHead b = (leAt b 3 1 % 16 + 1) % 16 := by
  rw [ssbNextHead, leAt_ssbWord b hb 3 (by decide), show (16 : Nat) = 2 ^ 4 from rfl, wfld_mod _ _ _ _ (by decide)]

theorem length_ssbHistory (b : List Byte) (hb : b.length = 96) : (ssbHistory b).length = 64 := by
  have hhead := ssbNextHead_lt b
  rw [ssbHistory]
  split
  · exact length_slice _ _ _ (by omega)
  · rw [List.length_append, List.length_append, length_slice _ _ _ (by omega), length_slice _ _ _ (by omega),
      length_slice _ _ _ (by omega)]
    omega

/-- The history after a commit of a finite AMAX_CUR: that at the new HEAD, the others as they were (R57). -/
theorem slice_ssbHistory (b : List Byte) (hb : b.length = 96) (hfin : ssbNonFinite b = false) (i : Nat) (hi : i < 16) :
    slice (ssbHistory b) (4 * i) 4 = if i = ssbNextHead b then slice b 8 4 else slice b (0x10 + 4 * i) 4 := by
  have hhead := ssbNextHead_lt b
  have hbefore : (slice b 0x10 (4 * ssbNextHead b)).length = 4 * ssbNextHead b := length_slice _ _ _ (by omega)
  have hamax : (slice b 8 4).length = 4 := length_slice _ _ _ (by omega)
  rw [ssbHistory, hfin, if_neg (by decide), List.append_assoc]
  rcases Nat.lt_trichotomy i (ssbNextHead b) with hlt | rfl | hgt
  · rw [if_neg (by omega), slice_append_left _ _ _ _ (by omega), slice_slice _ _ _ _ _ (by omega)]
  · have hat := slice_append_right (slice b 0x10 (4 * ssbNextHead b))
      (slice b 8 4 ++ slice b (0x14 + 4 * ssbNextHead b) (60 - 4 * ssbNextHead b)) 0 4
    rw [hbefore, Nat.add_zero] at hat
    rw [if_pos rfl, hat, slice_append_left _ _ _ _ (by omega), slice_slice _ _ _ _ _ (by omega)]
  · obtain ⟨j, rfl⟩ := Nat.exists_eq_add_of_lt hgt
    have hat := slice_append_right (slice b 0x10 (4 * ssbNextHead b) ++ slice b 8 4)
      (slice b (0x14 + 4 * ssbNextHead b) (60 - 4 * ssbNextHead b)) (4 * j) 4
    rw [List.length_append, hbefore, hamax, List.append_assoc] at hat
    rw [if_neg (by omega), show 4 * (ssbNextHead b + j + 1) = 4 * ssbNextHead b + 4 + 4 * j by omega, hat,
      slice_slice _ _ _ _ _ (by omega)]
    congr 1
    omega

theorem ssbCommitted_snd (b : List Byte) : (ssbCommitted b).2 = ssbNonFinite b := by
  obtain ⟨w1, hr, -⟩ := ssbCommits_ssbCommitted b
  rw [hr]

theorem length_ssbCommitted (b : List Byte) (hb : b.length = 96) : (ssbCommitted b).1.length = 96 := by
  obtain ⟨w1, hr, -⟩ := ssbCommits_ssbCommitted b
  rw [hr, length_ssbBlock (length_ssbHistory b hb) (length_slice _ _ _ (by omega))]

theorem leAt_ssbCommitted_amax (b : List Byte) : leAt (ssbCommitted b).1 8 4 = 0 := by
  obtain ⟨w1, hr, -⟩ := ssbCommits_ssbCommitted b
  rw [hr, leAt, slice_ssbBlock_amax, leNat_leBytes, Nat.zero_mod]

theorem leAt_ssbCommitted_commits (b : List Byte) :
    leAt (ssbCommitted b).1 0xC 4 = (leAt b 0xC 4 + 1) % 2 ^ 32 := by
  obtain ⟨w1, hr, -⟩ := ssbCommits_ssbCommitted b
  rw [hr, leAt, slice_ssbBlock_commits]
  exact leNat_leBytes 4 _

theorem slice_ssbCommitted_reserved (b : List Byte) (hb : b.length = 96) :
    slice (ssbCommitted b).1 0x50 16 = slice b 0x50 16 := by
  obtain ⟨w1, hr, -⟩ := ssbCommits_ssbCommitted b
  rw [hr, slice_ssbBlock_rest (length_ssbHistory b hb) (length_slice _ _ _ (by omega))]

theorem slice_ssbCommitted_history (b : List Byte) (hb : b.length = 96) (lo n : Nat) (h : lo + n ≤ 64) :
    slice (ssbCommitted b).1 (0x10 + lo) n = slice (ssbHistory b) lo n := by
  obtain ⟨w1, hr, -⟩ := ssbCommits_ssbCommitted b
  rw [hr, slice_ssbBlock_hist (length_ssbHistory b hb) _ _ h]

/-- Byte 3 of a committed block: HEAD and the flags. -/
theorem leAt_ssbCommitted_flags (b : List Byte) : leAt (ssbCommitted b).1 3 1 = wfld (ssbWord0 b) 24 8 := by
  obtain ⟨w1, hr, -⟩ := ssbCommits_ssbCommitted b
  rw [hr, leAt, slice_ssbBlock_w0 _ _ (by decide), ← leAt, leAt_leBytes_word _ _ (by decide)]

/-- HEAD of a committed block (R53). -/
theorem leAt_ssbCommitted_head (b : List Byte) : leAt (ssbCommitted b).1 3 1 % 16 = wfld (ssbWord0 b) 24 4 := by
  rw [leAt_ssbCommitted_flags]
  exact wfld_mod _ 24 8 4 (by decide)

/-- A STATIC or TRACK policy leaves the scale as it is (R57). -/
theorem leAt_ssbCommitted_scale (b : List Byte) (hb : b.length = 96) (hpol : leAt b 2 1 = 0 ∨ leAt b 2 1 = 3) :
    leAt (ssbCommitted b).1 4 4 = leAt b 4 4 := by
  obtain ⟨w1, hr, hscale⟩ := ssbCommits_ssbCommitted b
  rw [← wfld_ssbWord0_policy b hb] at hpol
  have hlt : leAt b 4 4 < 2 ^ 32 := leAt_lt b 4 4 (by omega)
  rw [hr, leAt, slice_ssbBlock_w1, leNat_leBytes, hscale hpol, BitVec.toNat_ofNat, Nat.mod_eq_of_lt hlt]
  exact Nat.mod_eq_of_lt hlt

/-- A NaN or infinite AMAX_CUR leaves the history and HEAD and sets NF_SEEN (R57). -/
theorem ssbCommitted_nonFinite (b : List Byte) (hb : b.length = 96) (hnf : ssbNonFinite b = true) :
    slice (ssbCommitted b).1 0x10 64 = slice b 0x10 64 ∧ leAt (ssbCommitted b).1 3 1 % 16 = leAt b 3 1 % 16 ∧
      (leAt (ssbCommitted b).1 3 1).testBit 5 = true := by
  refine ⟨?_, ?_, ?_⟩
  · rw [show 0x10 = 0x10 + 0 from rfl, slice_ssbCommitted_history b hb _ _ (by decide), ssbHistory, if_pos hnf,
      slice_slice _ _ _ _ _ (by decide)]
  · rw [leAt_ssbCommitted_head, ssbWord0, if_pos hnf, setBit, wfld_setFld_ne _ _ _ _ _ _ (by decide) (by decide),
      leAt_ssbWord b hb 3 (by decide)]
    exact (wfld_mod _ 24 8 4 (by decide)).symm
  · rw [leAt_ssbCommitted_flags, testBit_wfld, ssbWord0, if_pos hnf]
    exact (congrArg _ (getLsbD_setBit _ 29 true (by decide))).trans (Bool.and_true _)

/-- A finite AMAX_CUR moves HEAD on and stands in the history there (R57). -/
theorem ssbCommitted_finite (b : List Byte) (hb : b.length = 96) (hfin : ssbNonFinite b = false) :
    leAt (ssbCommitted b).1 3 1 % 16 = ssbNextHead b ∧
      leAt (ssbCommitted b).1 (0x10 + 4 * ssbNextHead b) 4 = leAt b 8 4 ∧
      ∀ i, i < 16 → i ≠ ssbNextHead b → leAt (ssbCommitted b).1 (0x10 + 4 * i) 4 = leAt b (0x10 + 4 * i) 4 := by
  have hhead := ssbNextHead_lt b
  refine ⟨?_, ?_, fun i hi hne => ?_⟩
  · rw [leAt_ssbCommitted_head, ssbWord0, hfin, if_neg (by decide), wfld_setFld _ _ _ _ (by decide)]
    exact Nat.mod_eq_of_lt hhead
  · rw [leAt, slice_ssbCommitted_history b hb _ _ (by omega), slice_ssbHistory b hb hfin _ hhead, if_pos rfl, leAt]
  · rw [leAt, slice_ssbCommitted_history b hb _ _ (by omega), slice_ssbHistory b hb hfin i hi, if_neg hne, leAt]

/-! ### Cores that differ in their sequencer, counts and network interface -/

/-- A core with the sequencer, the W64 counters and the network interface replaced. -/
def Core.withSeq (c : Core) (q : Seqr) (t : Tbl DWord) (n : NetIf) : Core := { c with seqr := q, w64 := t, net := n }

section withSeq
variable (c : Core) (q : Seqr) (t : Tbl DWord) (n : NetIf)

theorem Core.bump_withSeq (off m : Nat) : (c.withSeq q t n).bump off m = (c.bump off m).withSeq q t n := by
  unfold Core.bump
  split
  · rfl
  · dsimp only
    have hreg : ∀ o, (c.withSeq q t n).reg o = c.reg o := fun _ => rfl
    simp only [hreg]
    split <;> rfl

theorem Core.noteEcc_withSeq (src ce ue cw : Nat) :
    (c.withSeq q t n).noteEcc src ce ue cw = (c.noteEcc src ce ue cw).withSeq q t n := by
  have hreg : ∀ (d : Core) o, (d.withSeq q t n).reg o = d.reg o := fun _ _ => rfl
  simp only [Core.noteEcc, Core.bump_withSeq, hreg]
  split <;> rfl

theorem Core.dropScrub_withSeq (a m : Nat) : (c.withSeq q t n).dropScrub a m = (c.dropScrub a m).withSeq q t n := by
  have hbank : ∀ b, (c.withSeq q t n).bank b = c.bank b := fun _ => rfl
  unfold Core.dropScrub
  simp only [hbank]
  split
  · rfl
  · split
    · split <;> rfl
    · rfl

/-- A read finds the same bytes. -/
theorem Core.sramRead_withSeq (src a m : Nat) :
    (c.withSeq q t n).sramRead src a m = ((c.sramRead src a m).1.withSeq q t n, (c.sramRead src a m).2) := by
  rw [Core.sramRead, Core.noteEcc_withSeq]; rfl

/-- A write stores the same bytes. -/
theorem Core.sramWrite_withSeq (src a : Nat) (b : List Byte) :
    (c.withSeq q t n).sramWrite src a b = ((c.sramWrite src a b).1.withSeq q t n, (c.sramWrite src a b).2) := by
  have hsram : (c.withSeq q t n).sram = c.sram := rfl
  simp only [Core.sramWrite, hsram, Core.noteEcc_withSeq, Core.dropScrub_withSeq]
  split <;> rfl
end withSeq

/-- What an instruction leaves in its core is the core's but for those parts. -/
theorem SeqKeeps.eq_withSeq {c d : Core} (h : SeqKeeps c d) : d = c.withSeq d.seqr d.w64 d.net := by
  rw [h.core]; rfl

/-- The same in another core with that sequencer and network interface. -/
theorem SeqKeeps.withSeq {c d e : Core} (h : SeqKeeps c d) (hq : e.seqr = c.seqr) (hn : e.net = c.net) :
    SeqKeeps e (e.withSeq d.seqr d.w64 d.net) := by
  have hctx : ∀ i, e.ctxAt i = c.ctxAt i := fun i => by rw [Core.ctxAt, hq]; rfl
  have hnet : d.net = { c.net with stall := d.net.stall } := congrArg Core.net h.core
  refine ⟨?_, ?_, fun i hi hne => ?_⟩
  · change _ = { e with seqr := d.seqr, w64 := d.w64, net := { e.net with stall := d.net.stall } }
    rw [hn, ← hnet]; rfl
  · rw [hq]; exact h.seqr
  · rw [hctx, ← h.others i hi (by rw [← hq]; exact hne)]; rfl

/-- A core with the commit of the block `b` at an offset written, a NaN or infinite AMAX_CUR counted (R57). -/
def Core.committed (c : Core) (off : Nat) (b : List Byte) : Core :=
  if (ssbCommitted b).2 then (c.sramWrite 2 off (ssbCommitted b).1).1.bump 0x10022C 1
  else (c.sramWrite 2 off (ssbCommitted b).1).1

theorem Core.committed_withSeq (c : Core) (q : Seqr) (t : Tbl DWord) (n : NetIf) (off : Nat) (b : List Byte) :
    (c.withSeq q t n).committed off b = (c.committed off b).withSeq q t n := by
  simp only [Core.committed, Core.sramWrite_withSeq, Core.bump_withSeq]
  split <;> rfl

/-- A commit leaves the sequencer and the network interface as they were. -/
theorem Core.committed_seqr_net (c : Core) (off : Nat) (b : List Byte) :
    (c.committed off b).seqr = c.seqr ∧ (c.committed off b).net = c.net := by
  have h := c.committed_withSeq c.seqr c.w64 c.net off b
  have hc : c.withSeq c.seqr c.w64 c.net = c := rfl
  rw [hc] at h
  exact ⟨(congrArg Core.seqr h).trans rfl, (congrArg Core.net h).trans rfl⟩

/-! ### Putting a core in states that differ in cores alone -/

/-- A state with its cores replaced. -/
def State.withCores (s : State) (cs : Tbl Core) : State := { s with cores := cs }

theorem State.onlyCore.eq_withCores {k : SiteId} {s t : State} (h : s.onlyCore k t) : t = s.withCores t.cores := h.1

theorem State.withCores_raiseVec (s : State) (cs : Tbl Core) (v : Nat) :
    (s.withCores cs).raiseVec v = (s.raiseVec v).withCores cs := by
  have hmsix : (s.withCores cs).host = s.host := rfl
  simp only [State.raiseVec, hmsix]
  split <;> rfl

theorem State.withCores_eventPost (s : State) (cs : Tbl Core) :
    eventPost (s.withCores cs) = (eventPost s).withCores cs := by
  have hnext : (s.withCores cs).nextEvent = s.nextEvent := rfl
  cases h : s.nextEvent with
  | none => rw [eventPost_none s h, eventPost_none _ (hnext.trans h)]
  | some ce =>
    obtain ⟨c, e⟩ := ce
    cases hw : s.eventsOpen && s.cplRoom (wfld (s.bar 0x20004) 0 6) with
    | false =>
      have hshut := Bool.and_eq_false_iff.mp hw
      rw [eventPost_waits s c e h hshut, eventPost_waits _ c e (hnext.trans h) hshut]
    | true =>
      obtain ⟨hopen, hroom⟩ := Bool.and_eq_true_iff.mp hw
      rw [eventPost_posts s c e h hopen hroom, eventPost_posts _ c e (hnext.trans h) hopen hroom,
        ← State.withCores_raiseVec]
      rfl

theorem State.withCores_postThrough (cls n : Nat) (s : State) (cs : Tbl Core) :
    (s.withCores cs).postThrough cls n = (s.postThrough cls n).withCores cs := by
  induction n generalizing s with
  | zero => rfl
  | succ n ih =>
    rw [State.postThrough, State.postThrough, State.withCores_eventPost, ih]
    exact (apply_ite (State.withCores · cs) _ _ _).symm

/-- Raising an event neither reads nor changes the cores (R337). -/
theorem State.withCores_raise (s : State) (cs : Tbl Core) (cls : Nat) (d : BitVec 128) :
    (s.withCores cs).raise cls d = (s.raise cls d).withCores cs := by
  have hseen : (s.withCores cs).markSeen cls = (s.markSeen cls).withCores cs := by
    unfold State.markSeen; split <;> rfl
  unfold State.raise
  dsimp only
  rw [hseen, State.withCores_postThrough]
  have hmask : ∀ u : State, (u.withCores cs).eventMasked cls = u.eventMasked cls := fun _ => rfl
  have hopen : ∀ u : State, (u.withCores cs).eventsOpen = u.eventsOpen := fun _ => rfl
  simp only [hmask, hopen]
  split <;> rfl

/-- Nor does raising COUNTER_OVF for each counter that has saturated (R12). -/
theorem State.withCores_noteOvf (e : Nat) (l : List (Nat × Nat)) (s : State) (cs : Tbl Core) :
    l.foldl (fun t ob => t.raise 0x16 (evData e ob.1 ob.2)) (s.withCores cs) =
      (l.foldl (fun t ob => t.raise 0x16 (evData e ob.1 ob.2)) s).withCores cs := by
  induction l generalizing s with
  | nil => rfl
  | cons ob l ih => rw [List.foldl_cons, List.foldl_cons, State.withCores_raise, ih]

theorem newOvf_congr {c d c' d' : Core} (h : c'.regs = c.regs) (h' : d'.regs = d.regs) : newOvf c' d' = newOvf c d := by
  have hreg : ∀ o, c'.reg o = c.reg o := fun o => by rw [Core.reg, h, Core.reg]
  have hreg' : ∀ o, d'.reg o = d.reg o := fun o => by rw [Core.reg, h', Core.reg]
  simp only [newOvf, hreg, hreg']

/-- Cores with the same registers, put in states that differ in that core alone, leave such states: the same counters
saturate (R12). -/
theorem State.onlyCore.putCore {s t : State} {k : SiteId} {c d : Core} (hst : s.onlyCore k t)
    (hold : (t.core k).regs = (s.core k).regs) (hnew : d.regs = c.regs) : (s.putCore k c).onlyCore k (t.putCore k d) := by
  have hothers : ∀ j, j ≠ k → (t.putCore k d).core j = (s.putCore k c).core j := fun j hj => by
    rw [(t.putCore_noted k d).1.2 j hj, (s.putCore_noted k c).1.2 j hj, hst.2 j hj]
  refine ⟨?_, hothers⟩
  suffices h : ∃ cs, t.putCore k d = (s.putCore k c).withCores cs by
    obtain ⟨cs, h⟩ := h
    rw [h]; rfl
  have ht := hst.eq_withCores
  have hreg : ∀ o, (t.core k).reg o = (s.core k).reg o := fun o => by rw [Core.reg, hold, Core.reg]
  have hreg' : ∀ o, d.reg o = c.reg o := fun o => by rw [Core.reg, hnew, Core.reg]
  have hset : ∀ n, (t.setCore k d).noteRisk n 0 0 =
      ((s.setCore k c).noteRisk n 0 0).withCores (t.setCore k d).cores := fun n => by rw [ht]; rfl
  have hepid : t.fab.epidAt t.curVer k = s.fab.epidAt s.curVer k := by rw [ht]; rfl
  unfold State.putCore
  simp only [newOvf_congr hold hnew, hreg, hreg', hset, hepid]
  split
  · exact ⟨_, rfl⟩
  · split
    · exact ⟨_, rfl⟩
    · refine ⟨(t.setCore k d).cores, ?_⟩
      exact State.withCores_noteOvf _ _ _ _

/-! ### SSBC -/

theorem State.onlyCore_setCore_self (s : State) (k : SiteId) (c : Core) : s.onlyCore k (s.setCore k c) :=
  State.onlyCore_setCore c (State.onlyCore_refl k s)

theorem Core.sreg_of_cur {c d : Core} (h : d.cur = c.cur) (n : Nat) : d.sreg n = c.sreg n := by
  rw [Core.sreg, h, Core.sreg]

theorem Core.cur_of_seqr {c d : Core} (h : d.seqr = c.seqr) : d.cur = c.cur := by
  rw [Core.cur, Core.ctxAt, h]; rfl

/-- An SSBC of an offset that is not aligned or runs past the SRAM raises ADDR (R133). -/
theorem seqSsbc_badOffset (s : State) (k : SiteId) (w : Word)
    (h : ((s.core k).sreg (insnRa w)).toNat % 32 ≠ 0 ∨ 0x40000 < ((s.core k).sreg (insnRa w)).toNat + 96) :
    seqSsbc k w s = s.seqException k 2 0 w := if_pos h

section offset
variable {s : State} {k : SiteId} {w : Word} {off : Nat} (hoff : ((s.core k).sreg (insnRa w)).toNat = off)
  (halign : off % 32 = 0) (hin : off + 96 ≤ 0x40000) (hup : (s.core k).sramUp off 96 = true)
include hoff halign hin hup

/-- An SSBC waits while an operation that names the block has not merged (R57). -/
theorem seqSsbc_owed (howed : (s.core k).ssbOwed off = true) :
    seqSsbc k w s = s.setCore k ((s.core k).setWait (.commit off)) := by
  rw [seqSsbc, hoff]
  simp only [halign, hup, howed, ne_eq, not_true_eq_false, false_or, Nat.not_lt.mpr hin, if_false, if_true, Bool.not_true,
    Bool.false_eq_true]

/-- With all merged it commits (R57). -/
theorem seqSsbc_commits (howed : (s.core k).ssbOwed off = false) : seqSsbc k w s = s.ssbCommit k w off := by
  rw [seqSsbc, hoff]
  simp only [halign, hup, howed, ne_eq, not_true_eq_false, false_or, Nat.not_lt.mpr hin, if_false, Bool.not_true,
    Bool.false_eq_true]
end offset

section read
variable {s : State} {k : SiteId} {off : Nat} {b : List Byte} (w : Word)
  (hread : (s.core k).sramRead 2 off 96 = (s.core k, some b))
include hread

/-- An invalid block raises SSB and is left as it is (R57). -/
theorem State.ssbCommit_invalid (hvalid : ssbValid b none = false) :
    s.ssbCommit k w off = (s.setCore k (s.core k)).seqException k 7 0 w := by
  simp only [State.ssbCommit, hread, hvalid, Bool.not_false, if_true, State.putCore_regs s k (s.core k) rfl]

/-- A valid block is committed and the SSBC retires (R57). -/
theorem State.ssbCommit_valid (hvalid : ssbValid b none = true) :
    s.ssbCommit k w off = (s.putCore k ((s.core k).committed off b)).retire k w 4 := by
  simp only [State.ssbCommit, hread, hvalid, Bool.not_true, Bool.false_eq_true, if_false]; rfl
end read

/-- An exception raised in a state that differs in its core's counts and delays alone is one at the state before it
(R133). -/
theorem SeqTraps.of_seqKeeps {i : Instr} {s u : State} {k : SiteId} {w : Word} {cause code : Nat} (honly : s.onlyCore k u)
    (hkeeps : SeqKeeps (s.core k) (u.core k)) (hcur : (u.core k).cur = (s.core k).cur)
    (hexec : exec i s = .next (u.seqException k cause code w)) : SeqTraps i s k cause code w := by
  refine SeqTraps.of_exception hexec ?_ ?_ ?_ ?_
  · rw [hkeeps.seqr]
  · rw [hcur]
  · rw [hkeeps.core]; rfl
  · rw [honly.eq_withCores]; rfl

section ssbc
variable {s : State} {k : SiteId} {w : Word} (h : SeqAt s k 0x1C w)
include h

/-- SSBC runs on a core that differs from the one before it in its sequencer and counts alone (R118). -/
theorem SeqAt.exec_ssbc :
    ∃ q t n, exec (.ssbc k) s = .next (seqSsbc k w (s.setCore k ((s.core k).withSeq q t n))) ∧
      SeqKeeps (s.core k) ((s.core k).withSeq q t n) ∧ ((s.core k).withSeq q t n).cur = (s.core k).cur := by
  have hkeeps := SeqKeeps.awaitSrcs (s.core k) w
  have hcur := Core.cur_awaitSrcs (s.core k) w
  have hexec : exec (.ssbc k) s = .next (seqSsbc k w (s.setCore k ((s.core k).awaitSrcs w))) :=
    congrArg Host.Outcome.next (h.run (seqSsbc k))
  have hparts := hkeeps.eq_withSeq
  rw [hparts] at hexec hkeeps hcur
  exact ⟨_, _, _, hexec, hkeeps, hcur⟩

theorem SeqAt.ssbc_badOffset
    (hbad : ((s.core k).sreg (insnRa w)).toNat % 32 ≠ 0 ∨ 0x40000 < ((s.core k).sreg (insnRa w)).toNat + 96) :
    SeqTraps (.ssbc k) s k 2 0 w := by
  obtain ⟨q, t, n, hexec, hkeeps, hcur⟩ := h.exec_ssbc
  rw [seqSsbc_badOffset _ _ _ (by rwa [State.core_setCore, Core.sreg_of_cur hcur])] at hexec
  exact SeqTraps.of_seqKeeps (s.onlyCore_setCore_self k _) (by rwa [State.core_setCore])
    (by rwa [State.core_setCore]) hexec

section offset
variable {off : Nat} (hoff : ((s.core k).sreg (insnRa w)).toNat = off) (halign : off % 32 = 0)
  (hin : off + 96 ≤ 0x40000) (hup : (s.core k).sramUp off 96 = true)
include hoff halign hin hup

theorem SeqAt.ssbc_waits (howed : (s.core k).ssbOwed off = true) : Waits (.ssbc k) s k (.commit off) := by
  obtain ⟨q, t, n, hexec, hkeeps, hcur⟩ := h.exec_ssbc
  rw [seqSsbc_owed (by rwa [State.core_setCore, Core.sreg_of_cur hcur]) halign hin (by rwa [State.core_setCore])
    (by rwa [State.core_setCore]), State.core_setCore] at hexec
  refine ⟨_, hexec, State.onlyCore_setCore _ (s.onlyCore_setCore_self k _), ?_, ?_, ?_⟩
  · rw [State.core_setCore]; exact hkeeps.trans (SeqKeeps.setWait _ _)
  · rw [State.core_setCore]; exact hcur
  · rw [State.core_setCore]; rfl

variable {b : List Byte} (howed : (s.core k).ssbOwed off = false)
  (hread : (s.core k).sramRead 2 off 96 = (s.core k, some b))
include howed hread

/-- The commit is that of the block read at the offset. -/
theorem SeqAt.exec_ssbc_commits :
    ∃ d, exec (.ssbc k) s = .next ((s.setCore k d).ssbCommit k w off) ∧ d.sramRead 2 off 96 = (d, some b) ∧
      SeqKeeps (s.core k) d ∧ d.cur = (s.core k).cur := by
  obtain ⟨q, t, n, hexec, hkeeps, hcur⟩ := h.exec_ssbc
  rw [seqSsbc_commits (by rwa [State.core_setCore, Core.sreg_of_cur hcur]) halign hin (by rwa [State.core_setCore])
    (by rwa [State.core_setCore])] at hexec
  exact ⟨_, hexec, by rw [Core.sramRead_withSeq, hread], hkeeps, hcur⟩

theorem SeqAt.ssbc_invalid (hvalid : ssbValid b none = false) : SeqTraps (.ssbc k) s k 7 0 w := by
  obtain ⟨d, hexec, hreadd, hkeeps, hcur⟩ := h.exec_ssbc_commits hoff halign hin hup howed hread
  rw [State.ssbCommit_invalid w (by rwa [State.core_setCore]) hvalid, State.core_setCore] at hexec
  exact SeqTraps.of_seqKeeps (State.onlyCore_setCore _ (s.onlyCore_setCore_self k d)) (by rwa [State.core_setCore])
    (by rwa [State.core_setCore]) hexec

theorem SeqAt.ssbc_retires (hvalid : ssbValid b none = true) :
    Retires (.ssbc k) s (s.putCore k ((s.core k).committed off b)) k 0 0 := by
  obtain ⟨d, hexec, hreadd, hkeeps, hcur⟩ := h.exec_ssbc_commits hoff halign hin hup howed hread
  rw [State.ssbCommit_valid w (by rwa [State.core_setCore]) hvalid, State.core_setCore] at hexec
  obtain ⟨hseqr, hnet⟩ := (s.core k).committed_seqr_net off b
  have hcommits : d.committed off b = ((s.core k).committed off b).withSeq d.seqr d.w64 d.net := by
    rw [← Core.committed_withSeq, ← hkeeps.eq_withSeq]
  have hcur' : (d.committed off b).cur = ((s.core k).committed off b).cur := by
    rw [Core.cur_of_seqr hseqr, ← hcur, hcommits]; rfl
  refine Retires.of_retire hexec (State.onlyCore.putCore (s.onlyCore_setCore_self k d) ?_ ?_) ?_ ?_ ?_ ?_ ?_
    fun i _ => ?_
  · rw [State.core_setCore, hkeeps.core]
  · rw [hcommits]; rfl
  all_goals rw [(s.putCore_noted k _).2, (State.putCore_noted _ k _).2]
  · rw [hcommits]; exact hkeeps.withSeq hseqr hnet
  · rw [hcur']; exact Ctx.keeps_refl _
  · rw [hcur']
  · rw [hcur']
  · rw [hcur']
  · rw [if_neg (fun hrd => hrd.2 rfl), Core.sreg_of_cur hcur']
end offset
end ssbc

/-- Settles O20: what each case of an SSBC does, and what each field of the block holds after its commit. -/
theorem ssbCommit : Obligations.SsbCommit := by
  unfold Obligations.SsbCommit
  refine ⟨fun s k w h => ⟨h.ssbc_badOffset, h.ssbc_waits rfl, fun b halign hin hup howed hread =>
    ⟨h.ssbc_invalid rfl halign hin hup howed hread, h.ssbc_retires rfl halign hin hup howed hread⟩⟩,
    fun b hb => ?_⟩
  refine ⟨length_ssbCommitted b hb, leAt_ssbCommitted_amax b, leAt_ssbCommitted_commits b,
    slice_ssbCommitted_reserved b hb, ssbCommitted_snd b, ssbCommitted_nonFinite b hb, fun hfin => ?_,
    leAt_ssbCommitted_scale b hb⟩
  rw [← ssbNextHead_eq b hb]
  exact ssbCommitted_finite b hb hfin

end Sys2Proof.Machine
end
